-- ==== Sys2Proof/Word.lean ====
section
/-! DEFINITION. The plain types every other file uses: bytes, the numbers that name the rack's units,
and the time unit of the model. -/

namespace Sys2Proof

/-- One byte of a host line or bay line body (spec/11, R180). -/
abbrev Byte := BitVec 8

/-- Arms 1..8 (spec/00, naming conventions); `a.val + 1` is the number the manual prints. -/
abbrev ArmNo := Fin 8

/-- Bays 1..4. -/
abbrev BayNo := Fin 4

/-- Injectors 1..6. -/
abbrev InjNo := Fin 6

/-- Pumps 1..8. -/
abbrev PumpNo := Fin 8

/-- Products 1..12. -/
abbrev ProductNo := Fin 12

/-- Compartments of a tanker, 1..8 within an order. -/
abbrev CompNo := Fin 8

/-- The number the manual gives a unit: units count from 1. -/
def unitNo {n : Nat} (i : Fin n) : Nat := i.val + 1

/-- Model time counts in ticks of 10 µs: every time the manual states is a whole number of them. -/
def ticksPerSecond : Nat := 100000

/-- Ticks in 0.1 s, the unit of most configured times (R2). -/
def ticksPerTenth : Nat := 10000

/-- Ticks in one millisecond. -/
def ticksPerMs : Nat := 100

/-- All arm numbers in ascending order. -/
def allArms : List ArmNo := [0, 1, 2, 3, 4, 5, 6, 7]

/-- All bay numbers in ascending order. -/
def allBays : List BayNo := [0, 1, 2, 3]

/-- All injector numbers in ascending order. -/
def allInjs : List InjNo := [0, 1, 2, 3, 4, 5]

/-- All pump numbers in ascending order. -/
def allPumps : List PumpNo := [0, 1, 2, 3, 4, 5, 6, 7]

/-- All product numbers in ascending order. -/
def allProducts : List ProductNo := [0, 1, 2, 3, 4, 5, 6, 7, 8, 9, 10, 11]

end Sys2Proof
end

