-- ==== Sys2Proof/Config.lean ====
section
/-! DEFINITION. What the part fixes for good (times and limits the manual states as constants), and the
free values: constants without a body, for results the manual does not state. -/

namespace Sys2Proof.Config

/-- The metering interval, 250 ms (R19). -/
def intervalTicks : Nat := 250 * ticksPerMs

/-- The quiet time that makes a closed valve settled, 2.0 s (R48). -/
def quietTicks : Nat := 2 * ticksPerSecond

/-- The longest time between temperature records, 2.0 s (R14). -/
def recordTicks : Nat := 2 * ticksPerSecond

/-- The setup window, 900 s (R163). -/
def setupTicks : Nat := 900 * ticksPerSecond

/-- The fixed noise filter of an ADDITIVE PULSE pin, 100 µs (R69). -/
def additiveFilterTicks : Nat := 10

/-- The modulus of totalisers and unattended volumes, 10^15 µL (R2, R27, R29). -/
def totaliserModulus : Nat := 1000000000000000

/-- Microlitres in a decilitre (R2). -/
def microPerDeci : Nat := 100000

/-- The size of the permit table (R86). -/
def permitCapacity : Nat := 512

/-- The size of the order book (spec/05, Orders; R96). -/
def orderCapacity : Nat := 32

/-- The size of the note store (R146). -/
def noteCapacity : Nat := 64

/-- The largest note number (R148). -/
def lastNoteNumber : Nat := 999999

/-- The length of an injector queue (R70). -/
def queueLength : Nat := 4

/-- The value at which a permit's used figure saturates (R103). -/
def usedLimit : Nat := 4294967295

/-- How many internal requests one command may cause before the rest waits for the next command
(assumption 4). -/
def requestFuel : Nat := 4096

/-- FREE VALUE (assumption 16, DESIGN CHOICE): what a 64-bit unsigned accumulator holds after an
addition whose sum does not fit; R2 and R28 give the width and state no result there. -/
opaque freeSum64 : Nat → BitVec 64

/-- FREE VALUE (assumption 16, DESIGN CHOICE): the same for the signed 64-bit temperature sum. -/
opaque freeSigned64 : Int → BitVec 64

/-- FREE VALUE (assumption 17, DESIGN CHOICE): what a byte field of a reply, a note or a SHOW carries when
the number it stands for does not fit its width; R180 to R185 state no result there. The arguments are
the width in bytes and the number. -/
opaque freeField : Nat → Nat → Nat

end Sys2Proof.Config
end

