-- ==== Sys2Proof/Syntax.lean ====
section
/-! DEFINITION. The commands of the BL-48: one constructor for each row of spec/opcode_table.json, with the
operands its rule names, and the operand types. -/

namespace Sys2Proof

/-- The two channels of a product meter (R3, R4). -/
inductive Channel where
  | a | b
  deriving DecidableEq, Repr

/-- A pin with a pulse noise filter: PULSE A or PULSE B of an arm (R3), or ADDITIVE PULSE of an injector
(R69). -/
inductive PulsePin where
  | product (arm : ArmNo) (channel : Channel)
  | additive (inj : InjNo)
  deriving DecidableEq, Repr

/-- The transmitter's own judgement of a reading (spec/01, Reading records). -/
inductive ProbeStatus where
  | good | fault
  deriving DecidableEq, Repr

/-- A reading record that has passed its form check: a signed 16-bit reading in 0.01 °C and a status
(spec/01, Reading records; R13). -/
structure ReadingRecord where
  reading : BitVec 16
  status : ProbeStatus
  deriving DecidableEq, Repr

/-- The two position switches of a valve (R58). -/
inductive ValveSwitch where
  | closed | opened
  deriving DecidableEq, Repr

/-- The three permit inputs of a bay (R112, R129). -/
inductive PermitInput where
  | ground | overfill | vapour
  deriving DecidableEq, Repr

/-- A supervision instance: its kind and, within the kind, its unit (R127). -/
inductive InstId where
  | estop
  | ground (bay : BayNo)
  | overfill (bay : BayNo)
  | vapour (bay : BayNo)
  | deadman (bay : BayNo)
  | valve (arm : ArmNo)
  | noFlow (arm : ArmNo)
  | meterPulse (arm : ArmNo)
  | tempProbe (arm : ArmNo)
  | overrun (arm : ArmNo)
  | leak (arm : ArmNo)
  | injNoFlow (inj : InjNo)
  | injDose (inj : InjNo)
  | injLeak (inj : InjNo)
  deriving DecidableEq, Repr

/-- The copies retained memory is checked by, each on its own (R168 step 2). -/
inductive RetainedCopy where
  | configuration
  | permits
  | notes
  | session (bay : BayNo)
  | totals (arm : ArmNo)
  | closeAhead (arm : ArmNo)
  | tripState
  deriving DecidableEq, Repr

/-- Where a valid host frame is addressed: to the strapped address, or to address 0 (R172, R173). -/
inductive Dest where
  | addressed | allCall
  deriving DecidableEq, Repr

/-- The commands, in the order of spec/opcode_table.json. -/
inductive Instr where
  /-- POWER_UP (R168): POWER-ON RESET is released. -/
  | powerUp
  /-- START_UP (R168): the start-up operation; `damaged` lists the retained copies that fail their check. -/
  | startUp (damaged : List RetainedCopy)
  /-- ACCEPTED_RISING_EDGE (R3). -/
  | acceptedRisingEdge (arm : ArmNo) (channel : Channel)
  /-- ACCEPTED_FALLING_EDGE (R3). -/
  | acceptedFallingEdge (pin : PulsePin)
  /-- PULSE_PIN_CHANGE (R3): the pin takes `level`. -/
  | pulsePinChange (pin : PulsePin) (level : Bool)
  /-- READING_RECORD (R13): `none` is a record that fails its form check. -/
  | readingRecord (arm : ArmNo) (record : Option ReadingRecord)
  /-- RECORD_TIMER_EXPIRY (R14). -/
  | recordTimerExpiry (arm : ArmNo)
  /-- INTERVAL_EXPIRY (R19). -/
  | intervalExpiry (arm : ArmNo)
  /-- VALVE_SWITCH_CHANGE (R58): the switch, after its filter, takes `level`. -/
  | valveSwitchChange (arm : ArmNo) (switch : ValveSwitch) (level : Bool)
  /-- TRAVEL_ALLOWANCE_EXPIRY (R58). -/
  | travelAllowanceExpiry (arm : ArmNo)
  /-- QUIET_TIMER_EXPIRY (R48). -/
  | quietTimerExpiry (arm : ArmNo)
  /-- CLOSING_LIMIT_EXPIRY (R50). -/
  | closingLimitExpiry (arm : ArmNo)
  /-- NO_FLOW_TIMER_EXPIRY (R59). -/
  | noFlowTimerExpiry (arm : ArmNo)
  /-- COMPARTMENT_COMPLETION (R55). -/
  | compartmentCompletion (arm : ArmNo)
  /-- PUMP_START_DELAY_REACHED (R62), for one waiting arm. -/
  | pumpStartDelayReached (arm : ArmNo)
  /-- STOP_DELAY_EXPIRY (R63). -/
  | stopDelayExpiry (pump : PumpNo)
  /-- ADDITIVE_PULSE (R69). -/
  | additivePulse (inj : InjNo)
  /-- SHOT_TIME_LIMIT (R72). -/
  | shotTimeLimit (inj : InjNo)
  /-- SETTLE_TIME_EXPIRY (R73). -/
  | settleTimeExpiry (inj : InjNo)
  /-- BAY_PERMIT_CHANGE (R129): the permit input, after its filter, takes `level`. -/
  | bayPermitChange (bay : BayNo) (permit : PermitInput) (level : Bool)
  /-- DEADMAN_PRESS (R124): a rising edge; `held` is the level the input has once it is over. -/
  | deadmanPress (bay : BayNo) (held : Bool)
  /-- DEADMAN_WINDOW_OPENS (R123). -/
  | deadmanWindowOpens (bay : BayNo)
  /-- DEADMAN_LATE (R123). -/
  | deadmanLate (bay : BayNo)
  /-- ATTENTION_TIMER_EXPIRY (R122). -/
  | attentionTimerExpiry (bay : BayNo)
  /-- ABANDON_TIMER_EXPIRY (R122). -/
  | abandonTimerExpiry (bay : BayNo)
  /-- NOTE_FILING (R119). -/
  | noteFiling (bay : BayNo)
  /-- CARD (R108). -/
  | card (bay : BayNo) (token : BitVec 64)
  /-- SELECT (R111). -/
  | select (bay : BayNo) (comp : CompNo) (arm : ArmNo)
  /-- START (R112). -/
  | start (bay : BayNo) (arm : ArmNo)
  /-- RESUME (R114). -/
  | resume (bay : BayNo) (arm : ArmNo)
  /-- STOP (R115). -/
  | stop (bay : BayNo) (arm : ArmNo)
  /-- FINISH (R115). -/
  | finish (bay : BayNo) (arm : ArmNo)
  /-- END (R117). -/
  | endKey (bay : BayNo)
  /-- RESET (R121). -/
  | resetKey (bay : BayNo)
  /-- MALFORMED_RECORD (R107): the bytes of the record after its start byte. -/
  | malformedRecord (bay : BayNo) (bytes : List Byte)
  /-- ESTOP_INPUT_CHANGE (R129): the input, after its filter, takes `level` (low is active). -/
  | estopInputChange (level : Bool)
  /-- RACK_RESET (R138): a rising edge of the key; `held` is the level the input has once it is over. -/
  | rackReset (held : Bool)
  /-- FILTER_TIMER_EXPIRY (R130). -/
  | filterTimerExpiry (inst : InstId)
  /-- TRIP_DELAY_EXPIRY (R142). -/
  | tripDelayExpiry
  /-- SETUP_TIMER_EXPIRY (R163). -/
  | setupTimerExpiry
  /-- SETUP_OPEN_DECISION (R160). -/
  | setupOpenDecision
  /-- LINK_TIMEOUT (R175). -/
  | linkTimeout
  /-- CLOCK_SECOND (R176). -/
  | clockSecond
  /-- INTER_BYTE_GAP (R172). -/
  | interByteGap
  /-- LINE_IDLE (R172). -/
  | lineIdle
  /-- FRAME_DISCARDED (R172): the bytes of the frame after its start byte, CRC included. -/
  | frameDiscarded (bytes : List Byte)
  /-- REPLY_COMPLETE (R173). -/
  | replyComplete
  /-- UNKNOWN_KIND (R173). -/
  | unknownKind (kind : Byte) (body : List Byte)
  /-- RACK_STATUS (R177). -/
  | rackStatus (body : List Byte)
  /-- BAY_STATUS (R126). -/
  | bayStatus (body : List Byte)
  /-- ARM_STATUS (R177). -/
  | armStatus (body : List Byte)
  /-- INJECTOR_STATUS (R85). -/
  | injectorStatus (body : List Byte)
  /-- SUPERVISION_LIST (R145). -/
  | supervisionList (body : List Byte)
  /-- TOTALISER_READ (R40). -/
  | totaliserRead (body : List Byte)
  /-- CLOCK_SET (R176). -/
  | clockSet (dest : Dest) (body : List Byte)
  /-- SETUP_OPEN (R160). -/
  | setupOpen (body : List Byte)
  /-- CONFIG_PUT (R161). -/
  | configPut (body : List Byte)
  /-- CONFIG_READ (R162). -/
  | configRead (body : List Byte)
  /-- SETUP_CLOSE (R165). -/
  | setupClose (body : List Byte)
  /-- SETUP_ABANDON (R166). -/
  | setupAbandon (body : List Byte)
  /-- PERMIT_PUT (R87). -/
  | permitPut (body : List Byte)
  /-- PERMIT_READ (R88). -/
  | permitRead (body : List Byte)
  /-- PERMIT_SUSPEND (R89). -/
  | permitSuspend (body : List Byte)
  /-- PERMIT_REINSTATE (R89). -/
  | permitReinstate (body : List Byte)
  /-- PERMIT_REMOVE (R90). -/
  | permitRemove (body : List Byte)
  /-- QUOTA_SET (R91). -/
  | quotaSet (body : List Byte)
  /-- ORDER_PUT (R96). -/
  | orderPut (body : List Byte)
  /-- ORDER_READ (R97). -/
  | orderRead (body : List Byte)
  /-- ORDER_CANCEL (R98). -/
  | orderCancel (body : List Byte)
  /-- SESSION_END (R117). -/
  | sessionEnd (body : List Byte)
  /-- NOTE_INDEX (R153). -/
  | noteIndex (body : List Byte)
  /-- NOTE_READ (R154). -/
  | noteRead (body : List Byte)
  /-- NOTE_RELEASE (R155). -/
  | noteRelease (body : List Byte)
  /-- SUPERVISION_CLEAR (R137). -/
  | supervisionClear (body : List Byte)
  /-- TRIP_REQUEST (R139). -/
  | tripRequest (dest : Dest) (body : List Byte)
  /-- TRIP_CLEAR (R143). -/
  | tripClear (body : List Byte)
  /-- RESTART (R170). -/
  | restart (body : List Byte)
  /-- POWER_LOSS (R33): supply is lost; the last `lost` retained writes did not take place. -/
  | powerLoss (lost : Nat)
  /-- START_BYTE (R172). -/
  | startByte
  /-- LENGTH_ABOVE_1024 (R172). -/
  | lengthAbove1024
  deriving DecidableEq, Repr

end Sys2Proof
end

