-- ==== Sys2Proof/Machine/State.lean ====
section
/-! DEFINITION. The state of the BL-48 as plain data, the reasons a step can stop, and the state right after
the POWER-ON RESET input is released on a new part. Each structure's docstring names the rules that give its
fields; INVENTORY.md lists every field with its rule and its reset value. -/

namespace Sys2Proof.Machine

/-- A running timer: the time run so far and the time at which it is over, both in ticks. The limit is taken
when the timer starts. -/
structure Timer where
  elapsed : Nat
  limit : Nat
  deriving DecidableEq, Repr

/-! ### Configuration records (R182) -/

/-- The scale a product's preset and compare points are reckoned on (R45, R182). -/
inductive Basis where
  | gross | standard
  deriving DecidableEq, Repr

/-- The class of a supervision kind (R128). -/
inductive SupClass where
  | warning | auto | latched
  deriving DecidableEq, Repr

/-- The RACK record. -/
structure RackCfg where
  rackId : Nat
  tref : Nat
  linkTimeout : Nat
  tripDelay : Nat
  deriving DecidableEq, Repr

/-- The BAY record. Activity bits from bit 0: CARD, KEY, DEADMAN, FLOW, PERMISSIVE; polarity bits: GROUND,
OVERFILL, VAPOUR, a set bit for active low (R182). -/
structure BayCfg where
  enabled : Bool
  attention : Nat
  abandon : Nat
  activity : BitVec 5
  deadmanPeriod : Nat
  deadmanK : Nat
  deadmanLimit : Nat
  polarity : BitVec 3
  vapourUsed : Bool
  deriving DecidableEq, Repr

/-- One point of a linearisation table (R22). -/
structure MfPoint where
  flow : Nat
  mf : Nat
  deriving DecidableEq, Repr

/-- The ARM record. -/
structure ArmCfg where
  bay : Option BayNo
  productMask : BitVec 12
  k : Nat
  pointCount : Nat
  points : Vector MfPoint 5
  dual : Bool
  minPulse : Nat
  startVolume : Nat
  tripDownVolume : Nat
  closeAheadInitial : Nat
  closeAheadMax : Nat
  overrunLimit : Nat
  unattendedLimit : Nat
  valveTravel : Nat
  noFlowTime : Nat
  minFlow : Nat
  tempOffset : Int
  deriving DecidableEq, Repr

/-- One additive entry of a PRODUCT record (spec/04, Recipes). -/
structure AdditiveEntry where
  inj : Option InjNo
  r : Nat
  d : Nat
  deriving DecidableEq, Repr

/-- The PRODUCT record. -/
structure ProductCfg where
  enabled : Bool
  code : Nat
  basis : Basis
  alpha : Nat
  gamma : Int
  pump : Option PumpNo
  startDelay : Nat
  stopDelay : Nat
  entry1 : AdditiveEntry
  entry2 : AdditiveEntry
  deriving DecidableEq, Repr

/-- The INJECTOR record (R69). -/
structure InjCfg where
  armMask : BitVec 8
  kAdd : Nat
  shotLimit : Nat
  tolerance : Nat
  badLimit : Nat
  leakLimit : Nat
  settle : Nat
  deriving DecidableEq, Repr

/-- The SUPERVISION record of a kind (R128). -/
structure SupCfg where
  cls : SupClass
  trip : Bool
  filter : Nat
  deriving DecidableEq, Repr

/-- The 45 records of a configuration (spec/09). -/
structure Configuration where
  rack : RackCfg
  bays : Vector BayCfg 4
  arms : Vector ArmCfg 8
  products : Vector ProductCfg 12
  injectors : Vector InjCfg 6
  sup : Vector SupCfg 14
  deriving DecidableEq, Repr

/-! ### Pins -/

/-- The input pins. Pulse pins at their raw level; every switch, button and key input at the level it has after
its 50 ms filter (assumption 10); the straps raw, with 0 for all open. -/
structure Pins where
  pulseA : Vector Bool 8
  pulseB : Vector Bool 8
  closedSwitch : Vector Bool 8
  openSwitch : Vector Bool 8
  ground : Vector Bool 4
  overfill : Vector Bool 4
  vapour : Vector Bool 4
  deadman : Vector Bool 4
  additive : Vector Bool 6
  estop : Bool
  resetKey : Bool
  addressStraps : BitVec 5
  baudStraps : BitVec 2
  deriving DecidableEq, Repr

/-! ### Meter inputs and temperature lines -/

/-- The channel of the last accepted edge (R7). -/
inductive LastChannel where
  | none | a | b
  deriving DecidableEq, Repr

/-- The pulse input of an arm (spec/01, Signal path). -/
structure PulseInput where
  levelA : Bool
  levelB : Bool
  filterA : Option Timer
  filterB : Option Timer
  count : Nat
  saturated : Bool
  last : LastChannel
  cleanPairs : Nat
  score : Nat
  locked : Bool
  deriving DecidableEq, Repr

/-- A reading after the offset, with its status and the result of the good test (R13). -/
structure Reading where
  corrected : Int
  status : ProbeStatus
  good : Bool
  deriving DecidableEq, Repr

/-- The temperature line receiver of an arm (spec/01, Reading records). The record timer is `none` when stopped
and expired when it stands at its limit. -/
structure TempReceiver where
  lastReading : Option Reading
  lastGood : Option Int
  recordTimer : Option Timer
  fault : Bool
  deriving DecidableEq, Repr

/-! ### Metering engines, arms, pumps -/

/-- The metering engine of an arm (spec/02, State of the metering engine). The compartment's accumulators stand in
its compartment record; the arm state as told is read from the arm (assumption 5). -/
structure MeterEngine where
  interval : Nat
  q : Nat
  lastMf : Option Nat
  lastVcf : Option Nat
  rG : Nat
  rS : Nat
  totaliser : Nat
  unattended : Nat
  leak : Nat
  deriving DecidableEq, Repr

/-- The arm states (spec/03, What an arm holds). -/
inductive ArmState where
  | idle | armed | lowStart | highFlow | lowFinish | closing | halting | held
  deriving DecidableEq, Repr

/-- The valve stage commands (R1). -/
inductive Stage where
  | close | low | high
  deriving DecidableEq, Repr

/-- What sent the arm to HALTING most recently (R51). -/
inductive StopCause where
  | none | key | effect | ending | trip
  deriving DecidableEq, Repr

/-- The compartment on an arm with its preset in dL and its compare points in µL (R42). -/
structure OnArm where
  bay : BayNo
  comp : CompNo
  product : ProductNo
  basis : Basis
  preset : Nat
  startPoint : Int
  tripDownPoint : Int
  closePoint : Int
  deriving DecidableEq, Repr

/-- The arm controller (spec/03, What an arm holds). The closing limit timer has run out when it stands at its
limit; `waiting` is the pump wait; `quiet` counts up from the last pulse arrival. -/
structure Arm where
  state : ArmState
  command : Stage
  comp : Option OnArm
  closeAhead : Nat
  waiting : Bool
  quiet : Nat
  closingLimit : Option Timer
  travel : Option Timer
  valveCond : Bool
  noFlowTimer : Option Timer
  noFlowCond : Bool
  outstanding : Nat
  lastStop : StopCause
  deriving DecidableEq, Repr

/-- The states of a pump (spec/03, Pump control). -/
inductive PumpState where
  | off | running | runDown
  deriving DecidableEq, Repr

/-- One pump (spec/03, Pump control); `run` is `none` when the run timer is stopped. -/
structure Pump where
  state : PumpState
  demand : Nat
  run : Option Nat
  stopDelay : Option Timer
  waiting : List ArmNo
  deriving DecidableEq, Repr

/-! ### Injectors -/

/-- The states of an injector (R69). -/
inductive InjState where
  | idle | shot | after
  deriving DecidableEq, Repr

/-- How a shot ended (R72). -/
inductive ShotEnding where
  | complete | shortfall | trip
  deriving DecidableEq, Repr

/-- A shot request: the arm, its compartment (in the session of `bay`), the additive line and the shot k (R68). -/
structure ShotRequest where
  arm : ArmNo
  bay : BayNo
  comp : CompNo
  line : Nat
  k : Nat
  deriving DecidableEq, Repr

/-- The current shot of an injector (R71 to R73). -/
structure Shot where
  req : ShotRequest
  pulses : Nat
  target : Nat
  ending : Option ShotEnding
  deriving DecidableEq, Repr

/-- The injector controller (R69), with the noise filter of its ADDITIVE PULSE pin. -/
structure Injector where
  level : Bool
  filter : Option Timer
  state : InjState
  queue : List ShotRequest
  current : Option Shot
  shotTimer : Option Timer
  settleTimer : Option Timer
  carry : Nat
  badCount : Nat
  leakPulses : Nat
  started : Nat
  shortfalls : Nat
  refused : Nat
  deriving DecidableEq, Repr

/-! ### Permits and orders -/

/-- The states of a permit (R89, R90). -/
inductive PermitState where
  | active | suspended | retiring
  deriving DecidableEq, Repr

/-- A permit entry (spec/05, Entries). -/
structure Permit where
  number : Nat
  token : BitVec 64
  carrier : Nat
  expiry : Nat
  bayMask : BitVec 4
  productMask : BitVec 12
  standalone : Bool
  quota : Nat
  used : Nat
  reserved : Nat
  state : PermitState
  openSession : Option BayNo
  deriving DecidableEq, Repr

/-- One entry of an order's compartment list (spec/05, Orders). -/
structure OrderEntry where
  comp : CompNo
  product : ProductNo
  preset : Nat
  deriving DecidableEq, Repr

/-- An order (spec/05, Orders): ACTIVE when `active`, else PENDING. -/
structure Order where
  number : Nat
  permit : Nat
  vehicle : Nat
  entries : List OrderEntry
  active : Bool
  sessionBay : Option BayNo
  orphaned : Bool
  deriving DecidableEq, Repr

/-! ### Sessions and bays -/

/-- The rack clock's reading: day number and second of day (R176). -/
structure Stamp where
  day : Nat
  second : Nat
  deriving DecidableEq, Repr

/-- Why a session ended (spec/06, The session record). -/
inductive EndCause where
  | complete | driverEnd | abandoned | hostEnd | trip | powerInterrupted | restart
  deriving DecidableEq, Repr

/-- The session states other than VACANT, which is the absence of a session. -/
inductive SessionState where
  | connecting | loading | ending
  deriving DecidableEq, Repr

/-- Where a compartment stands (spec/06, The session record). -/
inductive CompState where
  | notStarted | onArm | complete
  deriving DecidableEq, Repr

/-- The end reason of a completed compartment (R49, R50, R53). -/
inductive EndReason where
  | preset | stopped
  deriving DecidableEq, Repr

/-- An additive line of a compartment (spec/04, Recipes and additive lines). -/
structure AdditiveLine where
  number : Nat
  inj : InjNo
  r : Nat
  d : Nat
  due : Nat
  next : Nat
  delivered : Nat
  missed : Nat
  measured : Nat
  active : Bool
  fault : Bool
  deriving DecidableEq, Repr

/-- The live accumulators of a compartment (spec/02, State of the metering engine). -/
structure Accumulators where
  g : Nat
  s : Nat
  tempSum : Int
  tempHeld : Bool
  vcfLimited : Bool
  totStart : Nat
  deriving DecidableEq, Repr

/-- The metering result of a completed compartment (R36, R37, R55). -/
structure CompResult where
  grossDl : Nat
  standardDl : Nat
  avgTemp : Int
  meanVcf : Nat
  totStart : Nat
  totEnd : Nat
  tempHeld : Bool
  vcfLimited : Bool
  overrun : Bool
  valveNotConfirmed : Bool
  deriving DecidableEq, Repr

/-- A compartment record (spec/06, The session record). -/
structure CompRec where
  no : CompNo
  product : ProductNo
  preset : Nat
  code : Nat
  basis : Basis
  state : CompState
  arm : Option ArmNo
  started : Bool
  active : Bool
  endReason : Option EndReason
  result : Option CompResult
  acc : Accumulators
  overrun : Bool
  valveNotConfirmed : Bool
  meterFault : Bool
  warningRaised : Bool
  lines : List AdditiveLine
  deriving DecidableEq, Repr

/-- The session record of a bay (spec/06, The session record), the retained part. -/
structure Session where
  state : SessionState
  permit : Nat
  carrier : Nat
  order : Nat
  vehicle : Nat
  comps : List CompRec
  slotReserved : Bool
  start : Option Stamp
  digest : BitVec 16
  endCause : Option EndCause
  deriving DecidableEq, Repr

/-- The prompts of a bay terminal (R181). -/
inductive Prompt where
  | order | bayBusy | rackNotReady | cardUnknown | permitSuspended | expiryUnknown | permitExpired
  | bayNotAllowed | permitBusy | standaloneDenied | noOrder | notesFull
  | selected | compUnknown | compDone | armBusy | productNotOnArm
  | started | resumed | notReady | permissive | supervision | probe | quota | halted
  | alreadyClosing | notFlowing | finished | notHeld | notOpen | alreadyEnding
  | completed | ending | note | cleared | attention | deadmanEarly | deadmanLate
  deriving DecidableEq, Repr

/-- A SHOW record: a prompt and its numbers (spec/06, The bay terminal line). -/
structure Show where
  prompt : Prompt
  numbers : List Nat
  deriving DecidableEq, Repr

/-- The bay controller. `session = none` is VACANT. `sent` holds the SHOW records the last command sent on
TERMINAL TX, in order (R107). -/
structure Bay where
  session : Option Session
  attentionFlag : Bool
  attention : Option Timer
  abandon : Option Timer
  deadman : Option Timer
  violations : Nat
  awaited : List InjNo
  lastPrompt : Option Show
  sent : List Show
  deriving DecidableEq, Repr

/-! ### Supervision and trip -/

/-- The states of a supervision instance (R130, R132). -/
inductive InstState where
  | normal | filtering | active | recovering | latched
  deriving DecidableEq, Repr

/-- One supervision instance (R130, R133); `cond` is the condition as last reported, `cls` the class of its last
transition into an effective state, by which it is a stop effect (R144; assumption 46). -/
structure Instance where
  state : InstState
  cond : Bool
  timer : Option Timer
  count : Nat
  cls : SupClass
  deriving DecidableEq, Repr

/-- What started the last trip (R139, R144). -/
inductive TripCause where
  | none | fault (i : InstId) | host
  deriving DecidableEq, Repr

/-- The trip control state (spec/07, The rack trip): the delay timer runs in the first stage; `stageTwo` holds
from the beginning of the second stage until the mode leaves TRIPPING; `awaiting` are the bays still to report. -/
structure TripControl where
  cause : TripCause
  delay : Option Timer
  stageTwo : Bool
  awaiting : List BayNo
  deriving DecidableEq, Repr

/-! ### Notes -/

/-- An additive line result on a note (R83). -/
structure NoteAdditive where
  inj : InjNo
  r : Nat
  d : Nat
  due : Nat
  delivered : Nat
  missed : Nat
  measured : Nat
  target : Nat
  fault : Bool
  deriving DecidableEq, Repr

/-- A compartment line of a note (R151, R152); `endReason = none` is NOT_STARTED. -/
structure NoteLine where
  comp : CompNo
  code : Nat
  arm : Option ArmNo
  basis : Basis
  preset : Nat
  grossDl : Nat
  standardDl : Nat
  avgTemp : Int
  meanVcf : Nat
  totStartDl : Nat
  totEndDl : Nat
  endReason : Option EndReason
  tempHeld : Bool
  vcfLimited : Bool
  overrun : Bool
  additiveFault : Bool
  meterFault : Bool
  valveNotConfirmed : Bool
  warningRaised : Bool
  additives : List NoteAdditive
  deriving DecidableEq, Repr

/-- A delivery note (R150). -/
structure Note where
  number : Nat
  rackId : Nat
  bay : BayNo
  order : Nat
  permit : Nat
  carrier : Nat
  vehicle : Nat
  start : Stamp
  finish : Stamp
  unsetAtStart : Bool
  unsetAtEnd : Bool
  endUnknown : Bool
  cause : EndCause
  digest : BitVec 16
  lines : List NoteLine
  deriving DecidableEq, Repr

/-- The note store (spec/08, The note store). -/
structure NoteStore where
  held : List Note
  reserved : Nat
  next : Nat
  deriving DecidableEq, Repr

/-! ### Setup control and the host line -/

/-- The rack modes (spec/00, Rack modes). -/
inductive Mode where
  | startUp | setup | setupLocked | run | tripping | tripped
  deriving DecidableEq, Repr

/-- Setup control (spec/09, Configuration and rack modes). `active = none` is an invalid active configuration;
`query` holds, while a SETUP OPEN is undecided, whether each bay answered that a session is open (R160). -/
structure SetupControl where
  active : Option Configuration
  digest : BitVec 16
  working : Option Configuration
  timer : Option Timer
  query : Option (Vector Bool 4)
  deriving DecidableEq, Repr

/-- The frame receiver (R172). -/
inductive Receiver where
  | hunt | receiving | skipping
  deriving DecidableEq, Repr

/-- The link state (R175). -/
inductive Link where
  | online | standalone
  deriving DecidableEq, Repr

/-- The result codes of the host line (spec/10, Result codes). -/
inductive ResultCode where
  | ok | format | unknown | mode | busy | inUse | full | notFound | duplicate | condition | digest | invalid
  | tripActive
  deriving DecidableEq, Repr

/-- One pump in the RACK STATUS reply (R65). -/
structure PumpReport where
  state : PumpState
  demand : Nat
  run : Option Nat
  deriving DecidableEq, Repr

/-- The fields of the RACK STATUS reply (R177, with R171, R145, R65, R105, R157). -/
structure RackStatus where
  mode : Mode
  valid : Bool
  digest : BitVec 16
  setupRunning : Bool
  setupLeft : Option Nat
  tripCause : TripCause
  tripDelayRun : Option Nat
  instancesByState : List Nat
  pumps : Vector PumpReport 8
  permits : Nat
  permitsByState : List Nat
  orders : Nat
  ordersPending : Nat
  ordersActive : Nat
  ordersOrphaned : Nat
  notesHeld : Nat
  notesReserved : Nat
  notesFree : Nat
  link : Link
  linkLeft : Option Nat
  clock : Option Stamp
  address : Nat
  baud : Nat
  deriving DecidableEq, Repr

/-- One compartment record in the BAY STATUS reply (R126). -/
structure CompReport where
  no : CompNo
  state : CompState
  arm : Option ArmNo
  started : Bool
  endReason : Option EndReason
  deliveredDl : Option Nat
  deriving DecidableEq, Repr

/-- The session part of the BAY STATUS reply (R126, R105, R157). -/
structure SessionReport where
  state : SessionState
  endCause : Option EndCause
  permit : Nat
  carrier : Nat
  order : Nat
  vehicle : Nat
  comps : List CompReport
  slotReserved : Bool
  start : Option Stamp
  attentionLeft : Option Nat
  abandonLeft : Option Nat
  attentionFlag : Bool
  deadman : Option Nat
  windowOpen : Bool
  violations : Nat
  deriving DecidableEq, Repr

/-- The fields of the BAY STATUS reply (R126): a VACANT bay reports its inputs and last prompt only. -/
structure BayStatus where
  session : Option SessionReport
  groundLevel : Bool
  overfillLevel : Bool
  vapourLevel : Bool
  deadmanLevel : Bool
  groundPresent : Bool
  overfillPresent : Bool
  vapourPresent : Bool
  lastPrompt : Option Show
  deriving DecidableEq, Repr

/-- The compartment part of the ARM STATUS reply (R40, R65, R85). -/
structure OnArmReport where
  comp : OnArm
  g : Nat
  s : Nat
  grossDl : Nat
  standardDl : Nat
  tempHeld : Bool
  vcfLimited : Bool
  overrun : Bool
  valveNotConfirmed : Bool
  lines : List AdditiveLine
  deriving DecidableEq, Repr

/-- The fields of the ARM STATUS reply (R18, R40, R65, R85). -/
structure ArmStatus where
  locked : Bool
  score : Nat
  cleanPairs : Nat
  lastReading : Option Reading
  temperature : Option Int
  tempHeld : Bool
  probeFault : Bool
  q : Nat
  lastMf : Option Nat
  lastVcf : Option Nat
  unattended : Nat
  leak : Nat
  state : ArmState
  command : Stage
  comp : Option OnArmReport
  closeAhead : Nat
  waitEnded : Bool
  closedSwitch : Bool
  openSwitch : Bool
  valveCond : Bool
  noFlowCond : Bool
  outstanding : Nat
  lastStop : StopCause
  deriving DecidableEq, Repr

/-- The fields of the INJECTOR STATUS reply (R85). -/
structure InjectorStatus where
  state : InjState
  solenoidOpen : Bool
  queue : List (ArmNo × Nat × Nat)
  current : Option Shot
  carry : Nat
  badCount : Nat
  leakVolume : Nat
  started : Nat
  shortfalls : Nat
  refused : Nat
  deriving DecidableEq, Repr

/-- One instance in the SUPERVISION LIST reply (R145). -/
structure InstanceReport where
  inst : InstId
  state : InstState
  cond : Option Bool
  timerRun : Option Nat
  count : Nat
  cls : SupClass
  trip : Bool
  deriving DecidableEq, Repr

/-- A reply body after its result code: bytes where R184 lays them out, else the fields R177 names. -/
inductive ReplyBody where
  | bytes (l : List Byte)
  | rackStatus (r : RackStatus)
  | bayStatus (r : BayStatus)
  | armStatus (r : ArmStatus)
  | injectorStatus (r : InjectorStatus)
  | supervisionList (r : List InstanceReport)
  deriving DecidableEq, Repr

/-- A reply: the kind of the request it answers, the result code, the body (R173, R181). -/
structure Reply where
  kind : Byte
  result : ResultCode
  body : ReplyBody
  deriving DecidableEq, Repr

/-- The reply that is pending (R173): undecided while a SETUP OPEN waits for its decision (R160), then being
sent. -/
inductive PendingReply where
  | awaitingDecision
  | sending (r : Reply)
  deriving DecidableEq, Repr

/-- The host line interface (spec/10). `clock = none` is an unset clock; `subSecond` counts the CLOCK input toward
the next second. -/
structure HostLine where
  receiver : Receiver
  reply : Option PendingReply
  link : Link
  linkTimer : Option Timer
  clock : Option Stamp
  subSecond : Nat
  address : Nat
  baud : Nat
  deriving DecidableEq, Repr

/-! ### Retained memory -/

/-- The retained metering state of an arm (R33, R38). -/
structure Totals where
  totaliser : Nat
  unattended : Nat
  rG : Nat
  rS : Nat
  deriving DecidableEq, Repr

/-- Retained memory (spec/00, State that survives power loss; R168 step 2); `none` is a copy that is absent or
fails its check. A session copy is absent as well while its bay is VACANT. -/
structure Retained where
  config : Option (Configuration × BitVec 16)
  permits : Option (List Permit)
  notes : Option (List Note × Nat)
  sessions : Vector (Option Session) 4
  totals : Vector (Option Totals) 8
  closeAhead : Vector (Option Nat) 8
  tripMode : Bool
  tripCause : Option TripCause
  deriving DecidableEq, Repr

/-! ### The machine -/

/-- Why start-up runs (R156, R170). -/
inductive StartCause where
  | power | restart
  deriving DecidableEq, Repr

/-- Whether the part has no supply, is in START_UP before its start-up operation, or is in service. -/
inductive Phase where
  | off | starting (cause : StartCause) | service
  deriving DecidableEq, Repr

/-- The requests and events the blocks send one another without waiting for an answer (spec/00, Block diagram). -/
inductive Notice where
  /-- The arm tells its bay of a change of state (R41). -/
  | armChanged (a : ArmNo)
  /-- The settled condition or the outstanding count may have changed (R48, R49). -/
  | testArm (a : ArmNo)
  /-- A stop request with the cause it records (R51). -/
  | stopArm (a : ArmNo) (cause : StopCause)
  /-- The request to force completion (R50). -/
  | forceArm (a : ArmNo)
  /-- The finish request of an ending session (R53). -/
  | finishArm (a : ArmNo)
  /-- The release request of an ending session (R54). -/
  | releaseArm (a : ArmNo)
  /-- The re-delivery of stop effects at entry into LOW_START (R113, R135). -/
  | redeliver (a : ArmNo)
  /-- A completed compartment handed to its bay (R55 step 4, R116). -/
  | completed (b : BayNo) (c : CompNo)
  /-- A level condition changes (R129). -/
  | condition (i : InstId) (present : Bool)
  /-- An event of an event kind (R132). -/
  | event (i : InstId)
  /-- The trip notice of the first stage (R120). -/
  | tripNotice (b : BayNo)
  /-- The stage-two notice (R120). -/
  | stageTwoNotice (b : BayNo)
  /-- The trip request of the first stage (R80). -/
  | tripInjector (i : InjNo)
  /-- The stage-two request (R80). -/
  | stageTwoInjector (i : InjNo)
  /-- A bay reports that it has no open session (R142). -/
  | bayReport (b : BayNo)
  /-- The trip delay is 0.0 s and the second stage begins at once (R142). -/
  | secondStage
  /-- An ending bay tests whether it can file (R119). -/
  | filingTest (b : BayNo)
  /-- An injector has written a shot's result and notifies the bay that awaits it (R119). -/
  | shotWritten (b : BayNo) (i : InjNo)
  deriving DecidableEq, Repr

/-- The state of the part. `pending` is the queue of commands, `nv` is retained memory, `undo` what retained memory
held before each retained write of the last command, newest first (assumption 6), and `inbox` the internal requests
in flight (assumption 3). -/
structure State where
  pending : List Instr
  phase : Phase
  mode : Mode
  relay : Bool
  pins : Pins
  pulses : Vector PulseInput 8
  temps : Vector TempReceiver 8
  meters : Vector MeterEngine 8
  arms : Vector Arm 8
  pumps : Vector Pump 8
  injectors : Vector Injector 6
  permits : List Permit
  orders : List Order
  bays : Vector Bay 4
  sup : Vector Instance 83
  trip : TripControl
  notes : NoteStore
  setup : SetupControl
  line : HostLine
  nv : Retained
  undo : List Retained
  inbox : List Notice
  deriving DecidableEq, Repr

/-- The reasons the part would stop with a fault: none. The manual gives every command of the table an effect or
says that it has none, so no step of this model ends in a fault. -/
inductive Fault where
  deriving DecidableEq, Repr

/-- The reasons a step is refused. -/
inductive Refusal where
  /-- Raised by `exec` for a command whose meaning is not modelled yet; safe. No arm raises it. -/
  | notModelled (mnemonic : String)
  deriving DecidableEq, Repr

/-! ### The state after reset -/

/-- The field wiring at rest (assumption 9, DESIGN CHOICE: pins are inputs, the manual gives them no reset value):
emergency stop released, valves shut, every other level low, straps all open and baud code 0. -/
def Pins.atRest : Pins :=
  { pulseA := .replicate 8 false, pulseB := .replicate 8 false
    closedSwitch := .replicate 8 true, openSwitch := .replicate 8 false
    ground := .replicate 4 false, overfill := .replicate 4 false, vapour := .replicate 4 false
    deadman := .replicate 4 false, additive := .replicate 6 false
    estop := true, resetKey := false, addressStraps := 0, baudStraps := 0 }

/-- R12 for an unused arm. -/
def PulseInput.blank : PulseInput :=
  { levelA := false, levelB := false, filterA := none, filterB := none, count := 0, saturated := false
    last := .none, cleanPairs := 0, score := 0, locked := true }

/-- R17. -/
def TempReceiver.blank : TempReceiver :=
  { lastReading := none, lastGood := none, recordTimer := some ⟨0, Config.recordTicks⟩, fault := false }

/-- R38 with no valid retained copy. -/
def MeterEngine.blank : MeterEngine :=
  { interval := 0, q := 0, lastMf := none, lastVcf := none, rG := 0, rS := 0, totaliser := 0
    unattended := 0, leak := 0 }

/-- R60; the travel allowance is started when the arm is put into service. -/
def Arm.blank : Arm :=
  { state := .idle, command := .close, comp := none, closeAhead := 0, waiting := false, quiet := 0
    closingLimit := none, travel := none, valveCond := false, noFlowTimer := none, noFlowCond := false
    outstanding := 0, lastStop := .none }

/-- R64. -/
def Pump.blank : Pump :=
  { state := .off, demand := 0, run := none, stopDelay := none, waiting := [] }

/-- R84. -/
def Injector.blank : Injector :=
  { level := false, filter := none, state := .idle, queue := [], current := none, shotTimer := none
    settleTimer := none, carry := 0, badCount := 0, leakPulses := 0, started := 0, shortfalls := 0
    refused := 0 }

/-- R125. -/
def Bay.blank : Bay :=
  { session := none, attentionFlag := false, attention := none, abandon := none, deadman := none
    violations := 0, awaited := [], lastPrompt := none, sent := [] }

/-- R144. -/
def Instance.blank : Instance :=
  { state := .normal, cond := false, timer := none, count := 0, cls := .warning }

/-- Retained memory of a new part: no valid copy of anything, and no sessions. -/
def Retained.newPart : Retained :=
  { config := none, permits := none, notes := none, sessions := .replicate 4 none
    totals := .replicate 8 none, closeAhead := .replicate 8 none, tripMode := false, tripCause := none }

/-- The machine right after POWER-ON RESET is released on a new part (R168 step 1, R179): mode START_UP, outputs
off, the relay de-energised, the clock unset, every block at the value its chapter gives after power-up, and the
start-up operation still to come. -/
def State.reset : State :=
  { pending := []
    phase := .starting .power
    mode := .startUp
    relay := false
    pins := Pins.atRest
    pulses := .replicate 8 PulseInput.blank
    temps := .replicate 8 TempReceiver.blank
    meters := .replicate 8 MeterEngine.blank
    arms := .replicate 8 Arm.blank
    pumps := .replicate 8 Pump.blank
    injectors := .replicate 6 Injector.blank
    permits := []
    orders := []
    bays := .replicate 4 Bay.blank
    sup := .replicate 83 Instance.blank
    trip := { cause := .none, delay := none, stageTwo := false, awaiting := [] }
    notes := { held := [], reserved := 0, next := 1 }
    setup := { active := none, digest := 0, working := none, timer := none, query := none }
    line := { receiver := .hunt, reply := none, link := .standalone, linkTimer := none, clock := none
              subSecond := 0, address := 1, baud := 9600 }
    nv := Retained.newPart
    undo := []
    inbox := [] }

end Sys2Proof.Machine
end

