-- ==== Sys2Proof/Decode.lean ====
section
/-! DEFINITION. The reading of a command from bits. spec/opcode_table.json gives none of its 80 rows any bits: a command
is an event or a message, with the operands its rule names, and never a word. -/

namespace Sys2Proof

/-- The command a word spells by the table's bits: none, for no row of the table has bits. -/
def decodeTableWord (_nbits _w : Nat) : Option Instr := none

end Sys2Proof
end

