-- ==== Sys2Proof/Machine/Arith.lean ====
section
/-! DEFINITION. The arithmetic of spec/00 (R2): roundings, clamps, the 64-bit accumulators, timers, the vectors of
units, big-endian fields and the CRC of R167. -/

namespace Sys2Proof.Machine

/-! ### Roundings (R2) -/

/-- floor((n + d/2) / d) for an even d, and the nearest integer with halves going up for any d above 0. -/
def roundHalfUp (n d : Nat) : Nat := (2 * n + d) / (2 * d)

/-- The nearest integer with exact halves going away from zero. -/
def roundHalfAway (n : Int) (d : Nat) : Int :=
  if 0 ≤ n then ((roundHalfUp n.toNat d : Nat) : Int) else -((roundHalfUp (-n).toNat d : Nat) : Int)

/-- ceil(n / d). -/
def ceilDiv (n d : Nat) : Nat := (n + d - 1) / d

/-- A quantity clamped to lo..hi. -/
def clampNat (lo hi n : Nat) : Nat := if n < lo then lo else if hi < n then hi else n

/-- A count raised by 1 that saturates at `top`: one that would pass it stays (R2). -/
def satSucc (top n : Nat) : Nat := if n < top then n + 1 else n

/-- A totaliser addition, modulo 10^15 (R27, R29). -/
def addModulo (tot dg : Nat) : Nat := (tot + dg) % Config.totaliserModulus

/-- A 64-bit unsigned accumulator after an addition; a sum that does not fit leaves a free value (assumption 16). -/
def acc64 (sum : Nat) : Nat :=
  if sum < 18446744073709551616 then sum else (Config.freeSum64 sum).toNat

/-- The signed 64-bit temperature sum after an addition (assumption 16). -/
def accSigned64 (sum : Int) : Int :=
  if -9223372036854775808 ≤ sum ∧ sum < 9223372036854775808 then sum
  else (Config.freeSigned64 sum).toInt

/-- µL to dL, rounded half up (R36): floor((v + 50,000) / 100,000). -/
def deciOf (v : Nat) : Nat := (v + 50000) / Config.microPerDeci

/-! ### Timers -/

/-- A timer started from 0 that is to run for `limit` ticks. -/
def Timer.start (limit : Nat) : Timer := ⟨0, limit⟩

/-- The timer has not reached its limit. -/
def Timer.running (t : Timer) : Bool := t.elapsed < t.limit

/-- The timer stands at its limit. -/
def Timer.atLimit (t : Timer) : Timer := { t with elapsed := t.limit }

/-- A timer that may be stopped is running. -/
def isRunning (t : Option Timer) : Bool :=
  match t with
  | some t => t.running
  | none => false

/-- A timer that may be stopped has run out. -/
def hasRunOut (t : Option Timer) : Bool :=
  match t with
  | some t => !t.running
  | none => false

/-! ### Vectors of units -/

/-- Every unit's value mapped. -/
def vmap {α β : Type} {n : Nat} (f : α → β) (v : Vector α n) : Vector β n :=
  ⟨⟨v.toList.map f⟩, by simp⟩

/-- Every unit's value mapped beside another's. -/
def vzip {α β γ : Type} {n : Nat} (f : α → β → γ) (v : Vector α n) (w : Vector β n) : Vector γ n :=
  ⟨⟨List.zipWith f v.toList w.toList⟩, by simp⟩

/-- One unit's value replaced. -/
def vset {α : Type} {n : Nat} (v : Vector α n) (i : Fin n) (x : α) : Vector α n := v.set i.val x i.isLt

/-- One unit's value changed. -/
def vmod {α : Type} {n : Nat} (v : Vector α n) (i : Fin n) (f : α → α) : Vector α n := vset v i (f v[i])

/-! ### Big-endian fields (R180) -/

/-- The low `w` bytes of n, most significant first. -/
def digits : Nat → Nat → List Byte
  | 0, _ => []
  | w + 1, n => BitVec.ofNat 8 (n / 256 ^ w) :: digits w n

/-- An unsigned field of `w` bytes; a number that does not fit leaves a free value (assumption 17). -/
def be (w n : Nat) : List Byte := if n < 256 ^ w then digits w n else digits w (Config.freeField w n)

/-- A signed 2-byte field in two's complement. -/
def be2s (n : Int) : List Byte :=
  if -32768 ≤ n ∧ n < 32768 then digits 2 (BitVec.ofInt 16 n).toNat
  else digits 2 (Config.freeField 2 n.toNat)

/-- The number a big-endian byte string spells. -/
def beNat (l : List Byte) : Nat := l.foldl (fun acc b => acc * 256 + b.toNat) 0

/-- The unsigned field of width `w` at offset `off`. -/
def fld (body : List Byte) (off w : Nat) : Nat := beNat ((body.drop off).take w)

/-- The signed 2-byte field at offset `off`. -/
def fldS (body : List Byte) (off : Nat) : Int := (BitVec.ofNat 16 (fld body off 2)).toInt

/-- A yes/no field's byte. -/
def boolByte (b : Bool) : List Byte := be 1 (if b then 1 else 0)

/-! ### The CRC (R167) -/

/-- One bit of the register's shift, generator 1021 hex. -/
def crcShift (r : BitVec 16) : BitVec 16 :=
  if r.msb then (r <<< 1) ^^^ 0x1021#16 else r <<< 1

/-- One byte through the register, most significant bit first. -/
def crcByte (r : BitVec 16) (b : Byte) : BitVec 16 :=
  crcShift (crcShift (crcShift (crcShift (crcShift (crcShift (crcShift (crcShift
    (r ^^^ (b.zeroExtend 16 <<< 8)))))))))

/-- The check of R167: initial register FFFF hex, no reflection, no final XOR. -/
def crc16 (l : List Byte) : BitVec 16 := l.foldl crcByte 0xFFFF#16

end Sys2Proof.Machine
end

