-- ==== Sys2Proof/Machine/Flags.lean ====
section
/-! DEFINITION. The coded enumerations, flag bytes and mask bits of the record layouts (R180 to R185), and the
stage coding of the pins (R1). -/

namespace Sys2Proof.Machine

/-- STAGE S1 is on for LOW and HIGH (R1). -/
def Stage.s1 : Stage → Bool
  | .close => false
  | .low => true
  | .high => true

/-- STAGE S2 is on for HIGH alone (R1). -/
def Stage.s2 : Stage → Bool
  | .close => false
  | .low => false
  | .high => true

/-- Bit 0 of a mask stands for unit 1 (R180). -/
def maskHas {w n : Nat} (m : BitVec w) (i : Fin n) : Bool := m.getLsbD i.val

/-- A flag's weight at a bit. -/
def flagBit (b : Bool) (k : Nat) : Nat := if b then 2 ^ k else 0

/-- The line flags byte (R185). -/
def NoteLine.flags (l : NoteLine) : Nat :=
  flagBit l.tempHeld 0 + flagBit l.vcfLimited 1 + flagBit l.overrun 2 + flagBit l.additiveFault 3
    + flagBit l.meterFault 4 + flagBit l.valveNotConfirmed 5 + flagBit l.warningRaised 6

/-- The stamp flags byte (R185). -/
def Note.stampFlags (n : Note) : Nat :=
  flagBit n.unsetAtStart 0 + flagBit n.unsetAtEnd 1 + flagBit n.endUnknown 2

/-- Basis codes (R182). -/
def Basis.code : Basis → Nat
  | .gross => 0
  | .standard => 1

/-- Class codes (R182). -/
def SupClass.code : SupClass → Nat
  | .warning => 0
  | .auto => 1
  | .latched => 2

/-- End cause codes (R185). -/
def EndCause.code : EndCause → Nat
  | .complete => 1
  | .driverEnd => 2
  | .abandoned => 3
  | .hostEnd => 4
  | .trip => 5
  | .powerInterrupted => 6
  | .restart => 7

/-- End reason codes; `none` is NOT_STARTED (R185). -/
def endReasonCode : Option EndReason → Nat
  | none => 0
  | some .preset => 1
  | some .stopped => 2

/-- Permit state codes (R183). -/
def PermitState.code : PermitState → Nat
  | .active => 0
  | .suspended => 1
  | .retiring => 2

/-- Result codes (R181). -/
def ResultCode.code : ResultCode → Nat
  | .ok => 0x00
  | .format => 0x01
  | .unknown => 0x02
  | .mode => 0x03
  | .busy => 0x04
  | .inUse => 0x05
  | .full => 0x06
  | .notFound => 0x07
  | .duplicate => 0x08
  | .condition => 0x09
  | .digest => 0x0A
  | .invalid => 0x0B
  | .tripActive => 0x0C

/-- Prompt codes (R181). -/
def Prompt.code : Prompt → Nat
  | .order => 1
  | .bayBusy => 2
  | .rackNotReady => 3
  | .cardUnknown => 4
  | .permitSuspended => 5
  | .expiryUnknown => 6
  | .permitExpired => 7
  | .bayNotAllowed => 8
  | .permitBusy => 9
  | .standaloneDenied => 10
  | .noOrder => 11
  | .notesFull => 12
  | .selected => 13
  | .compUnknown => 14
  | .compDone => 15
  | .armBusy => 16
  | .productNotOnArm => 17
  | .started => 18
  | .resumed => 19
  | .notReady => 20
  | .permissive => 21
  | .supervision => 22
  | .probe => 23
  | .quota => 24
  | .halted => 25
  | .alreadyClosing => 26
  | .notFlowing => 27
  | .finished => 28
  | .notHeld => 29
  | .notOpen => 30
  | .alreadyEnding => 31
  | .completed => 32
  | .ending => 33
  | .note => 34
  | .cleared => 35
  | .attention => 36
  | .deadmanEarly => 37
  | .deadmanLate => 38

/-- LOW_START, HIGH_FLOW and LOW_FINISH are the flowing states (R41). -/
def ArmState.flowing : ArmState → Bool
  | .lowStart => true
  | .highFlow => true
  | .lowFinish => true
  | _ => false

/-- The states in which a permissive that drops out raises a condition (R129), and in which shots are posted (R68). -/
def ArmState.flowingOrClosing : ArmState → Bool
  | .closing => true
  | st => st.flowing

/-- The unattended class of R20. -/
def ArmState.unattended : ArmState → Bool
  | .idle => true
  | _ => false

/-- The states in which the leak volume is added to (R30). -/
def ArmState.leakWatched : ArmState → Bool
  | .idle => true
  | .armed => true
  | .held => true
  | _ => false

/-- The modes in which an arm may command LOW or HIGH and pumps may run (R41, R64). -/
def Mode.mayFlow : Mode → Bool
  | .run => true
  | .tripping => true
  | _ => false

/-- ACTIVE, RECOVERING and LATCHED are the effective states (R130). -/
def InstState.effective : InstState → Bool
  | .active => true
  | .recovering => true
  | .latched => true
  | _ => false

end Sys2Proof.Machine

namespace Sys2Proof

/-- The index of an instance's kind among the fourteen kinds, the kind code less 1 (R127). -/
def InstId.kind : InstId → Fin 14
  | .estop => 0
  | .ground _ => 1
  | .overfill _ => 2
  | .vapour _ => 3
  | .deadman _ => 4
  | .valve _ => 5
  | .noFlow _ => 6
  | .meterPulse _ => 7
  | .tempProbe _ => 8
  | .overrun _ => 9
  | .leak _ => 10
  | .injNoFlow _ => 11
  | .injDose _ => 12
  | .injLeak _ => 13

/-- The unit number of an instance (R127). -/
def InstId.unit : InstId → Nat
  | .estop => 1
  | .ground b => unitNo b
  | .overfill b => unitNo b
  | .vapour b => unitNo b
  | .deadman b => unitNo b
  | .valve a => unitNo a
  | .noFlow a => unitNo a
  | .meterPulse a => unitNo a
  | .tempProbe a => unitNo a
  | .overrun a => unitNo a
  | .leak a => unitNo a
  | .injNoFlow i => unitNo i
  | .injDose i => unitNo i
  | .injLeak i => unitNo i

/-- The kinds that have a condition (R127). -/
def InstId.level : InstId → Bool
  | .estop => true
  | .ground _ => true
  | .overfill _ => true
  | .vapour _ => true
  | .valve _ => true
  | .noFlow _ => true
  | .tempProbe _ => true
  | _ => false

/-- An instance's place among the 83, in ascending kind code and unit number (R127). -/
def InstId.index : InstId → Nat
  | .estop => 0
  | .ground b => 1 + b.val
  | .overfill b => 5 + b.val
  | .vapour b => 9 + b.val
  | .deadman b => 13 + b.val
  | .valve a => 17 + a.val
  | .noFlow a => 25 + a.val
  | .meterPulse a => 33 + a.val
  | .tempProbe a => 41 + a.val
  | .overrun a => 49 + a.val
  | .leak a => 57 + a.val
  | .injNoFlow i => 65 + i.val
  | .injDose i => 71 + i.val
  | .injLeak i => 77 + i.val

/-- Every instance has its place below 83. -/
theorem InstId.index_lt (i : InstId) : i.index < 83 := by
  cases i <;> simp [InstId.index] <;> omega

/-- The place as an index of the vector of instances. -/
def InstId.slot (i : InstId) : Fin 83 := ⟨i.index, i.index_lt⟩

/-- All 83 instances in ascending kind code and unit number (R127, R135, R145). -/
def allInsts : List InstId :=
  [.estop] ++ allBays.map .ground ++ allBays.map .overfill ++ allBays.map .vapour ++ allBays.map .deadman
    ++ allArms.map .valve ++ allArms.map .noFlow ++ allArms.map .meterPulse ++ allArms.map .tempProbe
    ++ allArms.map .overrun ++ allArms.map .leak
    ++ allInjs.map .injNoFlow ++ allInjs.map .injDose ++ allInjs.map .injLeak

/-- The unit an instance's scope is (R127). -/
inductive Scope where
  | rack | bay (b : BayNo) | arm (a : ArmNo) | inj (i : InjNo)
  deriving DecidableEq, Repr

/-- An instance's scope (R127). -/
def InstId.scope : InstId → Scope
  | .estop => .rack
  | .ground b => .bay b
  | .overfill b => .bay b
  | .vapour b => .bay b
  | .deadman b => .bay b
  | .valve a => .arm a
  | .noFlow a => .arm a
  | .meterPulse a => .arm a
  | .tempProbe a => .arm a
  | .overrun a => .arm a
  | .leak a => .arm a
  | .injNoFlow i => .inj i
  | .injDose i => .inj i
  | .injLeak i => .inj i

end Sys2Proof
end

