-- ==== Sys2Proof/Machine/Operands.lean ====
section
/-! DEFINITION. The record layouts of spec/11 (R180 to R185): configuration records read from and written to bytes
with every range check of R180 and R182, the factory defaults (R159), the digest (R167), permits, orders, notes, SHOW
records and replies as bytes. -/

namespace Sys2Proof.Machine

/-! ### Reading fields -/

/-- A unit number 1..n. -/
def unitOf (n k : Nat) : Option (Fin n) :=
  if h : 1 ≤ k ∧ k ≤ n then some ⟨k - 1, by omega⟩ else none

/-- A unit number 0..n, 0 for none. -/
def unitOrNone (n k : Nat) : Option (Option (Fin n)) :=
  if k = 0 then some none else (unitOf n k).map some

/-- A yes/no field (R180). -/
def boolOf (k : Nat) : Option Bool :=
  if k = 0 then some false else if k = 1 then some true else none

/-- A field that must lie in lo..hi (R180). -/
def rangeOf (lo hi k : Nat) : Option Nat := if lo ≤ k ∧ k ≤ hi then some k else none

/-- A mask whose bits above its `w` units are 0 (R180). -/
def maskOf (w k : Nat) : Option (BitVec w) := if k < 2 ^ w then some (BitVec.ofNat w k) else none

/-- The basis codes (R182). -/
def basisOf (k : Nat) : Option Basis :=
  if k = 0 then some .gross else if k = 1 then some .standard else none

/-- The class codes (R182). -/
def classOf (k : Nat) : Option SupClass :=
  if k = 0 then some .warning else if k = 1 then some .auto else if k = 2 then some .latched else none

/-- A signed field in lo..hi. -/
def signedOf (lo hi k : Int) : Option Int := if lo ≤ k ∧ k ≤ hi then some k else none

/-! ### Configuration records (R182) -/

/-- One configuration record with its unit. -/
inductive CfgRecord where
  | rack (r : RackCfg)
  | bay (b : BayNo) (r : BayCfg)
  | arm (a : ArmNo) (r : ArmCfg)
  | product (p : ProductNo) (r : ProductCfg)
  | injector (i : InjNo) (r : InjCfg)
  | sup (k : Fin 14) (r : SupCfg)
  deriving DecidableEq, Repr

/-- The kinds of the event supervisions: codes 5, 8, 10 to 14 (R127, R161). -/
def eventKind (k : Fin 14) : Bool :=
  k.val = 4 || k.val = 7 || k.val = 9 || k.val = 10 || k.val = 11 || k.val = 12 || k.val = 13

/-- RACK fields (R182). -/
def parseRack (body : List Byte) : Option RackCfg := do
  let tref := fld body 4 2
  let link ← rangeOf 2 120 (fld body 6 1)
  let trip ← rangeOf 0 100 (fld body 7 1)
  if tref = 1500 ∨ tref = 2000 then
    some { rackId := fld body 2 2, tref := tref, linkTimeout := link, tripDelay := trip }
  else none

/-- BAY fields (R182). -/
def parseBay (body : List Byte) : Option BayCfg := do
  let enabled ← boolOf (fld body 2 1)
  let attention ← rangeOf 30 600 (fld body 3 2)
  let abandon ← rangeOf 60 3600 (fld body 5 2)
  let activity ← maskOf 5 (fld body 7 1)
  let period := fld body 8 2
  let k ← rangeOf 4 7 (fld body 10 1)
  let limit ← rangeOf 1 8 (fld body 11 1)
  let polarity ← maskOf 3 (fld body 12 1)
  let vapour ← boolOf (fld body 13 1)
  if period = 0 ∨ (100 ≤ period ∧ period ≤ 3000) then
    some { enabled := enabled, attention := attention, abandon := abandon, activity := activity
           deadmanPeriod := period, deadmanK := k, deadmanLimit := limit, polarity := polarity
           vapourUsed := vapour }
  else none

/-- Point i of an ARM record: in range within the count, zero beyond it (R161, R182). -/
def parsePoint (body : List Byte) (count i : Nat) : Option MfPoint :=
  let p : MfPoint := ⟨fld body (10 + 6 * i) 2, fld body (12 + 6 * i) 4⟩
  if i < count then
    if 1 ≤ p.flow ∧ p.flow ≤ 6000 ∧ 90000 ≤ p.mf ∧ p.mf ≤ 110000 then some p else none
  else if p.flow = 0 ∧ p.mf = 0 then some p else none

/-- ARM fields (R182). -/
def parseArm (body : List Byte) : Option ArmCfg := do
  let bay ← unitOrNone 4 (fld body 2 1)
  let mask ← maskOf 12 (fld body 3 2)
  let k ← rangeOf 500 2000000 (fld body 5 4)
  let count ← rangeOf 1 5 (fld body 9 1)
  let p0 ← parsePoint body count 0
  let p1 ← parsePoint body count 1
  let p2 ← parsePoint body count 2
  let p3 ← parsePoint body count 3
  let p4 ← parsePoint body count 4
  let dual ← boolOf (fld body 40 1)
  let minPulse ← rangeOf 0 4 (fld body 41 1)
  let unattended ← rangeOf 1 65535 (fld body 52 2)
  let travel ← rangeOf 5 200 (fld body 54 1)
  let noFlow ← rangeOf 10 300 (fld body 55 2)
  let offset ← signedOf (-200) 200 (fldS body 59)
  some { bay := bay, productMask := mask, k := k, pointCount := count, points := #v[p0, p1, p2, p3, p4]
         dual := dual, minPulse := minPulse, startVolume := fld body 42 2, tripDownVolume := fld body 44 2
         closeAheadInitial := fld body 46 2, closeAheadMax := fld body 48 2, overrunLimit := fld body 50 2
         unattendedLimit := unattended, valveTravel := travel, noFlowTime := noFlow, minFlow := fld body 57 2
         tempOffset := offset }

/-- An additive entry at an offset (R182). -/
def parseEntry (body : List Byte) (off : Nat) : Option AdditiveEntry := do
  let inj ← unitOrNone 6 (fld body off 1)
  let r ← rangeOf 1 10000 (fld body (off + 1) 2)
  let d ← rangeOf 10 20000 (fld body (off + 3) 2)
  some { inj := inj, r := r, d := d }

/-- PRODUCT fields (R182). -/
def parseProduct (body : List Byte) : Option ProductCfg := do
  let enabled ← boolOf (fld body 2 1)
  let basis ← basisOf (fld body 5 1)
  let alpha ← rangeOf 0 3000 (fld body 6 2)
  let gamma ← signedOf (-5000) 5000 (fldS body 8)
  let pump ← unitOrNone 8 (fld body 10 1)
  let startDelay ← rangeOf 0 300 (fld body 11 2)
  let stopDelay ← rangeOf 0 300 (fld body 13 2)
  let entry1 ← parseEntry body 15
  let entry2 ← parseEntry body 20
  some { enabled := enabled, code := fld body 3 2, basis := basis, alpha := alpha, gamma := gamma, pump := pump
         startDelay := startDelay, stopDelay := stopDelay, entry1 := entry1, entry2 := entry2 }

/-- INJECTOR fields (R182). -/
def parseInjector (body : List Byte) : Option InjCfg := do
  let kAdd ← rangeOf 100 20000 (fld body 3 2)
  let shot ← rangeOf 5 100 (fld body 5 1)
  let tolerance ← rangeOf 1 50 (fld body 6 1)
  let bad ← rangeOf 1 10 (fld body 7 1)
  let leak ← rangeOf 10 5000 (fld body 8 2)
  let settle ← rangeOf 1 20 (fld body 10 1)
  some { armMask := BitVec.ofNat 8 (fld body 2 1), kAdd := kAdd, shotLimit := shot, tolerance := tolerance
         badLimit := bad, leakLimit := leak, settle := settle }

/-- SUPERVISION fields (R182), with the settings R161 refuses: AUTO for an event kind, and ESTOP other than LATCHED
with the trip flag set. -/
def parseSup (k : Fin 14) (body : List Byte) : Option SupCfg := do
  let cls ← classOf (fld body 2 1)
  let trip ← boolOf (fld body 3 1)
  let filter ← rangeOf 0 600 (fld body 4 2)
  if (eventKind k = true ∧ cls = .auto) ∨ (k.val = 0 ∧ (cls ≠ .latched ∨ trip = false)) then none
  else some { cls := cls, trip := trip, filter := filter }

/-- A whole configuration record: kind, index, fields, at the length of its kind (R161, R182). -/
def parseRecord (body : List Byte) : Option CfgRecord :=
  let kind := fld body 0 1
  let index := fld body 1 1
  if kind = 1 ∧ body.length = 8 then
    if index = 1 then (parseRack body).map .rack else none
  else if kind = 2 ∧ body.length = 14 then do
    let b ← unitOf 4 index
    (parseBay body).map (.bay b)
  else if kind = 3 ∧ body.length = 61 then do
    let a ← unitOf 8 index
    (parseArm body).map (.arm a)
  else if kind = 4 ∧ body.length = 25 then do
    let p ← unitOf 12 index
    (parseProduct body).map (.product p)
  else if kind = 5 ∧ body.length = 11 then do
    let i ← unitOf 6 index
    (parseInjector body).map (.injector i)
  else if kind = 6 ∧ body.length = 6 then do
    let k ← unitOf 14 index
    (parseSup k body).map (.sup k)
  else none

/-- A unit number that may be 0. -/
def unitByte {n : Nat} (u : Option (Fin n)) : List Byte :=
  be 1 (match u with
    | some i => unitNo i
    | none => 0)

/-- The bytes of a linearisation point (R182). -/
def MfPoint.bytes (p : MfPoint) : List Byte := be 2 p.flow ++ be 4 p.mf

/-- The bytes of an additive entry (R182). -/
def AdditiveEntry.bytes (e : AdditiveEntry) : List Byte := unitByte e.inj ++ be 2 e.r ++ be 2 e.d

/-- A record as its bytes, kind and index first (R167, R182). -/
def CfgRecord.bytes : CfgRecord → List Byte
  | .rack r => be 1 1 ++ be 1 1 ++ be 2 r.rackId ++ be 2 r.tref ++ be 1 r.linkTimeout ++ be 1 r.tripDelay
  | .bay b r =>
    be 1 2 ++ be 1 (unitNo b) ++ boolByte r.enabled ++ be 2 r.attention ++ be 2 r.abandon
      ++ be 1 r.activity.toNat ++ be 2 r.deadmanPeriod ++ be 1 r.deadmanK ++ be 1 r.deadmanLimit
      ++ be 1 r.polarity.toNat ++ boolByte r.vapourUsed
  | .arm a r =>
    be 1 3 ++ be 1 (unitNo a) ++ unitByte r.bay ++ be 2 r.productMask.toNat ++ be 4 r.k ++ be 1 r.pointCount
      ++ (r.points.toList.flatMap MfPoint.bytes) ++ boolByte r.dual ++ be 1 r.minPulse ++ be 2 r.startVolume
      ++ be 2 r.tripDownVolume ++ be 2 r.closeAheadInitial ++ be 2 r.closeAheadMax ++ be 2 r.overrunLimit
      ++ be 2 r.unattendedLimit ++ be 1 r.valveTravel ++ be 2 r.noFlowTime ++ be 2 r.minFlow
      ++ be2s r.tempOffset
  | .product p r =>
    be 1 4 ++ be 1 (unitNo p) ++ boolByte r.enabled ++ be 2 r.code ++ be 1 r.basis.code ++ be 2 r.alpha
      ++ be2s r.gamma ++ unitByte r.pump ++ be 2 r.startDelay ++ be 2 r.stopDelay ++ r.entry1.bytes
      ++ r.entry2.bytes
  | .injector i r =>
    be 1 5 ++ be 1 (unitNo i) ++ be 1 r.armMask.toNat ++ be 2 r.kAdd ++ be 1 r.shotLimit ++ be 1 r.tolerance
      ++ be 1 r.badLimit ++ be 2 r.leakLimit ++ be 1 r.settle
  | .sup k r => be 1 6 ++ be 1 (unitNo k) ++ be 1 r.cls.code ++ boolByte r.trip ++ be 2 r.filter

/-- All supervision kind indices in ascending order. -/
def allKinds : List (Fin 14) := [0, 1, 2, 3, 4, 5, 6, 7, 8, 9, 10, 11, 12, 13]

/-- The 45 records in serialisation order (R167). -/
def Configuration.records (c : Configuration) : List CfgRecord :=
  [.rack c.rack] ++ allBays.map (fun b => .bay b c.bays[b]) ++ allArms.map (fun a => .arm a c.arms[a])
    ++ allProducts.map (fun p => .product p c.products[p])
    ++ allInjs.map (fun i => .injector i c.injectors[i]) ++ allKinds.map (fun k => .sup k c.sup[k])

/-- The metrology digest of a configuration (R167). -/
def Configuration.digestOf (c : Configuration) : BitVec 16 := crc16 (c.records.flatMap CfgRecord.bytes)

/-- A record put in its place in a working copy (R161). -/
def Configuration.put (c : Configuration) : CfgRecord → Configuration
  | .rack r => { c with rack := r }
  | .bay b r => { c with bays := vset c.bays b r }
  | .arm a r => { c with arms := vset c.arms a r }
  | .product p r => { c with products := vset c.products p r }
  | .injector i r => { c with injectors := vset c.injectors i r }
  | .sup k r => { c with sup := vset c.sup k r }

/-- The record of a kind and index, kinds 1..6 (R162). -/
def Configuration.record (c : Configuration) (kind index : Nat) : Option CfgRecord :=
  match kind with
  | 1 => if index = 1 then some (.rack c.rack) else none
  | 2 => (unitOf 4 index).map fun b => .bay b c.bays[b]
  | 3 => (unitOf 8 index).map fun a => .arm a c.arms[a]
  | 4 => (unitOf 12 index).map fun p => .product p c.products[p]
  | 5 => (unitOf 6 index).map fun i => .injector i c.injectors[i]
  | 6 => (unitOf 14 index).map fun k => .sup k c.sup[k]
  | _ => none

/-! ### Factory defaults (R159) -/

/-- The default BAY record. -/
def BayCfg.factory : BayCfg :=
  { enabled := true, attention := 120, abandon := 600, activity := 0b11111, deadmanPeriod := 0, deadmanK := 6
    deadmanLimit := 3, polarity := 0, vapourUsed := true }

/-- The default ARM record: unused. -/
def ArmCfg.factory : ArmCfg :=
  { bay := none, productMask := 0, k := 500, pointCount := 1
    points := #v[⟨1, 100000⟩, ⟨0, 0⟩, ⟨0, 0⟩, ⟨0, 0⟩, ⟨0, 0⟩], dual := false, minPulse := 0, startVolume := 0
    tripDownVolume := 0, closeAheadInitial := 0, closeAheadMax := 0, overrunLimit := 0, unattendedLimit := 1
    valveTravel := 5, noFlowTime := 10, minFlow := 0, tempOffset := 0 }

/-- The default PRODUCT record: disabled. γ is at the lowest value of its range. -/
def ProductCfg.factory : ProductCfg :=
  { enabled := false, code := 0, basis := .gross, alpha := 0, gamma := -5000, pump := none, startDelay := 0
    stopDelay := 0, entry1 := ⟨none, 1, 10⟩, entry2 := ⟨none, 1, 10⟩ }

/-- The default INJECTOR record: unused. -/
def InjCfg.factory : InjCfg :=
  { armMask := 0, kAdd := 100, shotLimit := 5, tolerance := 1, badLimit := 1, leakLimit := 10, settle := 1 }

/-- The default SUPERVISION records (R127), in kind order; the seven event kinds, for which the table gives no filter,
have 0 (assumption 51). -/
def supFactory : Vector SupCfg 14 :=
  #v[⟨.latched, true, 1⟩, ⟨.auto, false, 5⟩, ⟨.latched, false, 3⟩, ⟨.auto, false, 10⟩, ⟨.latched, false, 0⟩,
     ⟨.latched, true, 0⟩, ⟨.auto, false, 0⟩, ⟨.latched, false, 0⟩, ⟨.latched, false, 100⟩,
     ⟨.latched, false, 0⟩, ⟨.latched, true, 0⟩, ⟨.warning, false, 0⟩, ⟨.warning, false, 0⟩,
     ⟨.latched, false, 0⟩]

/-- The factory defaults (R159). -/
def Configuration.factory : Configuration :=
  { rack := { rackId := 0, tref := 1500, linkTimeout := 10, tripDelay := 20 }
    bays := .replicate 4 BayCfg.factory
    arms := .replicate 8 ArmCfg.factory
    products := .replicate 12 ProductCfg.factory
    injectors := .replicate 6 InjCfg.factory
    sup := supFactory }

/-- What the blocks run from while the active configuration is invalid: the factory defaults with every bay
counted as disabled (R159); every product is disabled in them already. -/
def Configuration.whileInvalid : Configuration :=
  { Configuration.factory with bays := .replicate 4 { BayCfg.factory with enabled := false } }

/-! ### Permits and orders (R183) -/

/-- The fields a PERMIT PUT carries, all within range (R87, R183). -/
def parsePermit (body : List Byte) : Option Permit := do
  let number ← rangeOf 1 65535 (fld body 0 2)
  let carrier ← rangeOf 0 9999 (fld body 10 2)
  let bayMask ← maskOf 4 (fld body 14 1)
  let productMask ← maskOf 12 (fld body 15 2)
  let standalone ← boolOf (fld body 17 1)
  let quota ← rangeOf 0 10000000 (fld body 18 4)
  if body.length = 22 ∧ fld body 2 8 ≠ 0 then
    some { number := number, token := BitVec.ofNat 64 (fld body 2 8), carrier := carrier
           expiry := fld body 12 2, bayMask := bayMask, productMask := productMask, standalone := standalone
           quota := quota, used := 0, reserved := 0, state := .active, openSession := none }
  else none

/-- The remaining quota, `none` for UNLIMITED (R88). -/
def Permit.remaining (p : Permit) : Option Nat :=
  if p.quota = 0 then none else some (p.quota - p.used - p.reserved)

/-- The 36 bytes of a PERMIT READ reply (R183). -/
def Permit.bytes (p : Permit) : List Byte :=
  be 2 p.number ++ be 8 p.token.toNat ++ be 2 p.carrier ++ be 2 p.expiry ++ be 1 p.bayMask.toNat
    ++ be 2 p.productMask.toNat ++ boolByte p.standalone ++ be 4 p.quota ++ be 4 p.used ++ be 4 p.reserved
    ++ be 1 p.state.code ++ unitByte p.openSession
    ++ be 4 (match p.remaining with
      | some n => n
      | none => 0xFFFFFFFF)

/-- Entry i of an ORDER PUT (R183). -/
def parseOrderEntry (body : List Byte) (i : Nat) : Option OrderEntry := do
  let comp ← unitOf 8 (fld body (9 + 6 * i) 1)
  let product ← unitOf 12 (fld body (10 + 6 * i) 1)
  let preset ← rangeOf 100 400000 (fld body (11 + 6 * i) 4)
  some { comp := comp, product := product, preset := preset }

/-- The n entries of an ORDER PUT. -/
def parseEntries (body : List Byte) : Nat → Option (List OrderEntry)
  | 0 => some []
  | n + 1 => do
    let before ← parseEntries body n
    let e ← parseOrderEntry body n
    some (before ++ [e])

/-- No two entries carry the same compartment number (R96). -/
def distinctComps (es : List OrderEntry) : Bool := decide ((es.map OrderEntry.comp).Nodup)

/-- An ORDER PUT within its layout and ranges (R96, R183). -/
def parseOrder (body : List Byte) : Option Order := do
  let number ← rangeOf 1 2147483647 (fld body 0 4)
  let permit ← rangeOf 1 65535 (fld body 4 2)
  let n ← rangeOf 1 8 (fld body 8 1)
  let entries ← parseEntries body n
  if body.length = 9 + 6 * n ∧ distinctComps entries = true then
    some { number := number, permit := permit, vehicle := fld body 6 2, entries := entries, active := false
           sessionBay := none, orphaned := false }
  else none

/-- The bytes of an order as ORDER READ returns them (R183). -/
def Order.bytes (o : Order) : List Byte :=
  be 4 o.number ++ be 2 o.permit ++ be 2 o.vehicle ++ be 1 o.entries.length
    ++ o.entries.flatMap (fun e => be 1 (unitNo e.comp) ++ be 1 (unitNo e.product) ++ be 4 e.preset)
    ++ boolByte o.active ++ unitByte o.sessionBay ++ boolByte o.orphaned

/-! ### Notes (R185) -/

/-- The 26 bytes of an additive line. -/
def NoteAdditive.bytes (l : NoteAdditive) : List Byte :=
  be 1 (unitNo l.inj) ++ be 2 l.r ++ be 2 l.d ++ be 4 l.due ++ be 4 l.delivered ++ be 4 l.missed
    ++ be 4 l.measured ++ be 4 l.target ++ be 1 (flagBit l.fault 0)

/-- The 42 bytes of a compartment line, followed by its additive lines. -/
def NoteLine.bytes (l : NoteLine) : List Byte :=
  be 1 (unitNo l.comp) ++ be 2 l.code ++ unitByte l.arm ++ be 1 l.basis.code ++ be 4 l.preset ++ be 4 l.grossDl
    ++ be 4 l.standardDl ++ be2s l.avgTemp ++ be 4 l.meanVcf ++ be 8 l.totStartDl ++ be 8 l.totEndDl
    ++ be 1 (endReasonCode l.endReason) ++ be 1 l.flags ++ be 1 l.additives.length
    ++ l.additives.flatMap NoteAdditive.bytes

/-- A stamp's six bytes. -/
def Stamp.bytes (t : Stamp) : List Byte := be 2 t.day ++ be 4 t.second

/-- A note as NOTE READ returns it. -/
def Note.bytes (n : Note) : List Byte :=
  be 4 n.number ++ be 2 n.rackId ++ be 1 (unitNo n.bay) ++ be 4 n.order ++ be 2 n.permit ++ be 2 n.carrier
    ++ be 2 n.vehicle ++ n.start.bytes ++ n.finish.bytes ++ be 1 n.stampFlags ++ be 1 n.cause.code
    ++ be 2 n.digest.toNat ++ be 1 n.lines.length ++ n.lines.flatMap NoteLine.bytes

/-! ### Frames and records on the lines (R181) -/

/-- The body of a SHOW record: prompt code, count, three numbers of 4 bytes, unused ones 0. -/
def Show.body (x : Show) : List Byte :=
  be 1 x.prompt.code ++ be 1 x.numbers.length ++ be 4 (x.numbers.getD 0 0) ++ be 4 (x.numbers.getD 1 0)
    ++ be 4 (x.numbers.getD 2 0)

/-- A bay line record: start byte, length, kind, body, CRC. -/
def bayRecord (kind : Nat) (body : List Byte) : List Byte :=
  let covered := be 2 body.length ++ be 1 kind ++ body
  be 1 0xC3 ++ covered ++ be 2 (crc16 covered).toNat

/-- A SHOW record as it leaves on TERMINAL TX. -/
def Show.bytes (x : Show) : List Byte := bayRecord 3 x.body

/-- A host line frame: start byte, address, length, kind, body, CRC. -/
def hostFrame (address kind : Nat) (body : List Byte) : List Byte :=
  let covered := be 1 address ++ be 2 body.length ++ be 1 kind ++ body
  be 1 0xC3 ++ covered ++ be 2 (crc16 covered).toNat

/-- A reply's frame, where R184 lays its body out; the five other status replies have no byte layout (R177). -/
def Reply.frame (r : Reply) (address : Nat) : Option (List Byte) :=
  match r.body with
  | .bytes l => some (hostFrame address (r.kind.toNat + 0x80) (be 1 r.result.code ++ l))
  | _ => none

/-- The request kinds that name a message of the catalogue (R181). -/
def knownKind (k : Nat) : Bool :=
  (0x01 ≤ k && k ≤ 0x06) || k == 0x10 || (0x20 ≤ k && k ≤ 0x24) || (0x30 ≤ k && k ≤ 0x35)
    || (0x40 ≤ k && k ≤ 0x42) || k == 0x50 || (0x60 ≤ k && k ≤ 0x62) || (0x70 ≤ k && k ≤ 0x72) || k == 0x7F

/-- The bytes after the start byte form a whole frame: address, length, kind, a body of the stated length, CRC. -/
def frameWhole (f : List Byte) : Bool := f.length = fld f 1 2 + 6 && fld f 1 2 ≤ 1024

/-- The receiver's checks at the end of a frame, in the order of R172: CRC, address, all-call, kind, pending reply.
True when the frame is discarded. -/
def frameDiscards (address : Nat) (replyPending : Bool) (f : List Byte) : Bool :=
  let covered := f.take (f.length - 2)
  let addr := fld f 0 1
  let kind := fld f 3 1
  !(frameWhole f) || (crc16 covered).toNat ≠ fld f (f.length - 2) 2
    || (addr ≠ 0 && addr ≠ address)
    || (addr = 0 && kind ≠ 0x10 && kind ≠ 0x71)
    || 0x80 ≤ kind
    || replyPending

/-- The framing and the check of a bay line record after its start byte: length, kind, body, CRC (R181). -/
def bayFrameGood (f : List Byte) : Bool :=
  f.length = fld f 0 2 + 5 && (crc16 (f.take (f.length - 2))).toNat = fld f (f.length - 2) 2

/-- A key with one arm as its argument, the second argument 0 (R181). -/
def armKey (key : ArmNo → Instr) (x y : Nat) : Option Instr := if y = 0 then (unitOf 8 x).map key else none

/-- A key without arguments, both 0 (R181). -/
def plainKey (key : Instr) (x y : Nat) : Option Instr := if x = 0 ∧ y = 0 then some key else none

/-- The key of a key code with its two arguments (R107, R181). -/
def keyCommand (b : BayNo) (code x y : Nat) : Option Instr :=
  match code with
  | 1 => (unitOf 8 x).bind fun c => (unitOf 8 y).map (.select b c)
  | 2 => armKey (.start b) x y
  | 3 => armKey (.stop b) x y
  | 4 => armKey (.resume b) x y
  | 5 => armKey (.finish b) x y
  | 6 => plainKey (.endKey b) x y
  | 7 => plainKey (.resetKey b) x y
  | _ => none

/-- The command a record on a bay's TERMINAL RX is, after its start byte (R107, R181): a CARD with its 8 token bytes, or
a KEY with its code and arguments; `none` is a malformed record. -/
def bayCommand (b : BayNo) (f : List Byte) : Option Instr :=
  if bayFrameGood f then
    match fld f 2 1 with
    | 1 => if fld f 0 2 = 8 then some (.card b (BitVec.ofNat 64 (fld f 3 8))) else none
    | 2 => if fld f 0 2 = 3 then keyCommand b (fld f 3 1) (fld f 4 1) (fld f 5 1) else none
    | _ => none
  else none

end Sys2Proof.Machine
end

