-- ==== Sys2Proof/Machine/Ops.lean ====
section
/-! DEFINITION. The named operations over State: the settings in force, one change per kind of unit, compartment
records, notices between blocks, SHOW records, and the write to retained memory. -/

namespace Sys2Proof.Machine

/-! ### The settings in force (R159) -/

/-- The records every block runs from. -/
def State.cfg (s : State) : Configuration :=
  match s.setup.active with
  | some c => c
  | none => Configuration.whileInvalid

/-- The arm's ARM record. -/
def State.armCfg (s : State) (a : ArmNo) : ArmCfg := s.cfg.arms[a]

/-- An arm whose bay field is 0 is unused (R4, R41). -/
def ArmCfg.used (c : ArmCfg) : Bool := c.bay.isSome

/-- An injector whose arm mask names no arm is unused (R69). -/
def InjCfg.used (c : InjCfg) : Bool := c.armMask ≠ 0

/-- The SUPERVISION record of an instance's kind (R128). -/
def State.supCfg (s : State) (i : InstId) : SupCfg := s.cfg.sup[i.kind]

/-- The arms whose ARM record names the bay. -/
def State.armsOf (s : State) (b : BayNo) : List ArmNo := allArms.filter fun a => (s.armCfg a).bay = some b

/-- The arm belongs to the bay. -/
def State.armOfBay (s : State) (a : ArmNo) (b : BayNo) : Bool := (s.armCfg a).bay = some b

/-! ### One change per kind of unit -/

/-- Change a pulse input. -/
def State.modPulse (s : State) (a : ArmNo) (f : PulseInput → PulseInput) : State :=
  { s with pulses := vmod s.pulses a f }

/-- Change a temperature receiver. -/
def State.modTemp (s : State) (a : ArmNo) (f : TempReceiver → TempReceiver) : State :=
  { s with temps := vmod s.temps a f }

/-- Change a metering engine. -/
def State.modMeter (s : State) (a : ArmNo) (f : MeterEngine → MeterEngine) : State :=
  { s with meters := vmod s.meters a f }

/-- Change an arm controller. -/
def State.modArm (s : State) (a : ArmNo) (f : Arm → Arm) : State := { s with arms := vmod s.arms a f }

/-- Change a pump. -/
def State.modPump (s : State) (p : PumpNo) (f : Pump → Pump) : State := { s with pumps := vmod s.pumps p f }

/-- Change an injector. -/
def State.modInj (s : State) (i : InjNo) (f : Injector → Injector) : State :=
  { s with injectors := vmod s.injectors i f }

/-- Change a bay controller. -/
def State.modBay (s : State) (b : BayNo) (f : Bay → Bay) : State := { s with bays := vmod s.bays b f }

/-- A supervision instance. -/
def State.inst (s : State) (i : InstId) : Instance := s.sup[i.slot]

/-- Change a supervision instance. -/
def State.modInst (s : State) (i : InstId) (f : Instance → Instance) : State :=
  { s with sup := vmod s.sup i.slot f }

/-- Change the host line interface. -/
def State.modLine (s : State) (f : HostLine → HostLine) : State := { s with line := f s.line }

/-- The same change made for each unit of a list in turn. -/
def State.each {α : Type} (s : State) (l : List α) (f : State → α → State) : State := l.foldl f s

/-! ### Sessions and compartment records -/

/-- The bay's session. -/
def State.session (s : State) (b : BayNo) : Option Session := s.bays[b].session

/-- Change the bay's session, if it has one. -/
def State.modSession (s : State) (b : BayNo) (f : Session → Session) : State :=
  s.modBay b fun x => { x with session := x.session.map f }

/-- The compartment record of a number. -/
def Session.comp (x : Session) (c : CompNo) : Option CompRec := x.comps.find? fun r => r.no = c

/-- Change the compartment record of a number. -/
def Session.modComp (x : Session) (c : CompNo) (f : CompRec → CompRec) : Session :=
  { x with comps := x.comps.map fun r => if r.no = c then f r else r }

/-- The compartment record of a bay's session. -/
def State.compRec (s : State) (b : BayNo) (c : CompNo) : Option CompRec :=
  match s.session b with
  | some x => x.comp c
  | none => none

/-- Change a compartment record of a bay's session. -/
def State.modComp (s : State) (b : BayNo) (c : CompNo) (f : CompRec → CompRec) : State :=
  s.modSession b fun x => x.modComp c f

/-- The record of the compartment on an arm. -/
def State.armComp (s : State) (a : ArmNo) : Option CompRec :=
  match s.arms[a].comp with
  | some oc => s.compRec oc.bay oc.comp
  | none => none

/-- Change the record of the compartment on an arm. -/
def State.modArmComp (s : State) (a : ArmNo) (f : CompRec → CompRec) : State :=
  match s.arms[a].comp with
  | some oc => s.modComp oc.bay oc.comp f
  | none => s

/-- Change one additive line of a compartment. -/
def CompRec.modLine (r : CompRec) (n : Nat) (f : AdditiveLine → AdditiveLine) : CompRec :=
  { r with lines := r.lines.map fun l => if l.number = n then f l else l }

/-- Change every additive line of a compartment. -/
def CompRec.modLines (r : CompRec) (f : AdditiveLine → AdditiveLine) : CompRec :=
  { r with lines := r.lines.map f }

/-- The additive line a shot request is for. -/
def State.lineOf (s : State) (q : ShotRequest) : Option AdditiveLine :=
  match s.compRec q.bay q.comp with
  | some r => r.lines.find? fun l => l.number = q.line
  | none => none

/-- Change the additive line a shot request is for. -/
def State.modLineOf (s : State) (q : ShotRequest) (f : AdditiveLine → AdditiveLine) : State :=
  s.modComp q.bay q.comp fun r => r.modLine q.line f

/-- The compartment has an additive line naming the injector (R134). -/
def CompRec.names (r : CompRec) (i : InjNo) : Bool := r.lines.any fun l => l.inj = i

/-- The product of the compartment on an arm. -/
def State.armProduct (s : State) (a : ArmNo) : Option ProductCfg :=
  match s.arms[a].comp with
  | some oc => some s.cfg.products[oc.product]
  | none => none

/-- The injectors named by the additive entries of a product (R112, R135). -/
def ProductCfg.injs (p : ProductCfg) : List InjNo := [p.entry1.inj, p.entry2.inj].filterMap id

/-! ### Notices and SHOW records -/

/-- A notice put behind those in flight (assumption 3). -/
def State.push (s : State) (n : Notice) : State := { s with inbox := s.inbox ++ [n] }

/-- Notices put behind those in flight, in order. -/
def State.pushAll (s : State) (l : List Notice) : State := { s with inbox := s.inbox ++ l }

/-- Notices taken before those in flight: the handover of a completion (assumption 3). -/
def State.pushFirst (s : State) (l : List Notice) : State := { s with inbox := l ++ s.inbox }

/-- A SHOW record sent on a bay's TERMINAL TX and kept as the last prompt (R107). -/
def State.sendShow (s : State) (b : BayNo) (p : Prompt) (numbers : List Nat) : State :=
  s.modBay b fun x => { x with lastPrompt := some ⟨p, numbers⟩, sent := x.sent ++ [⟨p, numbers⟩] }

/-! ### Retained memory -/

/-- The retained state of the blocks as retained memory holds it (spec/00, State that survives power loss). While
the active configuration is invalid, the configuration copy stays as it is; until start-up has chosen the mode, so
does the trip mode. -/
def State.image (s : State) : Retained :=
  { config := match s.setup.active with
      | some c => some (c, s.setup.digest)
      | none => s.nv.config
    permits := some s.permits
    notes := some (s.notes.held, s.notes.next)
    sessions := vmap Bay.session s.bays
    totals := vmap (fun m => some ⟨m.totaliser, m.unattended, m.rG, m.rS⟩) s.meters
    closeAhead := vmap (fun a => some a.closeAhead) s.arms
    tripMode := match s.mode with
      | .tripping => true
      | .tripped => true
      | .startUp => s.nv.tripMode
      | _ => false
    tripCause := some s.trip.cause }

/-- One retained write: every retained change made since the last one reaches retained memory together (R33, R86,
R106, R146, R165; assumption 6). -/
def State.write (s : State) : State := { s with nv := s.image, undo := s.nv :: s.undo }

/-- The beginning of a command: no SHOW sent yet, no retained write made yet. -/
def State.fresh (s : State) : State :=
  { s with undo := [], bays := vmap (fun b => { b with sent := [] }) s.bays }

end Sys2Proof.Machine
end

