-- ==== Sys2Proof/Machine/Injectors.lean ====
section
/-! DEFINITION. The injector controllers: requests and the queue, shots, measurement and judgement, the leak watch,
withdrawals and the rack trip (R66 to R81). -/

namespace Sys2Proof.Machine

/-- The INJECTOR record. -/
def State.injCfg (s : State) (i : InjNo) : InjCfg := s.cfg.injectors[i]

/-- The solenoid is open only in SHOT (R69). -/
def Injector.solenoidOpen (x : Injector) : Bool := x.state = .shot

/-! ### Lines and their schedule -/

/-- Shots due: the number of k whose point floor(k × D × 10^8 / R) lies below P (R67). -/
def shotsDue (presetMicro d r : Nat) : Nat := ceilDiv (presetMicro * r) (d * 100000000)

/-- The shot point of shot k (R67). -/
def shotPoint (k d r : Nat) : Nat := k * d * 100000000 / r

/-- The line of an additive entry (R66). -/
def formLine (number presetDl : Nat) (e : AdditiveEntry) : List AdditiveLine :=
  match e.inj with
  | none => []
  | some i =>
    [{ number := number, inj := i, r := e.r, d := e.d, due := shotsDue (presetDl * Config.microPerDeci) e.d e.r
       next := 0, delivered := 0, missed := 0, measured := 0, active := false, fault := false }]

/-- The additive lines of a compartment of a product (R66). -/
def formLines (p : ProductCfg) (presetDl : Nat) : List AdditiveLine :=
  formLine 1 presetDl p.entry1 ++ formLine 2 presetDl p.entry2

/-- A line's schedule closed at completion: what was not posted is missed (R79). -/
def AdditiveLine.close (l : AdditiveLine) : AdditiveLine :=
  { l with missed := l.missed + (l.due - l.next), next := l.due }

/-- A line closed at start-up: missed is shots due less delivered (R84, R168). -/
def AdditiveLine.closeAtStartUp (l : AdditiveLine) : AdditiveLine :=
  { l with next := l.due, missed := l.due - l.delivered, active := false }

/-! ### Faults -/

/-- ADDITIVE_FAULT on every active line that names the injector (R81). -/
def markAdditiveFault (i : InjNo) (s : State) : State :=
  s.each allBays fun s b => s.modSession b fun x =>
    { x with comps := x.comps.map fun r =>
        r.modLines fun l => if l.active && l.inj = i then { l with fault := true } else l }

/-- An INJ_* event raised by the injector (R81, R82). -/
def raiseInj (i : InjNo) (event : InstId) (s : State) : State := (markAdditiveFault i s).push (.event event)

/-- An INJ_* event raised on a shot: the line of that shot is marked as well (R81). -/
def raiseOnShot (i : InjNo) (event : InstId) (q : ShotRequest) (s : State) : State :=
  raiseInj i event (s.modLineOf q fun l => { l with fault := true })

/-! ### The arm's outstanding shots -/

/-- One of the arm's requests has joined a queue (R70, R79). -/
def shotJoined (q : ShotRequest) (s : State) : State :=
  s.modArm q.arm fun x => { x with outstanding := x.outstanding + 1 }

/-- The arm still carries the compartment of a request (R75). -/
def stillCarries (s : State) (q : ShotRequest) : Bool :=
  match s.arms[q.arm].comp with
  | some oc => oc.bay = q.bay && oc.comp = q.comp
  | none => false

/-- One of the arm's requests has left: the count falls, if the arm still carries the compartment, and the arm tests
its closing (R49, R75). -/
def shotLeft (q : ShotRequest) (s : State) : State :=
  if stillCarries s q then
    (s.modArm q.arm fun x => { x with outstanding := x.outstanding - 1 }).push (.testArm q.arm)
  else s

/-! ### Requests and shots -/

/-- An IDLE injector takes the oldest request into SHOT (R71). -/
def takeOldest (i : InjNo) (s : State) : State :=
  let x := s.injectors[i]
  match x.state, x.queue with
  | .idle, q :: rest =>
    let d := match s.lineOf q with
      | some l => l.d
      | none => 0
    let c := s.injCfg i
    s.modInj i fun x =>
      { x with state := .shot, queue := rest
               current := some { req := q, pulses := 0, target := ceilDiv (d * c.kAdd) 10000, ending := none }
               shotTimer := some (Timer.start (c.shotLimit * ticksPerTenth))
               started := satSucc 65535 x.started }
  | _, _ => s

/-- A refused request is a missed shot (R70). -/
def refuseShot (i : InjNo) (q : ShotRequest) (s : State) : State :=
  (s.modLineOf q fun l => { l with missed := l.missed + 1 }).modInj i fun x =>
    { x with refused := satSucc 65535 x.refused }

/-- A shot request arrives at an injector (R70). -/
def postShot (i : InjNo) (q : ShotRequest) (s : State) : State :=
  if s.mode ≠ .run ∨ Config.queueLength ≤ s.injectors[i].queue.length then refuseShot i q s
  else takeOldest i (shotJoined q (s.modInj i fun x => { x with queue := x.queue ++ [q] }))

/-- SHOT ends with an ending (R72): solenoid closed, shot timer stopped, settle timer started, AFTER entered. -/
def endShot (i : InjNo) (ending : ShotEnding) (s : State) : State :=
  match s.injectors[i].state, s.injectors[i].current with
  | .shot, some shot =>
    let c := s.injCfg i
    let s := s.modInj i fun x =>
      { x with state := .after, current := some { shot with ending := some ending }, shotTimer := none
               settleTimer := some (Timer.start (c.settle * ticksPerTenth))
               shortfalls := if ending = .complete then x.shortfalls else satSucc 65535 x.shortfalls }
    if shot.pulses = 0 ∧ ending ≠ .trip then raiseOnShot i (.injNoFlow i) shot.req s else s
  | _, _ => s

/-- The measured volume of a shot and the new carry (R73). -/
def measureShot (pulses carry kAdd : Nat) : Nat × Nat :=
  let m := pulses * 1000000 + carry
  (m / kAdd, m % kAdd)

/-- The difference of two amounts. -/
def natDiff (a b : Nat) : Nat := if a < b then b - a else a - b

/-- A finished shot is bad: too far from its nominal volume, or no pulse at all (R74). -/
def shotIsBad (measured d tolerance pulses : Nat) : Bool :=
  pulses = 0 || tolerance * d < natDiff measured (d * 100)

/-- The judgement of a finished shot (R74); a shot ended by TRIP is not judged. -/
def judgeShot (i : InjNo) (shot : Shot) (measured d : Nat) (s : State) : State :=
  let c := s.injCfg i
  if shot.ending = some .trip then s
  else if shotIsBad measured d c.tolerance shot.pulses then
    if c.badLimit ≤ s.injectors[i].badCount + 1 then
      raiseOnShot i (.injDose i) shot.req (s.modInj i fun x => { x with badCount := 0 })
    else s.modInj i fun x => { x with badCount := x.badCount + 1 }
  else s.modInj i fun x => { x with badCount := 0 }

/-- The settle time is over: the shot is measured, judged and written to its line, the arm and the bay are told, and
the next request is taken (R73 to R75, R119). -/
def finishShot (i : InjNo) (s : State) : State :=
  match s.injectors[i].state, s.injectors[i].current with
  | .after, some shot =>
    let m := measureShot shot.pulses s.injectors[i].carry (s.injCfg i).kAdd
    let d := match s.lineOf shot.req with
      | some l => l.d
      | none => 0
    let s := s.modInj i fun x => { x with carry := m.2 }
    let s := judgeShot i shot m.1 d s
    let s := s.modLineOf shot.req fun l =>
      { l with delivered := l.delivered + 1, measured := acc64 (l.measured + m.1) }
    let s := s.modInj i fun x => { x with state := .idle, current := none, settleTimer := none }
    let s := (shotLeft shot.req s).push (.shotWritten shot.req.bay i)
    takeOldest i s
  | _, _ => s

/-- The leak volume of an injector in µL (R76). -/
def leakVolume (x : Injector) (c : InjCfg) : Nat := x.leakPulses * 1000000 / c.kAdd

/-- An accepted additive pulse at a used injector (R69, R72, R73, R76). -/
def additivePulseAt (i : InjNo) (s : State) : State :=
  let x := s.injectors[i]
  match x.state, x.current with
  | .shot, some shot =>
    let s := s.modInj i fun x => { x with current := some { shot with pulses := shot.pulses + 1 } }
    if shot.target ≤ shot.pulses + 1 then endShot i .complete s else s
  | .after, some shot => s.modInj i fun x => { x with current := some { shot with pulses := shot.pulses + 1 } }
  | .idle, _ =>
    let s := s.modInj i fun x => { x with leakPulses := x.leakPulses + 1 }
    let c := s.injCfg i
    if c.leakLimit * 100 < leakVolume s.injectors[i] c then
      raiseInj i (.injLeak i) (s.modInj i fun x => { x with leakPulses := 0 })
    else s
  | _, none => s

/-! ### Withdrawal and the trip -/

/-- The requests of an arm in an injector's queue. -/
def queuedOf (x : Injector) (a : ArmNo) : List ShotRequest := x.queue.filter fun q => q.arm = a

/-- The lowest of the withdrawn k, given the first. -/
def lowestK (first : Nat) (ks : List Nat) : Nat := ks.foldl min first

/-- A line from which shots were withdrawn: next shot goes back to the lowest withdrawn k, and the refused shots from
there on are taken back out of the missed count (R77). -/
def AdditiveLine.withdraw (l : AdditiveLine) (ks : List Nat) : AdditiveLine :=
  match ks with
  | [] => l
  | k :: rest =>
    let low := lowestK k rest
    { l with next := low, missed := l.missed - ((l.next - low) - ks.length) }

/-- An arm entering HALTING withdraws its queued requests from the injectors its lines name (R52, R77). -/
def withdrawShots (a : ArmNo) (s : State) : State :=
  match s.armComp a with
  | none => s
  | some r =>
    let taken := allInjs.flatMap fun i => if r.names i then queuedOf s.injectors[i] a else []
    let s := s.each allInjs fun s i =>
      if r.names i then s.modInj i fun x => { x with queue := x.queue.filter fun q => q.arm ≠ a } else s
    let s := s.modArm a fun x => { x with outstanding := x.outstanding - taken.length }
    s.modArmComp a fun r => r.modLines fun l =>
      l.withdraw ((taken.filter fun q => q.line = l.number).map ShotRequest.k)

/-- The queue emptied into the lines' missed counts (R80). -/
def emptyQueue (i : InjNo) (s : State) : State :=
  let queue := s.injectors[i].queue
  let s := s.modInj i fun x => { x with queue := [] }
  s.each queue fun s q => shotLeft q (s.modLineOf q fun l => { l with missed := l.missed + 1 })

/-- The trip request of the first stage at a used injector (R80). -/
def tripInjector (i : InjNo) (s : State) : State :=
  if (s.injCfg i).used then emptyQueue i (endShot i .trip s) else s

/-- The stage-two request at a used injector: as the trip request first, then the settling shot is finished at once
(R80). -/
def stageTwoInjector (i : InjNo) (s : State) : State :=
  if (s.injCfg i).used then finishShot i (tripInjector i s) else s

end Sys2Proof.Machine
end

