-- ==== Sys2Proof/Machine/Metering.lean ====
section
/-! DEFINITION. The metering arithmetic and its accumulation (R19 to R37), the posting of shots (R68), and the
temperature answer (R15, R16). -/

namespace Sys2Proof.Machine

/-! ### The arithmetic -/

/-- The flow rate of an interval (R21). -/
def flowRate (n k : Nat) : Nat := min 65535 (n * 24000 / k)

/-- The factor interpolated between two neighbouring points (R22). -/
def interpolate (p r : MfPoint) (q : Nat) : Int :=
  (p.mf : Int) + (((r.mf : Int) - p.mf) * ((q : Int) - p.flow)).tdiv ((r.flow : Int) - p.flow)

/-- The meter factor at a flow rate, from the points in use (R22). -/
def tableFactor (q : Nat) : List MfPoint → Nat
  | [] => 100000
  | [p] => p.mf
  | p :: r :: rest =>
    if q ≤ p.flow then p.mf
    else if q < r.flow then (interpolate p r q).toNat
    else tableFactor q (r :: rest)

/-- The points in use of an ARM record (R22). -/
def ArmCfg.table (c : ArmCfg) : List MfPoint := c.points.toList.take c.pointCount

/-- The meter factor an arm applies (R22). -/
def meterFactor (c : ArmCfg) (q : Nat) : Nat := tableFactor q c.table

/-- The gross numerator N (R23). -/
def grossNumerator (n mf rG : Nat) : Nat := n * mf * 1000 + rG

/-- X of R24. -/
def vcfX (alpha : Nat) (gamma t tref : Int) : Int :=
  (alpha : Int) * (t - tref) * 100000 - gamma * ((t - tref) * (t - tref))

/-- The volume correction factor before its limits (R24). -/
def vcfRaw (alpha : Nat) (gamma t tref : Int) : Int := 100000 - roundHalfAway (vcfX alpha gamma t tref) 100000000

/-- The volume correction factor clamped to 90000..110000 (R25). -/
def vcfClamped (v : Int) : Nat := if v < 90000 then 90000 else if 110000 < v then 110000 else v.toNat

/-- A clamp occurred (R25). -/
def vcfOutside (v : Int) : Bool := v < 90000 || 110000 < v

/-- The standard numerator NS (R26). -/
def standardNumerator (dg vcf rS : Nat) : Nat := dg * vcf + rS

/-! ### The temperature value (R15, R16) -/

/-- The arm's temperature value: the last good reading. -/
def tempValue (s : State) (a : ArmNo) : Option Int := s.temps[a].lastGood

/-- The value is held while the fault condition is present and a last good reading exists. -/
def tempIsHeld (s : State) (a : ArmNo) : Bool := s.temps[a].fault && s.temps[a].lastGood.isSome

/-! ### One interval -/

/-- What one interval gives before it is placed: flow rate, factor, gross increment, new gross carry (R21 to R23). -/
structure IntervalGross where
  q : Nat
  mf : Nat
  dg : Nat
  rG : Nat
  deriving DecidableEq, Repr

/-- The gross side of the interval computation (R21 to R23). -/
def intervalGross (c : ArmCfg) (n rG : Nat) : IntervalGross :=
  let q := flowRate n c.k
  let mf := meterFactor c q
  let num := grossNumerator n mf rG
  { q := q, mf := mf, dg := num / c.k, rG := num % c.k }

/-- The accumulators of a compartment after an interval (R24 to R26, R28): `t` is the temperature used and `marked`
says that it was held or taken as Tref. -/
def Accumulators.add (x : Accumulators) (dg ds : Nat) (t : Int) (marked limited : Bool) : Accumulators :=
  { x with g := acc64 (x.g + dg), s := acc64 (x.s + ds), tempSum := accSigned64 (x.tempSum + (dg : Int) * t)
           tempHeld := x.tempHeld || (marked && 0 < dg), vcfLimited := x.vcfLimited || (limited && 0 < dg) }

/-- The standard side of the interval on the compartment on the arm (R24 to R26, R28). An arm without a temperature
value takes T as Tref and computes 100000, which is then its last VCF: R24 is followed where R15 says that no VCF is
computed (assumption 48). -/
def accountStandard (cfg : Configuration) (a : ArmNo) (product : ProductNo) (dg : Nat) (s : State) : State :=
  let p := cfg.products[product]
  let tref : Int := cfg.rack.tref
  let value := tempValue s a
  let t := value.getD tref
  let raw := vcfRaw p.alpha p.gamma t tref
  let vcf := vcfClamped raw
  let ns := standardNumerator dg vcf s.meters[a].rS
  let marked := tempIsHeld s a || value.isNone
  let s := s.modMeter a fun m => { m with lastVcf := some vcf, rS := ns % 100000 }
  s.modArmComp a fun r => { r with acc := r.acc.add dg (ns / 100000) t marked (vcfOutside raw) }

/-- The leak watch of an interval (R30): the addition, the comparison with the unattended limit, LEAK. An expiry that
adds nothing makes no comparison (R39). -/
def leakWatch (cfg : Configuration) (a : ArmNo) (dg : Nat) (s : State) : State :=
  if s.arms[a].state.leakWatched && 0 < dg then
    let leak := s.meters[a].leak + dg
    if cfg.arms[a].unattendedLimit * Config.microPerDeci < leak then
      (s.modMeter a fun m => { m with leak := 0 }).push (.event (.leak a))
    else s.modMeter a fun m => { m with leak := leak }
  else s

/-- The interval count an arm's pulse input hands over (R4, R5). -/
def handedCount (cfg : Configuration) (s : State) (a : ArmNo) : Nat :=
  if cfg.arms[a].used then s.pulses[a].count else 0

/-- The gross side of one expiry. On an unused arm an expiry changes no volume (R19): the increment is 0 and the carry
stays, whatever the K in force (assumption 47). -/
def expiryGross (cfg : Configuration) (s : State) (a : ArmNo) : IntervalGross :=
  let x := intervalGross cfg.arms[a] (handedCount cfg s a) s.meters[a].rG
  if cfg.arms[a].used then x else { x with dg := 0, rG := s.meters[a].rG }

/-- The computation and accumulation of one expiry under a configuration (R19 to R30): the count is handed over, the
interval's volume is placed by the class of the arm's state, the leak is watched. -/
def account (cfg : Configuration) (a : ArmNo) (s : State) : State :=
  let x := expiryGross cfg s a
  let s := s.modPulse a fun p => { p with count := 0, saturated := false }
  let s := s.modMeter a fun m =>
    { m with interval := 0, q := x.q, lastMf := some x.mf, rG := x.rG, totaliser := addModulo m.totaliser x.dg }
  let s := if s.arms[a].state.unattended then
      s.modMeter a fun m => { m with unattended := addModulo m.unattended x.dg }
    else match s.arms[a].comp with
      | some oc => accountStandard cfg a oc.product x.dg s
      | none => s
  leakWatch cfg a x.dg s

/-! ### Posting shots (R68) -/

/-- The shots of one line that have fallen due are posted, k by k, at most `fuel` of them (R68). -/
def postLine (a : ArmNo) (b : BayNo) (c : CompNo) (number : Nat) : Nat → State → State
  | 0, s => s
  | fuel + 1, s =>
    match s.lineOf ⟨a, b, c, number, 0⟩, s.compRec b c with
    | some l, some r =>
      if l.next < l.due ∧ shotPoint l.next l.d l.r ≤ r.acc.g then
        let q : ShotRequest := ⟨a, b, c, number, l.next⟩
        postLine a b c number fuel
          (postShot l.inj q (s.modLineOf q fun l => { l with next := l.next + 1 }))
      else s
    | _, _ => s

/-- The shots of the compartment on the arm that have fallen due, line 1 before line 2; `st` is the state the expiry
was accounted under (R68). -/
def postShots (a : ArmNo) (st : ArmState) (s : State) : State :=
  if st.flowingOrClosing then
    match s.arms[a].comp with
    | some oc => [1, 2].foldl (fun s number =>
        match s.lineOf ⟨a, oc.bay, oc.comp, number, 0⟩ with
        | some l => postLine a oc.bay oc.comp number (l.due - l.next) s
        | none => s) s
    | none => s
  else s

/-! ### Results (R36, R37) -/

/-- The mean VCF (R36). -/
def meanVcf (g s : Nat) : Nat := if g = 0 then 100000 else roundHalfUp (s * 100000) g

/-- The average temperature (R36): with G = 0, the arm's value at that moment, or 0. -/
def averageTemp (g : Nat) (tempSum : Int) (value : Option Int) : Int :=
  if g = 0 then value.getD 0 else roundHalfAway tempSum g

/-- The metering result of a compartment, with the marks the arm adds (R35 to R37, R55). -/
def compResult (x : Accumulators) (totEnd : Nat) (value : Option Int) (overrun notConfirmed : Bool) : CompResult :=
  { grossDl := deciOf x.g, standardDl := deciOf x.s, avgTemp := averageTemp x.g x.tempSum value
    meanVcf := meanVcf x.g x.s, totStart := x.totStart, totEnd := totEnd, tempHeld := x.tempHeld
    vcfLimited := x.vcfLimited, overrun := overrun, valveNotConfirmed := notConfirmed }

/-- The basis volume (R45). -/
def basisVolume (basis : Basis) (x : Accumulators) : Nat :=
  match basis with
  | .gross => x.g
  | .standard => x.s

/-- The delivered dL on a basis (R56, R116). -/
def CompResult.deliveredOn (x : CompResult) (basis : Basis) : Nat :=
  match basis with
  | .gross => x.grossDl
  | .standard => x.standardDl

/-- The accumulators at an assignment (R34). -/
def Accumulators.fresh (totaliser : Nat) : Accumulators :=
  { g := 0, s := 0, tempSum := 0, tempHeld := false, vcfLimited := false, totStart := totaliser }

end Sys2Proof.Machine
end

