-- ==== Sys2Proof/Machine/Valves.lean ====
section
/-! DEFINITION. The valve stage command with its overrides, the valve feedback check and the settled condition
(R41, R48, R58), and the NO_FLOW condition (R59). -/

namespace Sys2Proof.Machine

/-- The valve stage command an arm's state calls for, with the override of the rack mode (R41). -/
def commandFor (mode : Mode) (used : Bool) (arm : Arm) : Stage :=
  if mode.mayFlow && used then
    match arm.state with
    | .lowStart => if arm.waiting then .close else .low
    | .highFlow => .high
    | .lowFinish => .low
    | _ => .close
  else .close

/-- The VALVE condition set, a change reported to the arm's VALVE instance (R58). -/
def setValveCond (a : ArmNo) (present : Bool) (s : State) : State :=
  if s.arms[a].valveCond = present then s
  else (s.modArm a fun x => { x with valveCond := present }).push (.condition (.valve a) present)

/-- The NO_FLOW condition set, a change reported to the arm's NO_FLOW instance (R59). -/
def setNoFlowCond (a : ArmNo) (present : Bool) (s : State) : State :=
  if s.arms[a].noFlowCond = present then s
  else (s.modArm a fun x => { x with noFlowCond := present }).push (.condition (.noFlow a) present)

/-- The travel allowance restarted from 0 with the VALVE condition absent (R58). -/
def restartTravel (a : ArmNo) (s : State) : State :=
  setValveCond a false (s.modArm a fun x =>
    { x with travel := some (Timer.start ((s.armCfg a).valveTravel * ticksPerTenth)) })

/-- The arm commands what its state and the rack mode call for; a change restarts the travel allowance
(R41, R58). -/
def refreshCommand (a : ArmNo) (s : State) : State :=
  let stage := commandFor s.mode (s.armCfg a).used s.arms[a]
  if s.arms[a].command = stage then s
  else restartTravel a (s.modArm a fun x => { x with command := stage })

/-- The switches agree with the command (R58). -/
def switchesAgree (command : Stage) (closedMade openMade : Bool) : Bool :=
  match command with
  | .close => closedMade
  | .low => !closedMade
  | .high => !closedMade && openMade

/-- The switches of an arm compared with its command once the allowance is over (R58). -/
def compareSwitches (a : ArmNo) (s : State) : State :=
  setValveCond a (!switchesAgree s.arms[a].command s.pins.closedSwitch[a] s.pins.openSwitch[a]) s

/-- The valve is settled while the CLOSED switch is made and the quiet timer stands at 2.0 s or more (R48). -/
def valveSettled (s : State) (a : ArmNo) : Bool :=
  s.pins.closedSwitch[a] && Config.quietTicks ≤ s.arms[a].quiet

/-- The no-flow timer started from 0 (R59). -/
def startNoFlow (a : ArmNo) (s : State) : State :=
  s.modArm a fun x => { x with noFlowTimer := some (Timer.start ((s.armCfg a).noFlowTime * ticksPerTenth)) }

/-- The no-flow timer stopped and the NO_FLOW condition made absent (R47, R52, R59). -/
def stopNoFlow (a : ArmNo) (s : State) : State :=
  setNoFlowCond a false (s.modArm a fun x => { x with noFlowTimer := none })

/-- The arm's pump wait ends: the arm commands LOW, where the mode allows it, and its no-flow timer starts
(R44, R59). -/
def endPumpWait (a : ArmNo) (s : State) : State :=
  if s.arms[a].state = .lowStart ∧ s.arms[a].waiting = true then
    let s := refreshCommand a (s.modArm a fun x => { x with waiting := false })
    if s.arms[a].command = .low then startNoFlow a s else s
  else s

end Sys2Proof.Machine
end

