-- ==== Sys2Proof/Machine/Pumps.lean ====
section
/-! DEFINITION. Pump control (R61 to R64) and the change of rack mode with everything that follows it at once:
the SHUTDOWN relay, the pumps, the valve commands (R41, R64, R158). -/

namespace Sys2Proof.Machine

/-- Every pump is forced off: in a mode other than RUN and TRIPPING, and from the beginning of the second stage of
a trip (R64). -/
def pumpsForced (s : State) : Bool := !s.mode.mayFlow || s.trip.stageTwo

/-- The pump of the product an arm is loading. -/
def pumpOf (s : State) (a : ArmNo) : Option PumpNo :=
  match s.armProduct a with
  | some p => p.pump
  | none => none

/-- The pump start delay of the product an arm is loading, in ticks. -/
def startDelayOf (s : State) (a : ArmNo) : Nat :=
  match s.armProduct a with
  | some p => p.startDelay * ticksPerTenth
  | none => 0

/-- The pump stop delay of the product an arm is loading, in ticks. -/
def stopDelayOf (s : State) (a : ArmNo) : Nat :=
  match s.armProduct a with
  | some p => p.stopDelay * ticksPerSecond
  | none => 0

/-- The pump's run time has reached a delay (R62). -/
def Pump.runReached (u : Pump) (delay : Nat) : Bool :=
  match u.run with
  | some t => delay ≤ t
  | none => false

/-- A pump on which a demand is added, when it is not forced off (R61). -/
def Pump.demanded (u : Pump) : Pump :=
  match u.state with
  | .off => { u with demand := u.demand + 1, state := .running, run := some 0 }
  | .runDown => { u with demand := u.demand + 1, state := .running, stopDelay := none }
  | .running => { u with demand := u.demand + 1 }

/-- A pump off, with its run timer cleared and its stop-delay timer stopped (R63, R64). -/
def Pump.stopped (u : Pump) : Pump := { u with state := .off, run := none, stopDelay := none }

/-- A pump from which an arm's demand is removed (R61): the last one leaves it running down, or off at a stop delay
of 0. -/
def Pump.released (u : Pump) (a : ArmNo) (stopDelay : Nat) : Pump :=
  let u := { u with demand := u.demand - 1, waiting := u.waiting.filter fun w => w ≠ a }
  if u.demand = 0 ∧ u.state = .running then
    if stopDelay = 0 then u.stopped
    else { u with state := .runDown, stopDelay := some (Timer.start stopDelay) }
  else u

/-- An arm that has entered LOW_START adds its demand; its wait ends at once for pump 0 or a pump that has run for
the start delay, otherwise it joins the waiting arms (R43, R61, R62, R64). -/
def addDemand (a : ArmNo) (s : State) : State :=
  match pumpOf s a with
  | none => endPumpWait a s
  | some p =>
    let s :=
      if pumpsForced s then s.modPump p fun u => { u with demand := u.demand + 1 }
      else s.modPump p Pump.demanded
    if s.pumps[p].runReached (startDelayOf s a) then endPumpWait a s
    else s.modPump p fun u => { u with waiting := u.waiting.filter (fun w => w ≠ a) ++ [a] }

/-- An arm that leaves the flowing states removes its demand (R61). One that was still waiting is taken out of the waiting
arms without a report (R62), and its own pump wait stands as not ended until its next START (assumption 54). -/
def removeDemand (a : ArmNo) (s : State) : State :=
  match pumpOf s a with
  | none => s
  | some p => s.modPump p fun u => u.released a (stopDelayOf s a)

/-- A waiting arm whose pump has run for its start delay is released (R62). -/
def releaseIfReady (a : ArmNo) (s : State) : State :=
  match pumpOf s a with
  | none => s
  | some p =>
    if a ∈ s.pumps[p].waiting ∧ s.pumps[p].runReached (startDelayOf s a) = true then
      endPumpWait a (s.modPump p fun u => { u with waiting := u.waiting.filter fun w => w ≠ a })
    else s

/-- Every pump forced off, its demand count kept (R64). -/
def forcePumpsOff (s : State) : State := { s with pumps := vmap Pump.stopped s.pumps }

/-- Forcing off ends: a pump with demand enters RUNNING from 0, and its waiting arms wait afresh (R64). -/
def pumpsReturn (s : State) : State :=
  let s := { s with pumps := vmap (fun (u : Pump) =>
    if u.demand = 0 then u else { u with state := .running, run := some 0 }) s.pumps }
  s.each allArms fun s a => releaseIfReady a s

/-- The SHUTDOWN relay after a change of mode (R140, R142, R143, R158). -/
def relayAfter (mode : Mode) (relay : Bool) : Bool :=
  match mode with
  | .run => true
  | .tripping => relay
  | _ => false

/-- The rack mode changes, and every block that reads it sees the change at once (R41, R64, R158). -/
def setMode (m : Mode) (s : State) : State :=
  let before := pumpsForced s
  let s := { s with mode := m, relay := relayAfter m s.relay
                    trip := { s.trip with stageTwo := s.trip.stageTwo && m = .tripping
                                          delay := if m = .tripping then s.trip.delay else none } }
  let s := if pumpsForced s then forcePumpsOff s else if before then pumpsReturn s else s
  s.each allArms fun s a => refreshCommand a s

end Sys2Proof.Machine
end

