-- ==== Sys2Proof/Machine/Arms.lean ====
section
/-! DEFINITION. The arm controller: assignment, start, compare points, closing, halting, holding, completion
(R10, R34, R42 to R57, R59), and the interval report. -/

namespace Sys2Proof.Machine

/-- The arm's state changes: its command follows, and the bay is told (R20, R41). -/
def enterState (a : ArmNo) (st : ArmState) (s : State) : State :=
  (refreshCommand a (s.modArm a fun x => { x with state := st })).push (.armChanged a)

/-! ### Assignment and start -/

/-- The compartment on an arm with its compare points (R42). -/
def onArmOf (c : ArmCfg) (closeAhead : Nat) (b : BayNo) (r : CompRec) : OnArm :=
  let p : Int := r.preset * Config.microPerDeci
  { bay := b, comp := r.no, product := r.product, basis := r.basis, preset := r.preset
    startPoint := c.startVolume * Config.microPerDeci
    tripDownPoint := p - c.tripDownVolume * Config.microPerDeci
    closePoint := p - closeAhead * Config.microPerDeci }

/-- An IDLE arm takes a compartment and enters ARMED; the engine starts its metering and the lines are formed
(R34, R42, R66). -/
def assign (a : ArmNo) (b : BayNo) (r : CompRec) (s : State) : State :=
  let oc := onArmOf (s.armCfg a) s.arms[a].closeAhead b r
  let lines := formLines s.cfg.products[r.product] r.preset
  let s := s.modComp b r.no fun x =>
    { x with state := .onArm, arm := some a, overrun := false, valveNotConfirmed := false
             acc := Accumulators.fresh s.meters[a].totaliser, lines := lines }
  let s := s.modMeter a fun m => { m with rG := 0, rS := 0 }
  enterState a .armed (s.modArm a fun x => { x with comp := some oc })

/-- The start-of-flow request (R10). -/
def PulseInput.startOfFlow (p : PulseInput) (dual : Bool) : PulseInput :=
  if dual then { p with score := 0, cleanPairs := 0, locked := false } else { p with score := 0, locked := true }

/-- The arm takes START or RESUME and enters LOW_START (R43), then the stop effects are delivered again (R113). -/
def enterLowStart (a : ArmNo) (s : State) : State :=
  let s := s.modPulse a fun p => p.startOfFlow (s.armCfg a).dual
  let s := s.modMeter a fun m => { m with leak := 0 }
  let s := stopNoFlow a (s.modArm a fun x => { x with waiting := true, lastStop := .none })
  let s := enterState a .lowStart s
  (addDemand a s).push (.redeliver a)

/-! ### Closing and halting -/

/-- The closing limit timer started, 3 × valve travel + 2.0 s (R47, R52). -/
def startClosingLimit (a : ArmNo) (s : State) : State :=
  s.modArm a fun x =>
    { x with closingLimit := some (Timer.start (3 * (s.armCfg a).valveTravel * ticksPerTenth + Config.quietTicks)) }

/-- Entry into CLOSING from a flowing state (R47); the settled condition is tested on entry (R48). -/
def enterClosing (a : ArmNo) (s : State) : State :=
  let s := enterState a .closing (removeDemand a s)
  (stopNoFlow a (startClosingLimit a s)).push (.testArm a)

/-- Entry into HALTING from a flowing state, with the stop cause recorded (R51, R52, R77). -/
def enterHalting (a : ArmNo) (cause : StopCause) (s : State) : State :=
  let s := enterState a .halting (removeDemand a (s.modArm a fun x => { x with lastStop := cause }))
  (withdrawShots a (stopNoFlow a (startClosingLimit a s))).push (.testArm a)

/-- A stop request (R51): only a flowing arm is changed. -/
def stopArm (a : ArmNo) (cause : StopCause) (s : State) : State :=
  if s.arms[a].state.flowing then enterHalting a cause s else s

/-- A halting arm enters HELD (R50, R52). -/
def enterHeld (a : ArmNo) (s : State) : State :=
  enterState a .held (s.modArm a fun x => { x with closingLimit := none })

/-- The valve-not-confirmed mark set on the compartment (R50). -/
def markNotConfirmed (a : ArmNo) (s : State) : State :=
  s.modArmComp a fun r => { r with valveNotConfirmed := true }

/-! ### Completion -/

/-- The overrun check: above P plus the overrun limit, with the mark clear (R57). -/
def overrunNow (c : ArmCfg) (preset : Nat) (basis : Basis) (r : CompRec) : Bool :=
  !r.overrun && preset * Config.microPerDeci + c.overrunLimit * Config.microPerDeci < basisVolume basis r.acc

/-- The close-ahead learned from a delivery (R56). -/
def learn (closeAhead maximum delivered preset : Nat) : Nat :=
  let v : Int := (closeAhead : Int) + ((delivered : Int) - preset).tdiv 4
  if v < 0 then 0 else if (maximum : Int) < v then maximum else v.toNat

/-- Completion of the compartment on an arm (R35, R55 to R57, R79): the result, the overrun check, the learning, the
schedules, the handover to the bay and the entry into IDLE. -/
def completeArm (a : ArmNo) (reason : EndReason) (s : State) : State :=
  match s.arms[a].comp, s.armComp a with
  | some oc, some r =>
    let c := s.armCfg a
    let overran := overrunNow c oc.preset oc.basis r
    let result := compResult r.acc s.meters[a].totaliser (tempValue s a) (r.overrun || overran) r.valveNotConfirmed
    let teaches := reason = .preset ∧ r.valveNotConfirmed = false
    let s := s.modArmComp a fun r =>
      { (r.modLines AdditiveLine.close) with
          overrun := r.overrun || overran, result := some result, endReason := some reason, state := .complete }
    let s := s.modArm a fun x =>
      { x with comp := none, outstanding := 0, closingLimit := none
               closeAhead := if teaches then learn x.closeAhead c.closeAheadMax (result.deliveredOn oc.basis) oc.preset
                 else x.closeAhead }
    let s := refreshCommand a (s.modArm a fun x => { x with state := .idle })
    s.pushFirst ((if overran then [.event (.overrun a)] else []) ++ [.completed oc.bay oc.comp, .armChanged a])
  | _, _ => s

/-- The arm tests whether its valve has settled and whether a closing arm may complete (R48 to R50, R52). -/
def testArm (a : ArmNo) (s : State) : State :=
  let x := s.arms[a]
  match x.state with
  | .closing =>
    if (valveSettled s a || hasRunOut x.closingLimit) ∧ x.outstanding = 0 then completeArm a .preset s else s
  | .halting => if valveSettled s a then enterHeld a s else s
  | _ => s

/-- The closing limit timer runs out (R50). -/
def closingLimitAt (a : ArmNo) (s : State) : State :=
  let x := s.arms[a]
  if isRunning x.closingLimit then
    let s := s.modArm a fun x => { x with closingLimit := x.closingLimit.map Timer.atLimit }
    match x.state with
    | .closing => testArm a (markNotConfirmed a s)
    | .halting => enterHeld a (markNotConfirmed a s)
    | _ => s
  else s

/-- The request to force completion in the second stage of a trip (R50). -/
def forceArm (a : ArmNo) (s : State) : State :=
  match s.arms[a].state with
  | .closing => completeArm a .preset (markNotConfirmed a s)
  | .halting => completeArm a .stopped (markNotConfirmed a s)
  | _ => s

/-- FINISH, or the finish request of an ending session (R53). -/
def finishArm (a : ArmNo) (s : State) : State :=
  match s.arms[a].state with
  | .held => completeArm a .stopped s
  | _ => s

/-- The compartment record of a released compartment (R54, R118). -/
def CompRec.released (r : CompRec) : CompRec :=
  { r with state := .notStarted, arm := none, acc := Accumulators.fresh 0, overrun := false
           valveNotConfirmed := false, meterFault := false, warningRaised := false }

/-- The release request (R54): an ARMED arm hands its compartment back, any drip going to the unattended volume. -/
def releaseArm (a : ArmNo) (s : State) : State :=
  match s.arms[a].state, s.armComp a with
  | .armed, some r =>
    let s := s.modMeter a fun m => { m with unattended := addModulo m.unattended r.acc.g }
    let s := s.modArmComp a CompRec.released
    enterState a .idle (s.modArm a fun x => { x with comp := none })
  | _, _ => s

/-! ### The interval report -/

/-- The furthest state a report allows (R45), from the volume on the basis scale and the lock state. -/
def furthestState (x : Arm) (oc : OnArm) (v : Int) (locked : Bool) : ArmState :=
  let passing := x.state ≠ .lowStart ∨ x.waiting = false
  if oc.closePoint ≤ v then .closing
  else if oc.tripDownPoint ≤ v ∧ passing then .lowFinish
  else if oc.startPoint ≤ v ∧ locked = true ∧ v < oc.tripDownPoint ∧ x.state = .lowStart ∧ x.waiting = false then
    .highFlow
  else x.state

/-- The no-flow watch of HIGH_FLOW on a report (R59). -/
def watchFlow (a : ArmNo) (q : Nat) (s : State) : State :=
  if q < (s.armCfg a).minFlow then
    match s.arms[a].noFlowTimer with
    | none => startNoFlow a s
    | some _ => s
  else stopNoFlow a s

/-- The overrun check of a report in CLOSING (R57). -/
def checkOverrun (a : ArmNo) (s : State) : State :=
  match s.arms[a].comp, s.armComp a with
  | some oc, some r =>
    if overrunNow (s.armCfg a) oc.preset oc.basis r then
      (s.modArmComp a fun r => { r with overrun := true }).push (.event (.overrun a))
    else s
  | _, _ => s

/-- A flowing arm takes an interval report: the furthest state it allows is entered, or the no-flow watch runs in
HIGH_FLOW (R45, R46, R59). -/
def flowingReport (a : ArmNo) (q : Nat) (locked : Bool) (s : State) : State :=
  match s.arms[a].comp, s.armComp a with
  | some oc, some r =>
    match furthestState s.arms[a] oc (basisVolume oc.basis r.acc) locked with
    | .closing => enterClosing a s
    | .lowFinish =>
      if s.arms[a].state = .lowFinish then s else stopNoFlow a (enterState a .lowFinish s)
    | .highFlow =>
      if s.arms[a].state = .highFlow then watchFlow a q s else stopNoFlow a (enterState a .highFlow s)
    | _ => s
  | _, _ => s

/-- The interval report at the arm controller (R31, R45, R57, R59). The report on which an arm enters CLOSING is judged
in the state before it, and is no report in CLOSING for the overrun check (assumption 53). -/
def armReport (a : ArmNo) (q : Nat) (locked : Bool) (s : State) : State :=
  match s.arms[a].state with
  | .lowStart => flowingReport a q locked s
  | .highFlow => flowingReport a q locked s
  | .lowFinish => flowingReport a q locked s
  | .closing => checkOverrun a s
  | _ => s

end Sys2Proof.Machine
end

