-- ==== Sys2Proof/Machine/Notes.lean ====
section
/-! DEFINITION. The note store and the building of a note (R83, R146 to R156). -/

namespace Sys2Proof.Machine

/-- The free count, 64 − held − reserved (spec/08, The note store). -/
def NoteStore.free (n : NoteStore) : Nat := Config.noteCapacity - n.held.length - n.reserved

/-- The note of a number. -/
def NoteStore.find (n : NoteStore) (k : Nat) : Option Note := n.held.find? fun x => x.number = k

/-- A slot reservation (R147): taken when the free count is above 0. -/
def NoteStore.reserve (n : NoteStore) : Option NoteStore :=
  if 0 < n.free then some { n with reserved := n.reserved + 1 } else none

/-- The number after a note number, from 999,999 to 1 (R148). -/
def nextNumber (k : Nat) : Nat := if k = Config.lastNoteNumber then 1 else k + 1

/-- The search for a number no held note carries, from a candidate (R148); 65 candidates always suffice. -/
def freeNumber (held : List Note) : Nat → Nat → Nat
  | 0, k => k
  | fuel + 1, k => if held.any (fun x => x.number = k) then freeNumber held fuel (nextNumber k) else k

/-- The number the next filed note gets (R148). -/
def NoteStore.numberFor (n : NoteStore) : Nat := freeNumber n.held (n.held.length + 1) n.next

/-- A filing (R149): numbered, put at the end, the reservation used up. -/
def NoteStore.file (n : NoteStore) (x : Note) : NoteStore :=
  { held := n.held ++ [{ x with number := n.numberFor }], reserved := n.reserved - 1
    next := nextNumber n.numberFor }

/-- A release (R155). -/
def NoteStore.release (n : NoteStore) (k : Nat) : NoteStore :=
  { n with held := n.held.filter fun x => x.number ≠ k }

/-- An additive line result (R83), from the compartment's final gross µL. -/
def noteAdditive (g : Nat) (l : AdditiveLine) : NoteAdditive :=
  { inj := l.inj, r := l.r, d := l.d, due := l.due, delivered := l.delivered, missed := l.missed
    measured := (l.measured + 50) / 100, target := (g * l.r + 50000000) / 100000000, fault := l.fault }

/-- A compartment line (R151, R152). -/
def noteLine (r : CompRec) : NoteLine :=
  match r.result with
  | some x =>
    { comp := r.no, code := r.code, arm := r.arm, basis := r.basis, preset := r.preset, grossDl := x.grossDl
      standardDl := x.standardDl, avgTemp := x.avgTemp, meanVcf := x.meanVcf
      totStartDl := x.totStart / Config.microPerDeci, totEndDl := x.totEnd / Config.microPerDeci
      endReason := r.endReason, tempHeld := x.tempHeld, vcfLimited := x.vcfLimited, overrun := x.overrun
      additiveFault := r.lines.any AdditiveLine.fault, meterFault := r.meterFault
      valveNotConfirmed := x.valveNotConfirmed, warningRaised := r.warningRaised
      additives := r.lines.map (noteAdditive r.acc.g) }
  | none =>
    { comp := r.no, code := r.code, arm := none, basis := r.basis, preset := r.preset, grossDl := 0
      standardDl := 0, avgTemp := 0, meanVcf := 100000, totStartDl := 0, totEndDl := 0, endReason := none
      tempHeld := false, vcfLimited := false, overrun := false, additiveFault := false, meterFault := false
      valveNotConfirmed := false, warningRaised := false, additives := [] }

/-- The stamp a clock gives, day 0 and second 0 for an unset one (R150). -/
def stampOf (clock : Option Stamp) : Stamp :=
  match clock with
  | some t => t
  | none => ⟨0, 0⟩

/-- The note of a session, still without its number (R150, R156). -/
def buildNote (b : BayNo) (x : Session) (rackId : Nat) (clock : Option Stamp) (cause : EndCause)
    (endUnknown : Bool) : Note :=
  { number := 0, rackId := rackId, bay := b, order := x.order, permit := x.permit, carrier := x.carrier
    vehicle := x.vehicle, start := stampOf x.start, finish := stampOf clock, unsetAtStart := x.start.isNone
    unsetAtEnd := clock.isNone, endUnknown := endUnknown, cause := cause, digest := x.digest
    lines := x.comps.map noteLine }

end Sys2Proof.Machine
end

