-- ==== Sys2Proof/Machine/Permits.lean ====
section
/-! DEFINITION. The permit table, the order book and the quota operations the bays ask of them (R86 to R104). -/

namespace Sys2Proof.Machine

/-! ### The permit table -/

/-- The entry of a permit number. -/
def findPermit (ps : List Permit) (n : Nat) : Option Permit := ps.find? fun p => p.number = n

/-- The entry that holds a card token (R92). -/
def findToken (ps : List Permit) (t : BitVec 64) : Option Permit := ps.find? fun p => p.token = t

/-- Change the entry of a permit number. -/
def modPermit (ps : List Permit) (n : Nat) (f : Permit → Permit) : List Permit :=
  ps.map fun p => if p.number = n then f p else p

/-- The entry with the smallest permit number above the one named (R88). -/
def nextPermit (ps : List Permit) (n : Nat) : Option Permit :=
  (ps.filter fun p => n < p.number).foldl (fun best p =>
    match best with
    | some q => if p.number < q.number then some p else best
    | none => some p) none

/-- The orders of a deleted permit are marked orphaned (R90, R95). -/
def orphan (os : List Order) (n : Nat) : List Order :=
  os.map fun o => if o.permit = n then { o with orphaned := true } else o

/-- An entry deleted, the deletion reported to the order book (R90, R95). -/
def deletePermit (n : Nat) (s : State) : State :=
  { s with permits := s.permits.filter (fun p => p.number ≠ n), orders := orphan s.orders n }

/-- The answers of the permit table to a bay (R93, R94, R101, R102). -/
inductive PermitAnswer where
  | ok | cardUnknown | permitSuspended | permitBusy | quota | notFound | notOpen
  deriving DecidableEq, Repr

/-- An open request (R93). -/
def openRequest (n : Nat) (b : BayNo) (s : State) : State × PermitAnswer :=
  match findPermit s.permits n with
  | none => (s, .cardUnknown)
  | some p =>
    if p.state ≠ .active then (s, .permitSuspended)
    else if p.openSession.isSome then (s, .permitBusy)
    else ({ s with permits := modPermit s.permits n fun p => { p with openSession := some b } }, .ok)

/-- A close request: the open session becomes none, and a RETIRING entry is deleted. It is answered NOT_FOUND without an
entry and NOT_OPEN where another bay, or none, has the session, and then changes nothing (R94). -/
def closeRequest (n : Nat) (b : BayNo) (s : State) : State × PermitAnswer :=
  match findPermit s.permits n with
  | none => (s, .notFound)
  | some p =>
    if p.openSession ≠ some b then (s, .notOpen)
    else if p.state = .retiring then (deletePermit n s, .ok)
    else ({ s with permits := modPermit s.permits n fun p => { p with openSession := none } }, .ok)

/-- A reservation for a START (R101). -/
def reserve (n preset : Nat) (s : State) : State × PermitAnswer :=
  match findPermit s.permits n with
  | none => (s, .permitSuspended)
  | some p =>
    if p.state ≠ .active then (s, .permitSuspended)
    else if p.quota ≠ 0 ∧ p.quota < p.used + p.reserved + preset then (s, .quota)
    else ({ s with permits := modPermit s.permits n fun p => { p with reserved := p.reserved + preset } }, .ok)

/-- A state check for a RESUME (R102). -/
def stateCheck (n : Nat) (s : State) : PermitAnswer :=
  match findPermit s.permits n with
  | none => .permitSuspended
  | some p => if p.state = .active then .ok else .permitSuspended

/-- A settlement: reserved falls by the preset, used rises by the delivered standard dL and saturates (R103). -/
def Permit.settled (p : Permit) (preset delivered : Nat) : Permit :=
  { p with reserved := p.reserved - preset, used := min Config.usedLimit (p.used + delivered) }

/-- A settlement on the entry of a number; without an entry nothing changes (R103, R168). -/
def settle (n preset delivered : Nat) (s : State) : State :=
  { s with permits := modPermit s.permits n fun p => p.settled preset delivered }

/-- A change of the rack clock's day sets used to 0 in every entry (R104). Before the start-up operation has read
retained memory, the entries are there (assumption 26). -/
def dayRollover (s : State) : State :=
  match s.phase with
  | .starting _ =>
    { s with nv := { s.nv with permits := s.nv.permits.map (List.map fun p => { p with used := 0 }) }
             undo := s.nv :: s.undo }
  | _ => { s with permits := s.permits.map fun p => { p with used := 0 } }

/-! ### The order book -/

/-- An arm of the bay carries the product (R99). -/
def bayCarries (s : State) (b : BayNo) (p : ProductNo) : Bool :=
  allArms.any fun a => (s.armCfg a).bay = some b && maskHas (s.armCfg a).productMask p

/-- The order is usable at the bay under a permit's product mask (R99). -/
def usable (s : State) (b : BayNo) (mask : BitVec 12) (o : Order) : Bool :=
  !o.active && !o.orphaned && o.entries.all fun e => maskHas mask e.product && bayCarries s b e.product

/-- The oldest usable order of a permit at a bay (R99). -/
def oldestUsable (s : State) (n : Nat) (b : BayNo) (mask : BitVec 12) : Option Order :=
  s.orders.find? fun o => o.permit = n && usable s b mask o

/-- A take request makes the oldest usable order ACTIVE (R99). -/
def takeOrder (n : Nat) (b : BayNo) (mask : BitVec 12) (s : State) : State × Option Order :=
  match oldestUsable s n b mask with
  | none => (s, none)
  | some o =>
    ({ s with orders := s.orders.map fun x =>
        if x.number = o.number then { x with active := true, sessionBay := some b } else x }, some o)

/-- The return of a taken order: PENDING again, in its place (R109). -/
def returnOrder (number : Nat) (s : State) : State :=
  { s with orders := s.orders.map fun x =>
      if x.number = number then { x with active := false, sessionBay := none } else x }

/-- The removal of an order; an order that is not in the book changes nothing (R100). -/
def removeOrder (number : Nat) (s : State) : State :=
  { s with orders := s.orders.filter fun x => x.number ≠ number }

end Sys2Proof.Machine
end

