-- ==== Sys2Proof/Machine/Supervision.lean ====
section
/-! DEFINITION. The supervision unit: level and event instances (R129 to R133), stop effects and note marks
(R134 to R136), clears (R137, R138), and the trip's start, second stage and clear (R139 to R143). -/

namespace Sys2Proof.Machine

/-- The instance's class (R128). -/
def State.cls (s : State) (i : InstId) : SupClass := (s.supCfg i).cls

/-- The class an instance acts by on an event: its kind's, or, while it is effective, the class it was last moved
under (R144; assumption 46). -/
def actingClass (s : State) (i : InstId) : SupClass :=
  if (s.inst i).state.effective then (s.inst i).cls else s.cls i

/-- The instance's filter time in ticks (R128). -/
def State.filterTicks (s : State) (i : InstId) : Nat := (s.supCfg i).filter * ticksPerTenth

/-- The instance is of class AUTO or LATCHED in an effective state: a stop effect (R134). The class is the one of its
last transition (R144). -/
def isStopEffect (s : State) (i : InstId) : Bool :=
  (s.inst i).cls ≠ .warning && (s.inst i).state.effective

/-- The compartment on the arm has an additive line naming the injector (R134). -/
def armNames (s : State) (a : ArmNo) (i : InjNo) : Bool :=
  match s.armComp a with
  | some r => r.names i
  | none => false

/-- The arms in an instance's scope (R134). -/
def scopeArms (s : State) (i : InstId) : List ArmNo :=
  match i.scope with
  | .rack => allArms
  | .bay b => s.armsOf b
  | .arm a => [a]
  | .inj j => allArms.filter fun a => maskHas s.cfg.injectors[j].armMask a && armNames s a j

/-- Every active line the instance's scope covers gets WARNING_RAISED (R136). -/
def markWarning (i : InstId) (s : State) : State :=
  let covers (b : BayNo) (r : CompRec) : Bool :=
    r.active && match i.scope with
      | .rack => true
      | .bay b' => b = b'
      | .arm a => r.arm = some a
      | .inj j => r.names j
  s.each allBays fun s b => s.modSession b fun x =>
    { x with comps := x.comps.map fun r => if covers b r then { r with warningRaised := true } else r }

/-- The first stage of the trip, one operation of the unit (R140): cause and mode recorded, the notices and requests
sent, the trip delay started; with a delay of 0.0 s the second stage follows at once (R142). -/
def startTrip (cause : TripCause) (s : State) : State :=
  let delay := s.cfg.rack.tripDelay * ticksPerTenth
  let s := setMode .tripping
    { s with trip := { s.trip with cause := cause, delay := some (Timer.start delay), stageTwo := false } }
  let s := s.pushAll (allBays.map .tripNotice ++ allArms.map (fun a => .stopArm a .trip)
    ++ allInjs.map .tripInjector)
  if delay = 0 then s.push .secondStage else s

/-- A trip starts on an instance of a trip-flagged kind when the rack mode is RUN (R139, R141). -/
def tripOn (i : InstId) (s : State) : State :=
  if s.mode = .run ∧ (s.supCfg i).trip = true then startTrip (.fault i) s else s

/-- The occurrence count rises by 1 and saturates at 255 (R133). -/
def countUp (i : InstId) (s : State) : State := s.modInst i fun x => { x with count := satSucc 255 x.count }

/-- The stop requests of a stop effect that begins (R134). -/
def sendStops (i : InstId) (s : State) : State :=
  if s.cls i = .warning then s
  else s.pushAll ((scopeArms s i).map fun a => .stopArm a .effect)

/-- A level instance enters ACTIVE: counted, marked for class WARNING, its stop effect sent when it comes from
NORMAL or FILTERING, and a trip started for a trip-flagged kind (R130, R133, R134, R136, R139). -/
def enterActive (i : InstId) (fromRecovering : Bool) (s : State) : State :=
  let s := countUp i (s.modInst i fun x => { x with state := .active, timer := none, cls := s.cls i })
  let s := if s.cls i = .warning then markWarning i s else s
  let s := if fromRecovering then s else sendStops i s
  tripOn i s

/-- A level condition appears or vanishes at its instance (R130). -/
def condition (i : InstId) (present : Bool) (s : State) : State :=
  let x := s.inst i
  if x.cond = present then s
  else
    let s := s.modInst i fun x => { x with cond := present }
    let filter := s.filterTicks i
    if present then
      match x.state with
      | .normal =>
        if filter = 0 then enterActive i false s
        else s.modInst i fun x => { x with state := .filtering, timer := some (Timer.start filter) }
      | .recovering => enterActive i true s
      | _ => s
    else
      match x.state with
      | .filtering => s.modInst i fun x => { x with state := .normal, timer := none }
      | .active =>
        if s.cls i = .latched then s.modInst i fun x => { x with state := .latched, cls := .latched }
        else if filter = 0 then s.modInst i fun x => { x with state := .normal, timer := none }
        else s.modInst i fun x =>
          { x with state := .recovering, timer := some (Timer.start filter), cls := s.cls i }
      | _ => s

/-- The filter timer of a level instance reaches the filter time (R130). -/
def filterExpiry (i : InstId) (s : State) : State :=
  if isRunning (s.inst i).timer then
    match (s.inst i).state with
    | .filtering => enterActive i false s
    | .recovering => s.modInst i fun x => { x with state := .normal, timer := none }
    | _ => s
  else s

/-- METER_FAULT is set on the active line of the compartment on the event's arm (R136). -/
def markMeterFault (i : InstId) (s : State) : State :=
  match i with
  | .meterPulse a => s.modArmComp a fun r => if r.active then { r with meterFault := true } else r
  | _ => s

/-- An event reaches an event instance (R132, R133, R136, R139). One that is LATCHED stays so, whatever its new class
(R144). -/
def eventAt (i : InstId) (s : State) : State :=
  let s := markMeterFault i (countUp i s)
  if actingClass s i = .warning then tripOn i (markWarning i s)
  else if (s.inst i).state = .normal then
    tripOn i (sendStops i (s.modInst i fun x => { x with state := .latched, cls := s.cls i }))
  else s

/-- What the unit tells the owner of a cleared instance's figures (R138). -/
def clearNotice (i : InstId) (s : State) : State :=
  match i with
  | .leak a => s.modMeter a fun x => { x with leak := 0 }
  | .injLeak j => s.modInj j fun x => { x with leakPulses := 0 }
  | .deadman b => s.modBay b fun x => { x with violations := 0 }
  | _ => s

/-- A clear reaches an instance: LATCHED with its condition absent (R130, R137). -/
def clearable (x : Instance) : Bool := x.state = .latched && !x.cond

/-- One instance cleared, if a clear reaches it (R137, R138). -/
def clearOne (s : State) (i : InstId) : State :=
  if clearable (s.inst i) then clearNotice i (s.modInst i fun x => { x with state := .normal, timer := none })
  else s

/-- The instances of a list cleared, with the number cleared and the number still effective (R121, R137). -/
def clearAll (l : List InstId) (s : State) : State × Nat × Nat :=
  let cleared := l.countP fun i => clearable (s.inst i)
  let s := s.each l clearOne
  (s, cleared, l.countP fun i => (s.inst i).state.effective)

/-- The instances a bay's RESET key clears: the bay's own and its arms', without injectors and ESTOP (R121). -/
def resetScope (s : State) (b : BayNo) : List InstId :=
  allInsts.filter fun i => match i.scope with
    | .bay b' => b = b'
    | .arm a => s.armOfBay a b
    | _ => false

/-- An instance is in the scopes of an arm, its bay and the given injectors, or of the rack (R135). -/
def inScopes (a : ArmNo) (b : BayNo) (injs : List InjNo) (i : InstId) : Bool :=
  match i.scope with
  | .rack => true
  | .bay b' => b = b'
  | .arm a' => a = a'
  | .inj j => injs.contains j

/-- The supervision check of START and RESUME: the first stop effect in the scopes, in ascending kind code and unit
number (R135). -/
def supervisionCheck (s : State) (a : ArmNo) (b : BayNo) (injs : List InjNo) : Option InstId :=
  allInsts.find? fun i => inScopes a b injs i && isStopEffect s i

/-- The re-delivery of stop effects at an arm's entry into LOW_START: one stop request, if any instance qualifies
(R113, R135). -/
def redeliver (a : ArmNo) (s : State) : State :=
  match s.arms[a].comp, s.armProduct a with
  | some oc, some p =>
    match supervisionCheck s a oc.bay p.injs with
    | some _ => s.push (.stopArm a .effect)
    | none => s
  | _, _ => s

/-- The beginning of the second stage (R142): relay and pumps off, arms forced, injectors and bays told. -/
def secondStage (s : State) : State :=
  if s.mode = .tripping ∧ s.trip.stageTwo = false then
    let s := { s with relay := false
                      trip := { s.trip with delay := s.trip.delay.map Timer.atLimit, stageTwo := true
                                            awaiting := allBays } }
    (forcePumpsOff s).pushAll (allArms.map .forceArm ++ allInjs.map .stageTwoInjector
      ++ allBays.map .stageTwoNotice)
  else s

/-- A bay reports that it has no open session; the last of the four makes the mode TRIPPED (R142). -/
def bayReport (b : BayNo) (s : State) : State :=
  if s.mode = .tripping ∧ s.trip.stageTwo = true ∧ b ∈ s.trip.awaiting then
    let left := s.trip.awaiting.filter fun x => x ≠ b
    let s := { s with trip := { s.trip with awaiting := left } }
    if left = [] then setMode .tripped s else s
  else s

/-- A trip clear is refused while ESTOP is not NORMAL or a trip-flagged instance is ACTIVE or LATCHED (R143). -/
def tripBlocked (s : State) : Bool :=
  (s.inst .estop).state ≠ .normal
    || allInsts.any fun i => (s.supCfg i).trip
        && ((s.inst i).state = .active || (s.inst i).state = .latched)

/-- The examination at a change from SETUP to RUN: a trip starts on the first trip-flagged instance that is ACTIVE or
LATCHED (R139, R158). -/
def examineTrips (s : State) : State :=
  match allInsts.find? (fun i => (s.supCfg i).trip
      && ((s.inst i).state = .active || (s.inst i).state = .latched)) with
  | some i => if s.mode = .run then startTrip (.fault i) s else s
  | none => s

end Sys2Proof.Machine
end

