-- ==== Sys2Proof/Machine/Bays.lean ====
section
/-! DEFINITION. The bay controllers: activity, the permissive conditions, the deadman window, the session's ending
and filing, and the checks of CARD, START and RESUME (R108 to R124, R129). -/

namespace Sys2Proof.Machine

/-- The BAY record. -/
def State.bayCfg (s : State) (b : BayNo) : BayCfg := s.cfg.bays[b]

/-! ### Activity (R122) -/

/-- The activities, by their bit in the activity mask (R182). -/
inductive Activity where
  | card | key | deadman | flow | permissive
  deriving DecidableEq, Repr

/-- The bit of an activity. -/
def Activity.bit : Activity → Fin 5
  | .card => 0
  | .key => 1
  | .deadman => 2
  | .flow => 3
  | .permissive => 4

/-- The ATTENTION and ABANDON timers started from 0 and the attention flag cleared (R110, R122). -/
def startIdleTimers (b : BayNo) (s : State) : State :=
  let c := s.bayCfg b
  s.modBay b fun x =>
    { x with attentionFlag := false, attention := some (Timer.start (c.attention * ticksPerSecond))
             abandon := some (Timer.start (c.abandon * ticksPerSecond)) }

/-- The session is in CONNECTING or LOADING. -/
def sessionRuns (s : State) (b : BayNo) : Bool :=
  match s.session b with
  | some x => x.state ≠ .ending
  | none => false

/-- An activity event: when selected, both idle timers restart and the attention flag clears (R122). -/
def activity (b : BayNo) (k : Activity) (s : State) : State :=
  if sessionRuns s b && maskHas (s.bayCfg b).activity k.bit then startIdleTimers b s else s

/-! ### Permits and the deadman window -/

/-- The level of a permit input. -/
def permitLevel (s : State) (b : BayNo) (k : PermitInput) : Bool :=
  match k with
  | .ground => s.pins.ground[b]
  | .overfill => s.pins.overfill[b]
  | .vapour => s.pins.vapour[b]

/-- The polarity bit of a permit input (R182). -/
def permitBit : PermitInput → Fin 3
  | .ground => 0
  | .overfill => 1
  | .vapour => 2

/-- A bay permit is present while its input is at the active level (spec/00, naming; R112). -/
def permitPresent (s : State) (b : BayNo) (k : PermitInput) : Bool :=
  permitLevel s b k != maskHas (s.bayCfg b).polarity (permitBit k)

/-- The first permit START finds absent, in the order GROUND, OVERFILL, VAPOUR (R112). -/
def absentPermit (s : State) (b : BayNo) : Option Nat :=
  if !permitPresent s b .ground then some 1
  else if !permitPresent s b .overfill then some 2
  else if (s.bayCfg b).vapourUsed && !permitPresent s b .vapour then some 3
  else none

/-- An arm of the bay is in LOW_START, HIGH_FLOW, LOW_FINISH or CLOSING (R129). -/
def bayDelivering (s : State) (b : BayNo) : Bool :=
  (s.armsOf b).any fun a => s.arms[a].state.flowingOrClosing

/-- An arm of the bay is in a flowing state (R123). -/
def bayFlowing (s : State) (b : BayNo) : Bool := (s.armsOf b).any fun a => s.arms[a].state.flowing

/-- Every arm of the bay is IDLE (R119). -/
def bayIdle (s : State) (b : BayNo) : Bool := (s.armsOf b).all fun a => s.arms[a].state = .idle

/-- The bay's three permissive conditions as they now stand, reported to its instances (R129); the unit acts on
those that have changed. -/
def reportPermissives (b : BayNo) (s : State) : State :=
  let out := bayDelivering s b
  s.pushAll [.condition (.ground b) (out && !permitPresent s b .ground),
    .condition (.overfill b) (out && !permitPresent s b .overfill),
    .condition (.vapour b) (out && (s.bayCfg b).vapourUsed && !permitPresent s b .vapour)]

/-- The deadman period in ticks, 0 for no window (R123). -/
def deadmanTicks (c : BayCfg) : Nat := c.deadmanPeriod * ticksPerTenth

/-- The time at which the window opens, W × k / 8 (R123). -/
def windowTicks (c : BayCfg) : Nat := deadmanTicks c * c.deadmanK / 8

/-- The deadman timer follows the bay's flowing arms (R123). -/
def followDeadman (b : BayNo) (s : State) : State :=
  let c := s.bayCfg b
  if bayFlowing s b then
    match s.bays[b].deadman with
    | none =>
      if c.deadmanPeriod = 0 then s
      else s.modBay b fun x => { x with deadman := some (Timer.start (deadmanTicks c)) }
    | some _ => s
  else s.modBay b fun x =>
    { x with deadman := none, violations := if x.deadman.isSome then 0 else x.violations }

/-- A deadman violation (R124): counted, shown, and an event at the limit. -/
def deadmanViolation (b : BayNo) (p : Prompt) (s : State) : State :=
  let c := s.bayCfg b
  let count := s.bays[b].violations + 1
  let s := s.sendShow b p [count, c.deadmanLimit]
  if c.deadmanLimit ≤ count then (s.modBay b fun x => { x with violations := 0 }).push (.event (.deadman b))
  else s.modBay b fun x => { x with violations := count }

/-- The deadman timer restarted from 0. -/
def restartDeadman (b : BayNo) (s : State) : State :=
  s.modBay b fun x => { x with deadman := x.deadman.map fun t => { t with elapsed := 0 } }

/-! ### Ending and filing (R118, R119) -/

/-- What the ending of a session asks of an arm, by its state (R118). -/
def endingAction (a : ArmNo) (st : ArmState) : List Notice :=
  match st with
  | .lowStart => [.stopArm a .ending]
  | .highFlow => [.stopArm a .ending]
  | .lowFinish => [.stopArm a .ending]
  | .held => [.finishArm a]
  | .armed => [.releaseArm a]
  | _ => []

/-- The session enters ENDING with a cause (R118). -/
def enterEnding (b : BayNo) (cause : EndCause) (s : State) : State :=
  let s := s.modSession b fun x => { x with state := .ending, endCause := some cause }
  let s := s.modBay b fun x => { x with attention := none, abandon := none, attentionFlag := false }
  let s := s.sendShow b .ending [cause.code]
  (s.pushAll ((s.armsOf b).flatMap fun a => endingAction a s.arms[a].state)).push (.filingTest b)

/-- A cause to end the session reaches the bay: the first one taken in CONNECTING or LOADING is the end cause
(R117). -/
def endSession (b : BayNo) (cause : EndCause) (s : State) : State :=
  if sessionRuns s b then enterEnding b cause s else s

/-- The injectors named by an additive line of the session (R119). -/
def Session.injs (x : Session) : List InjNo := allInjs.filter fun i => x.comps.any fun r => r.names i

/-- An injector's current shot belongs to the bay's session (R119). -/
def holdsShotOf (s : State) (b : BayNo) (i : InjNo) : Bool :=
  match s.injectors[i].current with
  | some shot => shot.req.bay = b
  | none => false

/-- Filing (R119): stamp, note, number, order removal, close request, VACANT, NOTE. The answer to the close request has no
part in it (R94). -/
def fileSession (b : BayNo) (x : Session) (s : State) : State :=
  let s := s.write
  let cause := match x.endCause with
    | some c => c
    | none => .complete
  let note := buildNote b x s.cfg.rack.rackId s.line.clock cause false
  let number := s.notes.numberFor
  let s := { s with notes := s.notes.file note }
  let s := (closeRequest x.permit b (removeOrder x.order s)).1
  let s := s.modBay b fun y => { y with session := none, awaited := [] }
  let s := s.sendShow b .note [number]
  if s.mode = .tripping ∧ s.trip.stageTwo = true then s.push (.bayReport b) else s

/-- An ending bay tests whether it can file: every arm IDLE, then the filing query to the injectors (R119). -/
def filingTest (b : BayNo) (s : State) : State :=
  match s.session b with
  | some x =>
    if x.state = .ending ∧ bayIdle s b = true then
      let awaited := x.injs.filter fun i => holdsShotOf s b i
      if awaited = [] then fileSession b x s
      else s.modBay b fun y => { y with awaited := awaited }
    else s
  | none => s

/-- An injector notifies the bay that it has written the awaited result (R119). -/
def shotWritten (b : BayNo) (i : InjNo) (s : State) : State :=
  if i ∈ s.bays[b].awaited then
    (s.modBay b fun y => { y with awaited := y.awaited.filter fun j => j ≠ i }).push (.filingTest b)
  else s

/-- A completion at its bay (R116): the line inactive, the settlement, COMPLETED shown, and ENDING when every
compartment of a LOADING session is COMPLETE. -/
def completed (b : BayNo) (c : CompNo) (s : State) : State :=
  match s.session b, s.compRec b c with
  | some x, some r =>
    match r.result with
    | some result =>
      let s := s.modComp b c fun r => { (r.modLines fun l => { l with active := false }) with active := false }
      let s := settle x.permit r.preset result.standardDl s
      let s := s.sendShow b .completed [unitNo c, result.deliveredOn r.basis, endReasonCode r.endReason]
      if x.state = .loading ∧ x.comps.all (fun r => r.state = .complete) = true then enterEnding b .complete s
      else if x.state = .ending then s.push (.filingTest b)
      else s
    | none => s
  | _, _ => s

/-- An arm has told its bay of a change of state: the deadman timer and the permissive conditions follow, an ending
bay finishes a HELD arm and tests whether it can file (R118, R119, R123, R129). -/
def armChanged (a : ArmNo) (s : State) : State :=
  match (s.armCfg a).bay with
  | none => s
  | some b =>
    let s := reportPermissives b (followDeadman b s)
    match s.session b with
    | some x =>
      if x.state = .ending then
        if s.arms[a].state = .held then s.push (.finishArm a)
        else if s.arms[a].state = .idle then s.push (.filingTest b)
        else s
      else s
    | none => s

/-- The stage-two notice (R120). -/
def stageTwoNotice (b : BayNo) (s : State) : State :=
  match s.session b with
  | none => s.push (.bayReport b)
  | some x => if x.state = .ending then s.push (.filingTest b) else enterEnding b .trip s

/-! ### The card (R108 to R110) -/

/-- The bay holds cards for an undecided SETUP OPEN (R160). -/
def holdsCards (s : State) (b : BayNo) : Bool :=
  match s.setup.query with
  | some answers => !answers[b]
  | none => false

/-- Checks 1 to 3 of the card (R108). -/
def cardBayCheck (s : State) (b : BayNo) : Option Prompt :=
  if (s.session b).isSome then some .bayBusy
  else if s.mode ≠ .run ∨ holdsCards s b = true then some .rackNotReady
  else if (s.bayCfg b).enabled = false then some .rackNotReady
  else none

/-- Checks 5 to 10 of the card, on the copy of the entry (R108). -/
def cardPermitCheck (s : State) (b : BayNo) (p : Permit) : Option Prompt :=
  if p.state ≠ .active then some .permitSuspended
  else if p.expiry ≠ 0 ∧ s.line.clock = none then some .expiryUnknown
  else if p.expiry ≠ 0 ∧ p.expiry < (stampOf s.line.clock).day then some .permitExpired
  else if maskHas p.bayMask b = false then some .bayNotAllowed
  else if p.openSession.isSome then some .permitBusy
  else if s.line.link = .standalone ∧ p.standalone = false then some .standaloneDenied
  else none

/-- The compartment record of an order's entry (R110). -/
def formRecord (s : State) (e : OrderEntry) : CompRec :=
  let p := s.cfg.products[e.product]
  { no := e.comp, product := e.product, preset := e.preset, code := p.code, basis := p.basis, state := .notStarted
    arm := none, started := false, active := false, endReason := none, result := none
    acc := Accumulators.fresh 0, overrun := false, valveNotConfirmed := false, meterFault := false
    warningRaised := false, lines := [] }

/-- The session opens (R110). -/
def openSession (b : BayNo) (p : Permit) (o : Order) (s : State) : State :=
  let x : Session :=
    { state := .connecting, permit := p.number, carrier := p.carrier, order := o.number, vehicle := o.vehicle
      comps := o.entries.map (formRecord s), slotReserved := true, start := s.line.clock
      digest := s.setup.digest, endCause := none }
  let s := startIdleTimers b (s.modBay b fun y => { y with session := some x })
  s.sendShow b .order [o.number, o.entries.length, o.vehicle]

/-- The prompt of a refused open request (R109). -/
def PermitAnswer.prompt : PermitAnswer → Prompt
  | .cardUnknown => .cardUnknown
  | .permitBusy => .permitBusy
  | .quota => .quota
  | _ => .permitSuspended

/-- The three requests of a card whose checks have passed: open, take, slot (R109). -/
def cardRequests (b : BayNo) (p : Permit) (s : State) : State :=
  match openRequest p.number b s with
  | (s1, .ok) =>
    match takeOrder p.number b p.productMask s1 with
    | (s2, some o) =>
      match s2.notes.reserve with
      | some notes => openSession b p o { s2 with notes := notes }
      | none => (closeRequest p.number b (returnOrder o.number s2)).1.sendShow b .notesFull []
    | (s2, none) => (closeRequest p.number b s2).1.sendShow b .noOrder []
  | (s1, answer) => s1.sendShow b answer.prompt []

/-- A CARD record (R108). -/
def cardAt (b : BayNo) (token : BitVec 64) (s : State) : State :=
  let s := activity b .card s
  match cardBayCheck s b with
  | some p => s.sendShow b p []
  | none =>
    match findToken s.permits token with
    | none => s.sendShow b .cardUnknown []
    | some p =>
      match cardPermitCheck s b p with
      | some prompt => s.sendShow b prompt []
      | none => cardRequests b p s

/-! ### Driver keys (R111 to R115) -/

/-- The session test of a key that is refused NOT_OPEN in VACANT and ALREADY_ENDING in ENDING. -/
def keySession (s : State) (b : BayNo) : Option Prompt :=
  match s.session b with
  | none => some .notOpen
  | some x => if x.state = .ending then some .alreadyEnding else none

/-- The checks of SELECT in their order (R111). -/
def selectRefusal (s : State) (b : BayNo) (c : CompNo) (a : ArmNo) : Option (Prompt × List Nat) :=
  match keySession s b with
  | some p => some (p, [])
  | none =>
    match s.compRec b c with
    | none => some (.compUnknown, [unitNo c])
    | some r =>
      if r.state ≠ .notStarted then some (.compDone, [unitNo c])
      else if s.armOfBay a b = false ∨ s.arms[a].state ≠ .idle then some (.armBusy, [unitNo a])
      else if maskHas (s.armCfg a).productMask r.product = false then some (.productNotOnArm, [unitNo a])
      else none

/-- The checks of START and RESUME up to PROBE, in their order (R112, R114); `need` is ARMED for START and HELD for
RESUME. -/
def flowRefusal (s : State) (b : BayNo) (a : ArmNo) (need : ArmState) : Option (Prompt × List Nat) :=
  match keySession s b with
  | some p => some (p, [])
  | none =>
    if s.armOfBay a b = false then some (.armBusy, [unitNo a])
    else if s.arms[a].state ≠ need then some (.notReady, [unitNo a])
    else if s.mode ≠ .run then some (.rackNotReady, [])
    else match absentPermit s b with
      | some n => some (.permissive, [n])
      | none =>
        let injs := match s.armProduct a with
          | some p => p.injs
          | none => []
        match supervisionCheck s a b injs with
        | some i => some (.supervision, [i.kind.val + 1, i.unit])
        | none => if tempValue s a = none then some (.probe, [unitNo a]) else none

/-- The permit number of a bay's session. -/
def sessionPermit (s : State) (b : BayNo) : Nat :=
  match s.session b with
  | some x => x.permit
  | none => 0

/-- The remaining quota QUOTA shows (R88, R112). -/
def quotaShown (s : State) (b : BayNo) : Nat :=
  match findPermit s.permits (sessionPermit s b) with
  | some p => p.remaining.getD 0
  | none => 0

/-- An accepted START after its reservation: started mark, active lines, LOADING, STARTED, the arm's start
(R112). -/
def acceptStart (b : BayNo) (a : ArmNo) (oc : OnArm) (s : State) : State :=
  let s := s.modComp b oc.comp fun r =>
    { (r.modLines fun l => { l with active := true }) with started := true, active := true }
  let s := s.modSession b fun x => { x with state := .loading }
  enterLowStart a (s.sendShow b .started [unitNo a, unitNo oc.comp, oc.preset])

/-- START (R112). -/
def startKey (b : BayNo) (a : ArmNo) (s : State) : State :=
  match flowRefusal s b a .armed, s.arms[a].comp with
  | some (p, ns), _ => s.sendShow b p ns
  | none, none => s.sendShow b .notReady [unitNo a]
  | none, some oc =>
    match reserve (sessionPermit s b) oc.preset s with
    | (s1, .ok) => acceptStart b a oc s1
    | (s1, .quota) => s1.sendShow b .quota [quotaShown s1 b]
    | (s1, answer) => s1.sendShow b answer.prompt []

/-- RESUME (R114). -/
def resumeKey (b : BayNo) (a : ArmNo) (s : State) : State :=
  match flowRefusal s b a .held, s.arms[a].comp with
  | some (p, ns), _ => s.sendShow b p ns
  | none, none => s.sendShow b .notReady [unitNo a]
  | none, some oc =>
    match stateCheck (sessionPermit s b) s with
    | .ok => enterLowStart a (s.sendShow b .resumed [unitNo a, unitNo oc.comp])
    | answer => s.sendShow b answer.prompt []

/-- SELECT (R111). -/
def selectKey (b : BayNo) (c : CompNo) (a : ArmNo) (s : State) : State :=
  match selectRefusal s b c a, s.compRec b c with
  | some (p, ns), _ => s.sendShow b p ns
  | none, some r => assign a b r (s.sendShow b .selected [unitNo c, unitNo a])
  | none, none => s

/-- The answer of an arm to a STOP key (R51). -/
def stopAnswer (st : ArmState) : Prompt :=
  match st with
  | .lowStart => .halted
  | .highFlow => .halted
  | .lowFinish => .halted
  | .closing => .alreadyClosing
  | _ => .notFlowing

/-- STOP (R115). -/
def stopKey (b : BayNo) (a : ArmNo) (s : State) : State :=
  if (s.session b).isNone then s.sendShow b .notOpen []
  else if s.armOfBay a b = false then s.sendShow b .armBusy [unitNo a]
  else stopArm a .key (s.sendShow b (stopAnswer s.arms[a].state) [unitNo a])

/-- FINISH (R115). -/
def finishKey (b : BayNo) (a : ArmNo) (s : State) : State :=
  if (s.session b).isNone then s.sendShow b .notOpen []
  else if s.armOfBay a b = false then s.sendShow b .armBusy [unitNo a]
  else match s.arms[a].state, s.arms[a].comp with
    | .held, some oc => finishArm a (s.sendShow b .finished [unitNo a, unitNo oc.comp])
    | _, _ => s.sendShow b .notHeld [unitNo a]

/-- END (R117): accepted, its own SHOW is the ENDING of the entry. -/
def endKeyAt (b : BayNo) (s : State) : State :=
  match keySession s b with
  | some p => s.sendShow b p []
  | none => enterEnding b .driverEnd s

/-- RESET (R121). -/
def resetKeyAt (b : BayNo) (s : State) : State :=
  let r := clearAll (resetScope s b) s
  r.1.sendShow b .cleared [r.2.1, r.2.2]

end Sys2Proof.Machine
end

