-- ==== Sys2Proof/Machine/Requests.lean ====
section
/-! DEFINITION. The taking of the notices the blocks send one another, and the frame every command runs in: what
is in flight is drained, and the retained changes are written at the end (assumptions 3, 4, 6). -/

namespace Sys2Proof.Machine

/-- A notice taken by its block. -/
def take (n : Notice) (s : State) : State :=
  match n with
  | .armChanged a => armChanged a s
  | .testArm a => testArm a s
  | .stopArm a cause => stopArm a cause s
  | .forceArm a => forceArm a s
  | .finishArm a => finishArm a s
  | .releaseArm a => releaseArm a s
  | .redeliver a => redeliver a s
  | .completed b c => completed b c s
  | .condition i present => condition i present s
  | .event i => eventAt i s
  | .tripNotice b => endSession b .trip s
  | .stageTwoNotice b => stageTwoNotice b s
  | .tripInjector i => tripInjector i s
  | .stageTwoInjector i => stageTwoInjector i s
  | .bayReport b => bayReport b s
  | .secondStage => secondStage s
  | .filingTest b => filingTest b s
  | .shotWritten b i => shotWritten b i s

/-- The notices in flight taken one after the other, oldest first, until none is left or `fuel` have been taken. -/
def drain : Nat → State → State
  | 0, s => s
  | fuel + 1, s =>
    match s.inbox with
    | [] => s
    | n :: rest => drain fuel (take n { s with inbox := rest })

/-- The end of a command: every notice it caused is taken, then its retained changes are written. -/
def settleCommand (s : State) : State := (drain Config.requestFuel s).write

/-- A command that needs the part in service; before and after service it has no effect. Whatever the phase, what the
command before it sent and wrote is over (`State.fresh`). -/
def inService (f : State → State) (s : State) : Host.Outcome State Fault Refusal :=
  .next (match s.phase with
    | .service => settleCommand (f s.fresh)
    | _ => s.fresh)

/-- A command on an input pin: the pin's level changes in every phase, and the part acts on it in service. -/
def onPin (level : State → State) (f : State → State) (s : State) : Host.Outcome State Fault Refusal :=
  .next (match s.phase with
    | .service => settleCommand (f (level s.fresh))
    | _ => level s.fresh)

end Sys2Proof.Machine
end

