-- ==== Sys2Proof/Machine/Clock.lean ====
section
/-! DEFINITION. One tick of the CLOCK input, 10 µs, which an idle step is (assumption 2): the timers of the part
advance, and the commands that fall due are performed in one fixed order. -/

namespace Sys2Proof.Machine

/-! ### Advancing -/

/-- A running timer advances, short of its limit: the command that falls due there takes it to the limit. -/
def Timer.tick (t : Timer) : Timer := if t.elapsed + 1 < t.limit then { t with elapsed := t.elapsed + 1 } else t

/-- A count toward a limit advances, short of it. -/
def tickTo (limit n : Nat) : Nat := if n + 1 < limit then n + 1 else n

/-- The filters of a pulse input advance. -/
def PulseInput.tick (x : PulseInput) : PulseInput :=
  { x with filterA := x.filterA.map Timer.tick, filterB := x.filterB.map Timer.tick }

/-- The timers of an arm advance. -/
def Arm.tick (x : Arm) : Arm :=
  { x with quiet := tickTo Config.quietTicks x.quiet, closingLimit := x.closingLimit.map Timer.tick
           travel := x.travel.map Timer.tick, noFlowTimer := x.noFlowTimer.map Timer.tick }

/-- The timers of a pump advance; the run timer has no limit. -/
def Pump.tick (u : Pump) : Pump := { u with run := u.run.map (· + 1), stopDelay := u.stopDelay.map Timer.tick }

/-- The timers of an injector advance. -/
def Injector.tick (x : Injector) : Injector :=
  { x with filter := x.filter.map Timer.tick, shotTimer := x.shotTimer.map Timer.tick
           settleTimer := x.settleTimer.map Timer.tick }

/-- The timers of a bay advance. -/
def Bay.tick (x : Bay) : Bay :=
  { x with attention := x.attention.map Timer.tick, abandon := x.abandon.map Timer.tick
           deadman := x.deadman.map Timer.tick }

/-- The link timer and the clock's count toward its next second advance. -/
def HostLine.tick (l : HostLine) : HostLine :=
  { l with linkTimer := l.linkTimer.map Timer.tick
           subSecond := if l.clock.isSome then tickTo ticksPerSecond l.subSecond else l.subSecond }

/-- Every timer of the part advances by one tick. -/
def advance (s : State) : State :=
  { s with
    pulses := vmap PulseInput.tick s.pulses
    temps := vmap (fun (t : TempReceiver) => { t with recordTimer := t.recordTimer.map Timer.tick }) s.temps
    meters := vmap (fun (m : MeterEngine) => { m with interval := tickTo Config.intervalTicks m.interval }) s.meters
    arms := vmap Arm.tick s.arms
    pumps := vmap Pump.tick s.pumps
    injectors := vmap Injector.tick s.injectors
    bays := vmap Bay.tick s.bays
    sup := vmap (fun (x : Instance) => { x with timer := x.timer.map Timer.tick }) s.sup
    trip := { s.trip with delay := s.trip.delay.map Timer.tick }
    setup := { s.setup with timer := s.setup.timer.map Timer.tick }
    line := s.line.tick }

/-! ### What falls due -/

/-- The timer's next tick brings it to its limit. -/
def nearlyOut (t : Option Timer) : Bool :=
  match t with
  | some t => t.elapsed + 1 = t.limit
  | none => false

/-- A product channel's filter has held a departure for its width: the edge is accepted. -/
def dueEdge (a : ArmNo) (ch : Channel) (filter : Option Timer) (pin : Bool) : List Instr :=
  if nearlyOut filter then
    [if pin then .acceptedRisingEdge a ch else .acceptedFallingEdge (.product a ch)]
  else []

/-- A command, when its condition holds. -/
def dueIf (c : Bool) (i : Instr) : List Instr := if c then [i] else []

/-- What falls due at an arm. -/
def dueArm (s : State) (a : ArmNo) : List Instr :=
  let x := s.arms[a]
  dueEdge a .a s.pulses[a].filterA s.pins.pulseA[a] ++ dueEdge a .b s.pulses[a].filterB s.pins.pulseB[a]
    ++ dueIf (nearlyOut s.temps[a].recordTimer) (.recordTimerExpiry a)
    ++ dueIf (s.meters[a].interval + 1 = Config.intervalTicks) (.intervalExpiry a)
    ++ dueIf (nearlyOut x.travel) (.travelAllowanceExpiry a)
    ++ dueIf (x.quiet + 1 = Config.quietTicks) (.quietTimerExpiry a)
    ++ dueIf (nearlyOut x.closingLimit) (.closingLimitExpiry a)
    ++ dueIf (nearlyOut x.noFlowTimer) (.noFlowTimerExpiry a)

/-- The arms of a pump whose wait ends at the next tick (R62). -/
def dueWait (s : State) (p : PumpNo) : List Instr :=
  (s.pumps[p].waiting.filter fun a => match s.pumps[p].run with
    | some t => startDelayOf s a ≤ t + 1
    | none => false).map .pumpStartDelayReached

/-- What falls due at an injector. -/
def dueInj (s : State) (i : InjNo) : List Instr :=
  let x := s.injectors[i]
  (if nearlyOut x.filter then
    [if s.pins.additive[i] then .additivePulse i else .acceptedFallingEdge (.additive i)]
  else [])
    ++ dueIf (nearlyOut x.shotTimer) (.shotTimeLimit i) ++ dueIf (nearlyOut x.settleTimer) (.settleTimeExpiry i)

/-- What falls due at a bay. -/
def dueBay (s : State) (b : BayNo) : List Instr :=
  let x := s.bays[b]
  dueIf (nearlyOut x.deadman) (.deadmanLate b) ++ dueIf (nearlyOut x.attention) (.attentionTimerExpiry b)
    ++ dueIf (nearlyOut x.abandon) (.abandonTimerExpiry b)

/-- Everything that falls due at the next tick, in the fixed order of assumption 2. -/
def due (s : State) : List Instr :=
  allArms.flatMap (dueArm s) ++ allPumps.flatMap (dueWait s)
    ++ allPumps.flatMap (fun p => dueIf (nearlyOut s.pumps[p].stopDelay) (.stopDelayExpiry p))
    ++ allInjs.flatMap (dueInj s) ++ allBays.flatMap (dueBay s)
    ++ allInsts.flatMap (fun i => dueIf (nearlyOut (s.inst i).timer) (.filterTimerExpiry i))
    ++ dueIf (nearlyOut s.trip.delay) .tripDelayExpiry ++ dueIf (nearlyOut s.setup.timer) .setupTimerExpiry
    ++ dueIf s.setup.query.isSome .setupOpenDecision ++ dueIf (nearlyOut s.line.linkTimer) .linkTimeout
    ++ dueIf (s.line.clock.isSome && s.line.subSecond + 1 = ticksPerSecond) .clockSecond

/-! ### The tick -/

/-- A later command of one tick leaves the earlier ones' SHOW records and retained writes standing. -/
def keepEarlier (before after : State) : State :=
  { after with
    undo := after.undo ++ before.undo
    bays := vzip (fun (x y : Bay) => { y with sent := x.sent ++ y.sent }) before.bays after.bays }

/-- The commands that fell due, performed in order; one that an earlier one has made undue is passed over. -/
def performDue (run : Instr → State → Host.Outcome State Fault Refusal) :
    List Instr → State → Host.Outcome State Fault Refusal
  | [], s => .next s
  | i :: rest, s =>
    if i ∈ due s then
      match run i s with
      | .next t => performDue run rest (keepEarlier s t)
      | .fault f => .fault f
      | .refused r => .refused r
    else performDue run rest s

/-- One tick (assumption 2): in service the timers advance and what falls due is performed; a part in START_UP performs
its start-up operation; a part without supply idles. -/
def tick (run : Instr → State → Host.Outcome State Fault Refusal) (s : State) :
    Host.Outcome State Fault Refusal :=
  match s.phase with
  | .service => performDue run (due s) (advance s.fresh)
  | .starting _ => run (.startUp []) s
  | .off => .next s

end Sys2Proof.Machine
end

