-- ==== Sys2Proof/Machine/ArmEvents.lean ====
section
/-! DEFINITION. The events of the arms, the pumps and the injectors as commands (R48 to R64, R69 to R76). -/

namespace Sys2Proof.Machine

/-! ### Arms -/

/-- A position switch takes a level after its filter. -/
def setSwitch (a : ArmNo) (w : ValveSwitch) (level : Bool) (s : State) : State :=
  match w with
  | .closed => { s with pins := { s.pins with closedSwitch := vset s.pins.closedSwitch a level } }
  | .opened => { s with pins := { s.pins with openSwitch := vset s.pins.openSwitch a level } }

/-- A used arm takes a switch change: the comparison once the allowance is over, and the settled condition
(R48, R58). -/
def switchChanged (a : ArmNo) (s : State) : State :=
  if (s.armCfg a).used then
    let s := match s.arms[a].travel with
      | none => compareSwitches a s
      | some _ => s
    s.push (.testArm a)
  else s

/-- VALVE_SWITCH_CHANGE (R58). -/
def execValveSwitchChange (arm : ArmNo) (switch : ValveSwitch) (level : Bool) (s : State) :
    Host.Outcome State Fault Refusal :=
  onPin (setSwitch arm switch level) (switchChanged arm) s

/-- The travel allowance runs out (R58). -/
def travelAt (a : ArmNo) (s : State) : State :=
  if isRunning s.arms[a].travel then
    let s := s.modArm a fun x => { x with travel := none }
    if (s.armCfg a).used then compareSwitches a s else s
  else s

/-- TRAVEL_ALLOWANCE_EXPIRY (R58). -/
def execTravelAllowanceExpiry (arm : ArmNo) (s : State) : Host.Outcome State Fault Refusal :=
  inService (travelAt arm) s

/-- The quiet timer reaches 2.0 s (R48). -/
def quietAt (a : ArmNo) (s : State) : State :=
  if s.arms[a].quiet < Config.quietTicks then
    (s.modArm a fun x => { x with quiet := Config.quietTicks }).push (.testArm a)
  else s

/-- QUIET_TIMER_EXPIRY (R48). -/
def execQuietTimerExpiry (arm : ArmNo) (s : State) : Host.Outcome State Fault Refusal :=
  inService (quietAt arm) s

/-- CLOSING_LIMIT_EXPIRY (R50). -/
def execClosingLimitExpiry (arm : ArmNo) (s : State) : Host.Outcome State Fault Refusal :=
  inService (closingLimitAt arm) s

/-- The no-flow timer reaches the no-flow time, in LOW_START or HIGH_FLOW (R59). -/
def noFlowAt (a : ArmNo) (s : State) : State :=
  let st := s.arms[a].state
  if isRunning s.arms[a].noFlowTimer = true ∧ (st = .lowStart ∨ st = .highFlow) then
    setNoFlowCond a true (s.modArm a fun x => { x with noFlowTimer := x.noFlowTimer.map Timer.atLimit })
  else s

/-- NO_FLOW_TIMER_EXPIRY (R59). -/
def execNoFlowTimerExpiry (arm : ArmNo) (s : State) : Host.Outcome State Fault Refusal :=
  inService (noFlowAt arm) s

/-- The compartment on an arm completes where its rules say so: in CLOSING, settled or past its closing limit with no
shot outstanding (R49, R50); in HELD, when its session is ending (R53, R118). -/
def completionDue (a : ArmNo) (s : State) : State :=
  match s.arms[a].state with
  | .closing => testArm a s
  | .held =>
    match s.arms[a].comp with
    | some oc => if (s.session oc.bay).map Session.state = some .ending then finishArm a s else s
    | none => s
  | _ => s

/-- COMPARTMENT_COMPLETION (R55). -/
def execCompartmentCompletion (arm : ArmNo) (s : State) : Host.Outcome State Fault Refusal :=
  inService (completionDue arm) s

/-! ### Pumps -/

/-- The run time of the pump a waiting arm needs reaches the arm's start delay (R62). -/
def startDelayReached (a : ArmNo) (s : State) : State :=
  match pumpOf s a with
  | none => s
  | some p =>
    if a ∈ s.pumps[p].waiting ∧ s.pumps[p].run.isSome = true then
      let delay := startDelayOf s a
      releaseIfReady a (s.modPump p fun u => { u with run := u.run.map (max delay) })
    else s

/-- PUMP_START_DELAY_REACHED (R62). -/
def execPumpStartDelayReached (arm : ArmNo) (s : State) : Host.Outcome State Fault Refusal :=
  inService (startDelayReached arm) s

/-- The stop-delay timer of a pump in RUN_DOWN runs out (R63). -/
def stopDelayAt (p : PumpNo) (s : State) : State :=
  if s.pumps[p].state = .runDown then s.modPump p Pump.stopped else s

/-- STOP_DELAY_EXPIRY (R63). -/
def execStopDelayExpiry (pump : PumpNo) (s : State) : Host.Outcome State Fault Refusal :=
  inService (stopDelayAt pump) s

/-! ### Injectors -/

/-- An accepted additive pulse, ignored by an unused injector (R69). -/
def additivePulse (i : InjNo) (s : State) : State :=
  if (s.injCfg i).used then additivePulseAt i (s.modInj i fun x => { x with level := true, filter := none })
  else s

/-- ADDITIVE_PULSE (R69). -/
def execAdditivePulse (inj : InjNo) (s : State) : Host.Outcome State Fault Refusal :=
  inService (fun s => additivePulse inj
    { s with pins := { s.pins with additive := vset s.pins.additive inj true } }) s

/-- The shot timer reaches its limit (R72). -/
def shotLimitAt (i : InjNo) (s : State) : State := endShot i .shortfall s

/-- SHOT_TIME_LIMIT (R72). -/
def execShotTimeLimit (inj : InjNo) (s : State) : Host.Outcome State Fault Refusal :=
  inService (shotLimitAt inj) s

/-- SETTLE_TIME_EXPIRY (R73). -/
def execSettleTimeExpiry (inj : InjNo) (s : State) : Host.Outcome State Fault Refusal :=
  inService (finishShot inj) s

end Sys2Proof.Machine
end

