-- ==== Sys2Proof/Machine/BayEvents.lean ====
section
/-! DEFINITION. The inputs, timers and terminal records of the bays as commands (R107 to R124). -/

namespace Sys2Proof.Machine

/-! ### Inputs and timers -/

/-- A permit input takes a level after its filter. -/
def setPermitPin (b : BayNo) (k : PermitInput) (level : Bool) (s : State) : State :=
  match k with
  | .ground => { s with pins := { s.pins with ground := vset s.pins.ground b level } }
  | .overfill => { s with pins := { s.pins with overfill := vset s.pins.overfill b level } }
  | .vapour => { s with pins := { s.pins with vapour := vset s.pins.vapour b level } }

/-- A permit input has changed: activity, for VAPOUR only when vapour is used, and the conditions (R122, R129). -/
def permitChanged (b : BayNo) (k : PermitInput) (s : State) : State :=
  let counts := match k with
    | .vapour => (s.bayCfg b).vapourUsed
    | _ => true
  reportPermissives b (if counts then activity b .permissive s else s)

/-- BAY_PERMIT_CHANGE (R129): a level the input already has is no change. -/
def execBayPermitChange (bay : BayNo) (permit : PermitInput) (level : Bool) (s : State) :
    Host.Outcome State Fault Refusal :=
  onPin (setPermitPin bay permit level)
    (if permitLevel s bay permit = level then id else permitChanged bay permit) s

/-- The DEADMAN input takes a level after its filter. -/
def setDeadmanPin (b : BayNo) (level : Bool) (s : State) : State :=
  { s with pins := { s.pins with deadman := vset s.pins.deadman b level } }

/-- A press judged against the window while the timer runs (R124). -/
def judgePress (b : BayNo) (s : State) : State :=
  match s.bays[b].deadman with
  | none => s
  | some t =>
    let s := restartDeadman b s
    if t.elapsed < windowTicks (s.bayCfg b) then deadmanViolation b .deadmanEarly s
    else s.modBay b fun x => { x with violations := x.violations - 1 }

/-- DEADMAN_PRESS (R124). -/
def execDeadmanPress (bay : BayNo) (held : Bool) (s : State) : Host.Outcome State Fault Refusal :=
  onPin (setDeadmanPin bay held) (fun s => judgePress bay (activity bay .deadman s)) s

/-- The deadman timer reaches W × k / 8 (R123). -/
def windowOpensAt (b : BayNo) (s : State) : State :=
  s.modBay b fun x => { x with deadman := x.deadman.map fun t =>
    { t with elapsed := max t.elapsed (windowTicks (s.bayCfg b)) } }

/-- DEADMAN_WINDOW_OPENS (R123). -/
def execDeadmanWindowOpens (bay : BayNo) (s : State) : Host.Outcome State Fault Refusal :=
  inService (windowOpensAt bay) s

/-- The deadman timer reaches W with no press (R123, R124). -/
def deadmanLateAt (b : BayNo) (s : State) : State :=
  match s.bays[b].deadman with
  | none => s
  | some _ => deadmanViolation b .deadmanLate (restartDeadman b s)

/-- DEADMAN_LATE (R123). -/
def execDeadmanLate (bay : BayNo) (s : State) : Host.Outcome State Fault Refusal :=
  inService (deadmanLateAt bay) s

/-- The ATTENTION timer reaches its time and stays there (R122). -/
def attentionAt (b : BayNo) (s : State) : State :=
  if sessionRuns s b && isRunning s.bays[b].attention then
    (s.modBay b fun x => { x with attention := x.attention.map Timer.atLimit, attentionFlag := true }).sendShow b
      .attention []
  else s

/-- ATTENTION_TIMER_EXPIRY (R122). -/
def execAttentionTimerExpiry (bay : BayNo) (s : State) : Host.Outcome State Fault Refusal :=
  inService (attentionAt bay) s

/-- The ABANDON timer runs out (R117, R122). -/
def abandonAt (b : BayNo) (s : State) : State :=
  if isRunning s.bays[b].abandon then endSession b .abandoned s else s

/-- ABANDON_TIMER_EXPIRY (R122). -/
def execAbandonTimerExpiry (bay : BayNo) (s : State) : Host.Outcome State Fault Refusal :=
  inService (abandonAt bay) s

/-- NOTE_FILING (R119). -/
def execNoteFiling (bay : BayNo) (s : State) : Host.Outcome State Fault Refusal :=
  inService (filingTest bay) s

/-! ### Terminal records -/

/-- CARD (R108). -/
def execCard (bay : BayNo) (token : BitVec 64) (s : State) : Host.Outcome State Fault Refusal :=
  inService (cardAt bay token) s

/-- A KEY record is an activity event before it is judged (R122). -/
def withKey (b : BayNo) (f : State → State) (s : State) : State := f (activity b .key s)

/-- SELECT (R111). -/
def execSelect (bay : BayNo) (comp : CompNo) (arm : ArmNo) (s : State) : Host.Outcome State Fault Refusal :=
  inService (withKey bay (selectKey bay comp arm)) s

/-- START (R112). -/
def execStart (bay : BayNo) (arm : ArmNo) (s : State) : Host.Outcome State Fault Refusal :=
  inService (withKey bay (startKey bay arm)) s

/-- RESUME (R114). -/
def execResume (bay : BayNo) (arm : ArmNo) (s : State) : Host.Outcome State Fault Refusal :=
  inService (withKey bay (resumeKey bay arm)) s

/-- STOP (R115). -/
def execStop (bay : BayNo) (arm : ArmNo) (s : State) : Host.Outcome State Fault Refusal :=
  inService (withKey bay (stopKey bay arm)) s

/-- FINISH (R115). -/
def execFinish (bay : BayNo) (arm : ArmNo) (s : State) : Host.Outcome State Fault Refusal :=
  inService (withKey bay (finishKey bay arm)) s

/-- END (R117). -/
def execEndKey (bay : BayNo) (s : State) : Host.Outcome State Fault Refusal :=
  inService (withKey bay (endKeyAt bay)) s

/-- RESET (R121). -/
def execResetKey (bay : BayNo) (s : State) : Host.Outcome State Fault Refusal :=
  inService (withKey bay (resetKeyAt bay)) s

/-- MALFORMED_RECORD (R107): dropped; no state changes, no SHOW is sent, no activity is counted. Its bytes are no CARD
and no KEY (`bayCommand`). -/
def execMalformedRecord (_bay : BayNo) (_bytes : List Byte) (s : State) : Host.Outcome State Fault Refusal :=
  .next s.fresh

end Sys2Proof.Machine
end

