-- ==== Sys2Proof/Machine/HostLine.lean ====
section
/-! DEFINITION. The host line interface: the frame receiver, requests and their replies, all-call frames, the link
state, the rack clock (R172 to R176, R179), and its own commands. -/

namespace Sys2Proof.Machine

/-! ### The receiver (R172) -/

/-- The receiver works from the start of start-up (R179); without supply there is none. -/
def onReceiver (f : State → State) (s : State) : State :=
  match s.phase with
  | .off => s
  | _ => f s.fresh

/-- The receiver enters a state. -/
def setReceiver (r : Receiver) (s : State) : State := s.modLine fun l => { l with receiver := r }

/-- START_BYTE (R172): a byte of C3 hex in HUNT. -/
def execStartByte (s : State) : Host.Outcome State Fault Refusal :=
  .next (onReceiver (fun s => if s.line.receiver = .hunt then setReceiver .receiving s else s) s)

/-- LENGTH_ABOVE_1024 (R172): the frame is discarded and the rest of the line's bytes are skipped. -/
def execLengthAbove1024 (s : State) : Host.Outcome State Fault Refusal :=
  .next (onReceiver (fun s => if s.line.receiver = .skipping then s else setReceiver .skipping s) s)

/-- INTER_BYTE_GAP (R172): a gap of more than 5 ms inside a frame. -/
def execInterByteGap (s : State) : Host.Outcome State Fault Refusal :=
  .next (onReceiver (fun s => if s.line.receiver = .receiving then setReceiver .hunt s else s) s)

/-- LINE_IDLE (R172): the line idle for more than 5 ms in SKIPPING. -/
def execLineIdle (s : State) : Host.Outcome State Fault Refusal :=
  .next (onReceiver (fun s => if s.line.receiver = .skipping then setReceiver .hunt s else s) s)

/-- A frame the checks of R172 throw away: it changes nothing but the receiver, which hunts again. -/
def discardFrame (bytes : List Byte) (s : State) : State :=
  if s.line.receiver ≠ .skipping ∧ frameDiscards s.line.address s.line.reply.isSome bytes = true then
    setReceiver .hunt s
  else s

/-- FRAME_DISCARDED (R172). -/
def execFrameDiscarded (bytes : List Byte) (s : State) : Host.Outcome State Fault Refusal :=
  .next (onReceiver (discardFrame bytes) s)

/-! ### Requests and replies (R173, R174) -/

/-- An answer: the result code and what follows it in the reply body. -/
abbrev Answer := ResultCode × ReplyBody

/-- The block answers with a result code alone (R184). -/
def State.answer (s : State) (r : ResultCode) : State × Answer := (s, r, .bytes [])

/-- The block answers OK with bytes after the result code. -/
def State.okBytes (s : State) (l : List Byte) : State × Answer := (s, .ok, .bytes l)

/-- A reply begins. -/
def sendReply (kind : Byte) (x : Answer) (s : State) : State :=
  s.modLine fun l => { l with reply := some (.sending ⟨kind, x.1, x.2⟩) }

/-- The messages SETUP_LOCKED takes (R163, R174). -/
def takenLocked (kind : Nat) : Bool :=
  (0x01 ≤ kind && kind ≤ 0x06) || kind = 0x22 || (0x30 ≤ kind && kind ≤ 0x35) || (0x40 ≤ kind && kind ≤ 0x42)
    || (0x60 ≤ kind && kind ≤ 0x62) || kind = 0x7F

/-- The mode test of the interface (R174). -/
def modeTakes (m : Mode) (kind : Nat) : Bool :=
  match m with
  | .startUp => kind = 0x7F
  | .setupLocked => takenLocked kind
  | _ => true

/-- A valid frame sets the link ONLINE and restarts its timer, but for the frames of START_UP (R175). -/
def linkUp (s : State) : State :=
  s.modLine fun l =>
    { l with link := .online, linkTimer := some (Timer.start (s.cfg.rack.linkTimeout * ticksPerSecond)) }

/-- A whole frame with a good check that is addressed to this part arrives: skipped bytes are ignored, a frame that
completes while a reply is pending is discarded, any other is valid and handled (R172, R173, R175). -/
def receiveFrame (handle : State → State) (s : State) : State :=
  match s.phase with
  | .off => s
  | .starting _ =>
    if s.line.receiver = .skipping then s.fresh
    else if s.line.reply.isSome then setReceiver .hunt s.fresh
    else handle (setReceiver .hunt s.fresh)
  | .service =>
    if s.line.receiver = .skipping then s.fresh
    else if s.line.reply.isSome then setReceiver .hunt s.fresh
    else settleCommand (handle (linkUp (setReceiver .hunt s.fresh)))

/-- Steps 2 to 5 of R173: the mode test, the owner's answer, the reply. -/
def addressed (kind : Byte) (owner : State → State × Answer) (s : State) : State :=
  let r := if modeTakes s.mode kind.toNat then owner s else s.answer .mode
  sendReply kind r.2 r.1

/-- A request of a kind of the catalogue (R173). -/
def request (kind : Byte) (owner : State → State × Answer) (s : State) : Host.Outcome State Fault Refusal :=
  .next (receiveFrame (addressed kind owner) s)

/-- Steps 2 to 4 of R173 for an all-call frame: an answer other than OK leaves no effect, and there is no reply. -/
def allCall (kind : Byte) (owner : State → State × Answer) (s : State) : State :=
  if modeTakes s.mode kind.toNat then
    match owner s with
    | (t, .ok, _) => t
    | _ => s
  else s

/-- A message that may also be sent to all stations (R172, R173). -/
def requestTo (dest : Dest) (kind : Byte) (owner : State → State × Answer) (s : State) :
    Host.Outcome State Fault Refusal :=
  match dest with
  | .addressed => request kind owner s
  | .allCall => .next (receiveFrame (allCall kind owner) s)

/-- A message without arguments: a body that is not empty is answered FORMAT (R173, R184). -/
def noBody (body : List Byte) (owner : State → State × Answer) (s : State) : State × Answer :=
  if body = [] then owner s else s.answer .format

/-- UNKNOWN_KIND (R173): a kind of 80 hex or above is a reply and is discarded (R172). -/
def execUnknownKind (kind : Byte) (_body : List Byte) (s : State) : Host.Outcome State Fault Refusal :=
  if 0x80 ≤ kind.toNat then .next (onReceiver (fun s => if s.line.receiver = .skipping then s else setReceiver .hunt s) s)
  else .next (receiveFrame (sendReply kind (.unknown, .bytes [])) s)

/-! ### The link (R175) -/

/-- The link timer reaches the link timeout. -/
def linkTimeoutAt (s : State) : State :=
  if isRunning s.line.linkTimer then s.modLine fun l => { l with link := .standalone, linkTimer := none } else s

/-- LINK_TIMEOUT (R175). -/
def execLinkTimeout (s : State) : Host.Outcome State Fault Refusal := inService linkTimeoutAt s

/-! ### The rack clock (R176) -/

/-- The reading one second later, the day from 65535 to 0. -/
def Stamp.next (t : Stamp) : Stamp :=
  if t.second + 1 < 86400 then { t with second := t.second + 1 } else ⟨(t.day + 1) % 65536, 0⟩

/-- A second passes on a set clock; a change of day is reported to the permit table (R104, R176). -/
def secondPasses (s : State) : State :=
  match s.line.clock with
  | none => s
  | some t =>
    let s := s.modLine fun l => { l with clock := some t.next, subSecond := 0 }
    if t.next.day = t.day then s else dayRollover s

/-- CLOCK_SECOND (R176), in START_UP as well. -/
def execClockSecond (s : State) : Host.Outcome State Fault Refusal :=
  .next (match s.phase with
    | .off => s
    | .starting _ => secondPasses s.fresh
    | .service => settleCommand (secondPasses s.fresh))

/-- The clock takes a reading, with a change of day reported when a set clock held another day (R176). -/
def setClock (t : Stamp) (s : State) : State :=
  let old := s.line.clock
  let s := s.modLine fun l => { l with clock := some t, subSecond := 0 }
  match old with
  | some o => if o.day = t.day then s else dayRollover s
  | none => s

/-- The owner's part of CLOCK SET (R176). -/
def clockSetOwner (body : List Byte) (s : State) : State × Answer :=
  if body.length = 6 ∧ fld body 2 4 ≤ 86399 then
    (setClock ⟨fld body 0 2, fld body 2 4⟩ s).answer .ok
  else s.answer .format

/-- CLOCK_SET (R176). -/
def execClockSet (dest : Dest) (body : List Byte) (s : State) : Host.Outcome State Fault Refusal :=
  requestTo dest 0x10 (clockSetOwner body) s

end Sys2Proof.Machine
end

