-- ==== Sys2Proof/Machine/HostRecords.lean ====
section
/-! DEFINITION. The permit, order and note messages (R87 to R91, R96 to R98, R153 to R155, R183, R184). -/

namespace Sys2Proof.Machine

/-! ### Permits -/

/-- A body that is a permit number alone, within its range (R184). -/
def parsePermitNumber (body : List Byte) : Option Nat :=
  if body.length = 2 then rangeOf 1 65535 (fld body 0 2) else none

/-- A replaced entry: the message's fields, with the running figures of the entry (R87). -/
def Permit.replacedBy (p new : Permit) : Permit :=
  { new with used := p.used, reserved := p.reserved, state := p.state, openSession := p.openSession }

/-- The checks of PERMIT PUT after FORMAT, in their order (R87). -/
def permitPutRefusal (ps : List Permit) (new : Permit) : Option ResultCode :=
  let own := findPermit ps new.number
  if own.any (fun p => p.openSession.isSome) then some .inUse
  else if ps.any (fun p => p.token = new.token && p.number ≠ new.number) then some .duplicate
  else if own.isNone ∧ Config.permitCapacity ≤ ps.length then some .full
  else none

/-- The owner's part of PERMIT PUT (R87). -/
def permitPutOwner (body : List Byte) (s : State) : State × Answer :=
  match parsePermit body with
  | none => s.answer .format
  | some new =>
    match permitPutRefusal s.permits new with
    | some code => s.answer code
    | none =>
      match findPermit s.permits new.number with
      | some _ =>
        ({ s with permits := modPermit s.permits new.number fun p => p.replacedBy new } : State).okBytes (be 1 1)
      | none => ({ s with permits := s.permits ++ [new] } : State).okBytes (be 1 0)

/-- PERMIT_PUT (R87). -/
def execPermitPut (body : List Byte) (s : State) : Host.Outcome State Fault Refusal :=
  request 0x30 (permitPutOwner body) s

/-- The entry a PERMIT READ finds: by mode 0 EXACT, 1 NEXT (R88). -/
def permitRead (ps : List Permit) (mode n : Nat) : Option Permit :=
  if mode = 0 then findPermit ps n else nextPermit ps n

/-- The owner's part of PERMIT READ (R88). -/
def permitReadOwner (body : List Byte) (s : State) : State × Answer :=
  if body.length = 3 ∧ fld body 2 1 ≤ 1 then
    match permitRead s.permits (fld body 2 1) (fld body 0 2) with
    | some p => s.okBytes p.bytes
    | none => s.answer .notFound
  else s.answer .format

/-- PERMIT_READ (R88). -/
def execPermitRead (body : List Byte) (s : State) : Host.Outcome State Fault Refusal :=
  request 0x31 (permitReadOwner body) s

/-- A suspension or reinstatement of an entry: IN_USE for a RETIRING one (R89). -/
def setPermitState (next : PermitState) (n : Nat) (s : State) : State × Answer :=
  match findPermit s.permits n with
  | none => s.answer .notFound
  | some p =>
    if p.state = .retiring then s.answer .inUse
    else ({ s with permits := modPermit s.permits n fun p => { p with state := next } } : State).answer .ok

/-- A message that names a permit number (R89, R90). -/
def namedPermit (body : List Byte) (owner : Nat → State → State × Answer) (s : State) : State × Answer :=
  match parsePermitNumber body with
  | some n => owner n s
  | none => s.answer .format

/-- PERMIT_SUSPEND (R89). -/
def execPermitSuspend (body : List Byte) (s : State) : Host.Outcome State Fault Refusal :=
  request 0x32 (namedPermit body (setPermitState .suspended)) s

/-- PERMIT_REINSTATE (R89). -/
def execPermitReinstate (body : List Byte) (s : State) : Host.Outcome State Fault Refusal :=
  request 0x33 (namedPermit body (setPermitState .active)) s

/-- The owner's part of PERMIT REMOVE: DELETED without a session, RETIRING with one (R90). -/
def permitRemoveOwner (n : Nat) (s : State) : State × Answer :=
  match findPermit s.permits n with
  | none => s.answer .notFound
  | some p =>
    if p.openSession.isNone then (deletePermit n s).okBytes (be 1 0)
    else ({ s with permits := modPermit s.permits n fun p => { p with state := .retiring } } : State).okBytes (be 1 1)

/-- PERMIT_REMOVE (R90). -/
def execPermitRemove (body : List Byte) (s : State) : Host.Outcome State Fault Refusal :=
  request 0x34 (namedPermit body permitRemoveOwner) s

/-- An entry after a QUOTA SET (R91). -/
def Permit.withQuota (p : Permit) (quota : Nat) (zero : Bool) : Permit :=
  { p with quota := quota, used := if zero then 0 else p.used }

/-- The quota, used and reserved figures after a QUOTA SET (R184). -/
def Permit.quotaBytes (p : Permit) : List Byte := be 4 p.quota ++ be 4 p.used ++ be 4 p.reserved

/-- The owner's part of QUOTA SET (R91). -/
def quotaSetOwner (body : List Byte) (s : State) : State × Answer :=
  match rangeOf 1 65535 (fld body 0 2), rangeOf 0 10000000 (fld body 2 4), boolOf (fld body 6 1) with
  | some n, some quota, some zero =>
    if body.length ≠ 7 then s.answer .format
    else match findPermit s.permits n with
      | none => s.answer .notFound
      | some p =>
        ({ s with permits := modPermit s.permits n fun p => p.withQuota quota zero } : State).okBytes
          (p.withQuota quota zero).quotaBytes
  | _, _, _ => s.answer .format

/-- QUOTA_SET (R91). -/
def execQuotaSet (body : List Byte) (s : State) : Host.Outcome State Fault Refusal :=
  request 0x35 (quotaSetOwner body) s

/-! ### Orders -/

/-- The order of a number. -/
def findOrder (os : List Order) (n : Nat) : Option Order := os.find? fun o => o.number = n

/-- Every product of an order is in a permit's mask and enabled (R96). -/
def orderAllowed (s : State) (p : Permit) (o : Order) : Bool :=
  o.entries.all fun e => maskHas p.productMask e.product && s.cfg.products[e.product].enabled

/-- The checks of ORDER PUT after FORMAT, in their order (R96). -/
def orderPutRefusal (s : State) (o : Order) : Option ResultCode :=
  if (findOrder s.orders o.number).isSome then some .duplicate
  else match findPermit s.permits o.permit with
    | none => some .notFound
    | some p =>
      if orderAllowed s p o = false then some .invalid
      else if Config.orderCapacity ≤ s.orders.length then some .full
      else none

/-- The owner's part of ORDER PUT (R96). -/
def orderPutOwner (body : List Byte) (s : State) : State × Answer :=
  match parseOrder body with
  | none => s.answer .format
  | some o =>
    match orderPutRefusal s o with
    | some code => s.answer code
    | none => ({ s with orders := s.orders ++ [o] } : State).answer .ok

/-- ORDER_PUT (R96). -/
def execOrderPut (body : List Byte) (s : State) : Host.Outcome State Fault Refusal :=
  request 0x40 (orderPutOwner body) s

/-- The range of an order number (spec/05, Orders). -/
def parseOrderNumber (n : Nat) : Option Nat := rangeOf 1 2147483647 n

/-- The reply that carries an order, or NOT_FOUND (R97). -/
def orderReply (s : State) (o : Option Order) : State × Answer :=
  match o with
  | some o => s.okBytes o.bytes
  | none => s.answer .notFound

/-- The owner's part of ORDER READ (R97): selector 0 by order number, 1 by position. -/
def orderReadOwner (body : List Byte) (s : State) : State × Answer :=
  let n := fld body 1 4
  if body.length ≠ 5 then s.answer .format
  else if fld body 0 1 = 0 then
    match parseOrderNumber n with
    | some n => orderReply s (findOrder s.orders n)
    | none => s.answer .format
  else if fld body 0 1 = 1 then
    if n = 0 then s.okBytes (be 1 s.orders.length) else orderReply s (s.orders[n - 1]?)
  else s.answer .format

/-- ORDER_READ (R97). -/
def execOrderRead (body : List Byte) (s : State) : Host.Outcome State Fault Refusal :=
  request 0x41 (orderReadOwner body) s

/-- The owner's part of ORDER CANCEL (R98). -/
def orderCancelOwner (body : List Byte) (s : State) : State × Answer :=
  match parseOrderNumber (fld body 0 4) with
  | some n =>
    if body.length ≠ 4 then s.answer .format
    else match findOrder s.orders n with
      | none => s.answer .notFound
      | some o => if o.active then s.answer .inUse else (removeOrder n s).answer .ok
  | none => s.answer .format

/-- ORDER_CANCEL (R98). -/
def execOrderCancel (body : List Byte) (s : State) : Host.Outcome State Fault Refusal :=
  request 0x42 (orderCancelOwner body) s

/-! ### Notes -/

/-- The number of a note that may be absent, 0 for none (R153). -/
def noteNumber (n : Option Note) : Nat :=
  match n with
  | some x => x.number
  | none => 0

/-- The NOTE INDEX reply (R153, R184). -/
def noteIndexBytes (n : NoteStore) : List Byte :=
  be 1 n.held.length ++ be 1 n.reserved ++ be 1 n.free ++ be 4 (noteNumber n.held.head?)
    ++ be 4 (noteNumber n.held.getLast?) ++ be 4 n.next

/-- NOTE_INDEX (R153). -/
def execNoteIndex (body : List Byte) (s : State) : Host.Outcome State Fault Refusal :=
  request 0x60 (noBody body fun s => s.okBytes (noteIndexBytes s.notes)) s

/-- A body that is a note number, within 1..999,999 (R154, R155). -/
def parseNoteNumber (body : List Byte) : Option Nat :=
  if body.length = 4 then rangeOf 1 Config.lastNoteNumber (fld body 0 4) else none

/-- The owner's part of NOTE READ (R154). -/
def noteReadOwner (body : List Byte) (s : State) : State × Answer :=
  match parseNoteNumber body with
  | none => s.answer .format
  | some k =>
    match s.notes.find k with
    | some n => s.okBytes n.bytes
    | none => s.answer .notFound

/-- NOTE_READ (R154). -/
def execNoteRead (body : List Byte) (s : State) : Host.Outcome State Fault Refusal :=
  request 0x61 (noteReadOwner body) s

/-- The owner's part of NOTE RELEASE (R155). -/
def noteReleaseOwner (body : List Byte) (s : State) : State × Answer :=
  match parseNoteNumber body with
  | none => s.answer .format
  | some k =>
    match s.notes.find k with
    | some _ => ({ s with notes := s.notes.release k } : State).okBytes (be 1 (s.notes.release k).free)
    | none => s.answer .notFound

/-- NOTE_RELEASE (R155). -/
def execNoteRelease (body : List Byte) (s : State) : Host.Outcome State Fault Refusal :=
  request 0x62 (noteReleaseOwner body) s

end Sys2Proof.Machine
end

