-- ==== Sys2Proof/Machine/MeterInputs.lean ====
section
/-! DEFINITION. The pulse inputs, the temperature lines and the metering interval as commands (R3 to R17, R19 to
R33): PULSE_PIN_CHANGE, ACCEPTED_RISING_EDGE, ACCEPTED_FALLING_EDGE, READING_RECORD, RECORD_TIMER_EXPIRY,
INTERVAL_EXPIRY. -/

namespace Sys2Proof.Machine

/-! ### Pulse inputs -/

/-- The filter width of a min pulse code, in ticks (R3). -/
def filterWidth (code : Nat) : Nat :=
  match code with
  | 0 => 2
  | 1 => 5
  | 2 => 10
  | 3 => 20
  | _ => 50

/-- The channel is filtered: A of a used arm, B of a dual-channel one (R4). -/
def channelInUse (c : ArmCfg) (ch : Channel) : Bool :=
  c.used && match ch with
    | .a => true
    | .b => c.dual

/-- A noise filter after a pin change: a departure starts the timing, a return discards it (R3). -/
def filterAfter (timing : Option Timer) (filtered pin : Bool) (width : Nat) : Option Timer :=
  if pin = filtered then none
  else match timing with
    | some t => some t
    | none => some (Timer.start width)

/-- A pulse pin takes a level. -/
def setPulsePin (p : PulsePin) (level : Bool) (s : State) : State :=
  match p with
  | .product a .a => { s with pins := { s.pins with pulseA := vset s.pins.pulseA a level } }
  | .product a .b => { s with pins := { s.pins with pulseB := vset s.pins.pulseB a level } }
  | .additive i => { s with pins := { s.pins with additive := vset s.pins.additive i level } }

/-- The noise filter follows a pin change (R3, R4, R69). -/
def followPin (p : PulsePin) (level : Bool) (s : State) : State :=
  match p with
  | .product a ch =>
    let c := s.armCfg a
    if channelInUse c ch then
      s.modPulse a fun x => match ch with
        | .a => { x with filterA := filterAfter x.filterA x.levelA level (filterWidth c.minPulse) }
        | .b => { x with filterB := filterAfter x.filterB x.levelB level (filterWidth c.minPulse) }
    else s
  | .additive i =>
    if (s.injCfg i).used then
      s.modInj i fun x => { x with filter := filterAfter x.filter x.level level Config.additiveFilterTicks }
    else s

/-- PULSE_PIN_CHANGE (R3). -/
def execPulsePinChange (pin : PulsePin) (level : Bool) (s : State) : Host.Outcome State Fault Refusal :=
  onPin (setPulsePin pin level) (followPin pin level) s

/-- The filtered level of a channel taken at the end of its filter width. -/
def PulseInput.setLevel (x : PulseInput) (ch : Channel) (level : Bool) : PulseInput :=
  match ch with
  | .a => { x with levelA := level, filterA := none }
  | .b => { x with levelB := level, filterB := none }

/-- An A edge counted (R5); the flag says that this edge saturates the count. -/
def PulseInput.countEdge (x : PulseInput) : PulseInput × Bool :=
  if x.saturated then (x, false)
  else if x.count + 1 < 65535 then ({ x with count := x.count + 1 }, false)
  else ({ x with count := 65535, saturated := true }, true)

/-- A violation (R8, R9): the score rises by 16 and is cut back to 0 at 256, which the flag says. -/
def PulseInput.violation (x : PulseInput) : PulseInput × Bool :=
  if 256 ≤ x.score + 16 then ({ x with score := 0, cleanPairs := 0, locked := false }, true)
  else ({ x with score := x.score + 16, cleanPairs := 0, locked := false }, false)

/-- A clean pair (R8, R9). -/
def PulseInput.cleanPair (x : PulseInput) : PulseInput :=
  { x with score := x.score - 1, cleanPairs := satSucc 64 x.cleanPairs
           locked := if 64 ≤ satSucc 64 x.cleanPairs then true else x.locked }

/-- The pattern check of an edge by the table of R7; the flag says that METER_PULSE is raised. -/
def PulseInput.pattern (x : PulseInput) (ch : Channel) : PulseInput × Bool :=
  match ch, x.last with
  | .a, .none => ({ x with last := .a }, false)
  | .b, .none => ({ x with last := .b }, false)
  | .a, .a => x.violation
  | .b, .a => ({ x.cleanPair with last := .b }, false)
  | .a, .b => ({ x with last := .a }, false)
  | .b, .b => x.violation

/-- METER_PULSE raised when the flag says so (R5, R8). -/
def raiseMeterPulse (a : ArmNo) (raised : Bool) (s : State) : State :=
  if raised then s.push (.event (.meterPulse a)) else s

/-- A pulse arrival at the arm controller (R6, R48, R59). -/
def pulseArrival (a : ArmNo) (s : State) : State :=
  let s := s.modArm a fun x => { x with quiet := 0 }
  match s.arms[a].state, s.arms[a].noFlowTimer with
  | .lowStart, some _ => setNoFlowCond a false (startNoFlow a s)
  | _, _ => s

/-- An accepted rising edge of a channel in use (R3 to R9). -/
def risingEdge (a : ArmNo) (ch : Channel) (s : State) : State :=
  let c := s.armCfg a
  if channelInUse c ch then
    let s := s.modPulse a fun x => x.setLevel ch true
    let s := match ch with
      | .a =>
        let r := s.pulses[a].countEdge
        raiseMeterPulse a r.2 (s.modPulse a fun _ => r.1)
      | .b => s
    let s := if c.dual then
        let r := s.pulses[a].pattern ch
        raiseMeterPulse a r.2 (s.modPulse a fun _ => r.1)
      else s
    match ch with
    | .a => pulseArrival a s
    | .b => s
  else s

/-- ACCEPTED_RISING_EDGE (R3). -/
def execAcceptedRisingEdge (arm : ArmNo) (channel : Channel) (s : State) : Host.Outcome State Fault Refusal :=
  inService (fun s => risingEdge arm channel (setPulsePin (.product arm channel) true s)) s

/-- An accepted falling edge changes the filtered level and nothing else (R3, R69). -/
def fallingEdge (p : PulsePin) (s : State) : State :=
  match p with
  | .product a ch =>
    if channelInUse (s.armCfg a) ch then s.modPulse a fun x => x.setLevel ch false else s
  | .additive i =>
    if (s.injCfg i).used then s.modInj i fun x => { x with level := false, filter := none } else s

/-- ACCEPTED_FALLING_EDGE (R3). -/
def execAcceptedFallingEdge (pin : PulsePin) (s : State) : Host.Outcome State Fault Refusal :=
  inService (fun s => fallingEdge pin (setPulsePin pin false s)) s

/-- The initial values of a pulse input put into service under an ARM record (R12). A channel not in use takes the
pin's level too (assumption 50). -/
def initialPulse (c : ArmCfg) (pinA pinB : Bool) : PulseInput :=
  { levelA := pinA, levelB := pinB, filterA := none, filterB := none, count := 0, saturated := false
    last := .none, cleanPairs := 0, score := 0, locked := !(c.used && c.dual) }

/-! ### Temperature lines -/

/-- The probe fault condition set, a change reported to the arm's TEMP_PROBE instance (R14). -/
def setProbeFault (a : ArmNo) (present : Bool) (s : State) : State :=
  if s.temps[a].fault = present then s
  else (s.modTemp a fun x => { x with fault := present }).push (.condition (.tempProbe a) present)

/-- The corrected reading of a record, with its good test (R13). -/
def correct (offset : Int) (r : ReadingRecord) : Reading :=
  let v := r.reading.toInt + offset
  { corrected := v, status := r.status, good := r.status = .good && -4000 ≤ v && v ≤ 9000 }

/-- A record arrival at a used arm (R13, R14). -/
def recordArrival (a : ArmNo) (r : ReadingRecord) (s : State) : State :=
  if (s.armCfg a).used then
    let x := correct (s.armCfg a).tempOffset r
    let s := s.modTemp a fun t =>
      { t with lastReading := some x, lastGood := if x.good then some x.corrected else t.lastGood
               recordTimer := some (Timer.start Config.recordTicks) }
    setProbeFault a (!x.good) s
  else s

/-- READING_RECORD (R13): a record that fails its form check is dropped. -/
def execReadingRecord (arm : ArmNo) (record : Option ReadingRecord) (s : State) :
    Host.Outcome State Fault Refusal :=
  inService (fun s => match record with
    | some r => recordArrival arm r s
    | none => s) s

/-- The record timer reaches 2.0 s (R14). -/
def recordTimerAt (a : ArmNo) (s : State) : State :=
  if isRunning s.temps[a].recordTimer then
    let s := s.modTemp a fun t => { t with recordTimer := t.recordTimer.map Timer.atLimit }
    if (s.armCfg a).used then setProbeFault a true s else s
  else s

/-- RECORD_TIMER_EXPIRY (R14). -/
def execRecordTimerExpiry (arm : ArmNo) (s : State) : Host.Outcome State Fault Refusal :=
  inService (recordTimerAt arm) s

/-! ### The metering interval -/

/-- The whole of one expiry under a configuration (R19 to R33): computation and accumulation, the report to the arm,
the posting of shots by the state the expiry was accounted under, the flow activity event. -/
def interval (cfg : Configuration) (a : ArmNo) (s : State) : State :=
  let n := handedCount cfg s a
  let locked := s.pulses[a].locked
  let st := s.arms[a].state
  let s := account cfg a s
  let s := armReport a s.meters[a].q locked s
  let s := postShots a st s
  match cfg.arms[a].bay with
  | some b => if 0 < n then activity b .flow s else s
  | none => s

/-- INTERVAL_EXPIRY (R19). -/
def execIntervalExpiry (arm : ArmNo) (s : State) : Host.Outcome State Fault Refusal :=
  inService (fun s => interval s.cfg arm s) s

end Sys2Proof.Machine
end

