-- ==== Sys2Proof/Machine/RackEvents.lean ====
section
/-! DEFINITION. The rack's own inputs and timers, and the host messages to the supervision unit and the bays:
ESTOP_INPUT_CHANGE, RACK_RESET, FILTER_TIMER_EXPIRY, TRIP_DELAY_EXPIRY, SUPERVISION_CLEAR, TRIP_REQUEST, TRIP_CLEAR,
SESSION_END (R117, R129 to R143, R178). -/

namespace Sys2Proof.Machine

/-! ### Inputs and timers -/

/-- The ESTOP input takes a level after its filter. -/
def setEstopPin (level : Bool) (s : State) : State := { s with pins := { s.pins with estop := level } }

/-- ESTOP_INPUT_CHANGE (R129): active low. -/
def execEstopInputChange (level : Bool) (s : State) : Host.Outcome State Fault Refusal :=
  onPin (setEstopPin level) (fun s => s.push (.condition .estop (!level))) s

/-- A trip clear in TRIPPED (R143). -/
def tripClearInTripped (s : State) : State := if tripBlocked s then s else setMode .run s

/-- The RACK RESET input takes a level after its filter. -/
def setResetPin (level : Bool) (s : State) : State := { s with pins := { s.pins with resetKey := level } }

/-- A turn of the RACK RESET key: all 83 instances cleared, then a trip clear in TRIPPED (R138). -/
def rackResetAt (s : State) : State :=
  let s := (clearAll allInsts s).1
  if s.mode = .tripped then tripClearInTripped s else s

/-- RACK_RESET (R138). -/
def execRackReset (held : Bool) (s : State) : Host.Outcome State Fault Refusal :=
  onPin (setResetPin held) rackResetAt s

/-- FILTER_TIMER_EXPIRY (R130). -/
def execFilterTimerExpiry (inst : InstId) (s : State) : Host.Outcome State Fault Refusal :=
  inService (filterExpiry inst) s

/-- TRIP_DELAY_EXPIRY (R142). -/
def execTripDelayExpiry (s : State) : Host.Outcome State Fault Refusal :=
  inService secondStage s

/-! ### Host messages -/

/-- The instance of a kind code and unit number, within their ranges (R127, R137). -/
def instOf (kind unit : Nat) : Option InstId :=
  match kind with
  | 1 => if unit = 1 then some .estop else none
  | 2 => (unitOf 4 unit).map .ground
  | 3 => (unitOf 4 unit).map .overfill
  | 4 => (unitOf 4 unit).map .vapour
  | 5 => (unitOf 4 unit).map .deadman
  | 6 => (unitOf 8 unit).map .valve
  | 7 => (unitOf 8 unit).map .noFlow
  | 8 => (unitOf 8 unit).map .meterPulse
  | 9 => (unitOf 8 unit).map .tempProbe
  | 10 => (unitOf 8 unit).map .overrun
  | 11 => (unitOf 8 unit).map .leak
  | 12 => (unitOf 6 unit).map .injNoFlow
  | 13 => (unitOf 6 unit).map .injDose
  | 14 => (unitOf 6 unit).map .injLeak
  | _ => none

/-- What a SUPERVISION CLEAR names (R137). -/
inductive ClearScope where
  | one (i : InstId) | unit (x : Scope) | all
  deriving DecidableEq, Repr

/-- The scope of a SUPERVISION CLEAR body: scope, kind code, unit number, the bytes a scope does not use being 0
(R137, R184). -/
def parseClear (body : List Byte) : Option ClearScope :=
  let kind := fld body 1 1
  let unit := fld body 2 1
  if body.length ≠ 3 then none
  else match fld body 0 1 with
    | 1 => (instOf kind unit).map .one
    | 2 => if kind = 0 ∧ unit = 0 then some (.unit .rack) else none
    | 3 => if kind = 0 then (unitOf 4 unit).map fun b => .unit (.bay b) else none
    | 4 => if kind = 0 then (unitOf 8 unit).map fun a => .unit (.arm a) else none
    | 5 => if kind = 0 then (unitOf 6 unit).map fun i => .unit (.inj i) else none
    | 6 => if kind = 0 ∧ unit = 0 then some .all else none
    | _ => none

/-- The instances a SUPERVISION CLEAR covers. -/
def ClearScope.insts : ClearScope → List InstId
  | .one i => [i]
  | .unit x => allInsts.filter fun i => i.scope = x
  | .all => allInsts

/-- A named instance that is ACTIVE, or LATCHED with its condition present (R137). -/
def holdsOut (x : Instance) : Bool := x.state = .active || (x.state = .latched && x.cond)

/-- The owner's part of SUPERVISION CLEAR (R137). -/
def clearOwner (body : List Byte) (s : State) : State × Answer :=
  match parseClear body with
  | none => s.answer .format
  | some x =>
    let blocked := match x with
      | .one i => holdsOut (s.inst i)
      | _ => false
    if blocked then s.answer .condition
    else
      let r := clearAll x.insts s
      r.1.okBytes (be 1 r.2.1 ++ be 1 r.2.2)

/-- SUPERVISION_CLEAR (R137). -/
def execSupervisionClear (body : List Byte) (s : State) : Host.Outcome State Fault Refusal :=
  request 0x70 (clearOwner body) s

/-- The owner's part of TRIP REQUEST (R139). -/
def tripRequestOwner (s : State) : State × Answer :=
  match s.mode with
  | .run => (startTrip .host s).answer .ok
  | .tripping => s.answer .tripActive
  | .tripped => s.answer .ok
  | _ => s.answer .mode

/-- TRIP_REQUEST (R139, R178). -/
def execTripRequest (dest : Dest) (body : List Byte) (s : State) : Host.Outcome State Fault Refusal :=
  requestTo dest 0x71 (noBody body tripRequestOwner) s

/-- The owner's part of TRIP CLEAR (R143). -/
def tripClearOwner (s : State) : State × Answer :=
  match s.mode with
  | .run => s.answer .ok
  | .tripping => s.answer .tripActive
  | .tripped => if tripBlocked s then s.answer .condition else (setMode .run s).answer .ok
  | _ => s.answer .mode

/-- TRIP_CLEAR (R143, R178). -/
def execTripClear (body : List Byte) (s : State) : Host.Outcome State Fault Refusal :=
  request 0x72 (noBody body tripClearOwner) s

/-- The owner's part of SESSION END (R117). -/
def sessionEndOwner (body : List Byte) (s : State) : State × Answer :=
  match unitOf 4 (fld body 0 1) with
  | some b =>
    if body.length ≠ 1 then s.answer .format
    else if (s.session b).isNone then s.answer .notFound
    else (endSession b .hostEnd s).answer .ok
  | none => s.answer .format

/-- SESSION_END (R117, R178). -/
def execSessionEnd (body : List Byte) (s : State) : Host.Outcome State Fault Refusal :=
  request 0x50 (sessionEndOwner body) s

end Sys2Proof.Machine
end

