-- ==== Sys2Proof/Machine/Setup.lean ====
section
/-! DEFINITION. Setup control: SETUP OPEN and its decision, CONFIG PUT and CONFIG READ, the setup timer, the
validation and the commit of SETUP CLOSE, SETUP ABANDON (R158 to R166), with what each block does with a changed record
(R12, R17, R39, R56, R60, R84). -/

namespace Sys2Proof.Machine

/-! ### Opening (R160) -/

/-- The session query of a SETUP OPEN taken in RUN: each bay answers whether a session is open, and the request waits
for the decision. -/
def setupQuery (s : State) : State :=
  ({ s with setup := { s.setup with query := some (vmap (fun (b : Bay) => b.session.isSome) s.bays) } }).modLine fun l =>
    { l with reply := some .awaitingDecision }

/-- The owner's part of SETUP OPEN in a mode other than RUN. -/
def setupOpenOwner (s : State) : State × Answer :=
  match s.mode with
  | .tripping => s.answer .tripActive
  | _ => s.answer .mode

/-- SETUP_OPEN (R160). -/
def execSetupOpen (body : List Byte) (s : State) : Host.Outcome State Fault Refusal :=
  .next (receiveFrame (fun s =>
    if s.mode = .run ∧ body = [] then setupQuery s else addressed 0x20 (noBody body setupOpenOwner) s) s)

/-- The mode changes to SETUP with a working copy of the active configuration (R160). -/
def enterSetup (s : State) : State :=
  setMode .setup { s with setup := { s.setup with working := s.setup.active, timer := none } }

/-- The decision of a SETUP OPEN, and the bays told (R160). -/
def decideSetupOpen (s : State) : State :=
  match s.setup.query with
  | none => s
  | some answers =>
    let s := { s with setup := { s.setup with query := none } }
    if answers.toList.any id then sendReply 0x20 (.busy, .bytes []) s
    else if s.mode ≠ .run then sendReply 0x20 (.tripActive, .bytes []) s
    else sendReply 0x20 (.ok, .bytes []) (enterSetup s)

/-- SETUP_OPEN_DECISION (R160). -/
def execSetupOpenDecision (s : State) : Host.Outcome State Fault Refusal := inService decideSetupOpen s

/-! ### The working copy (R161 to R163) -/

/-- The length of a record of a kind (R182). -/
def recordLength (kind : Nat) : Option Nat :=
  match kind with
  | 1 => some 8
  | 2 => some 14
  | 3 => some 61
  | 4 => some 25
  | 5 => some 11
  | 6 => some 6
  | _ => none

/-- The body length test of the interface on CONFIG PUT: wrong for the kind it names (R173). -/
def recordLengthWrong (body : List Byte) : Bool :=
  match recordLength (fld body 0 1) with
  | some n => body.length ≠ n
  | none => body.length < 2

/-- The owner's part of CONFIG PUT (R161). -/
def configPutOwner (body : List Byte) (s : State) : State × Answer :=
  if recordLengthWrong body then s.answer .format
  else match s.mode, s.setup.working with
    | .setup, some w =>
      match parseRecord body with
      | some r =>
        ({ s with setup := { s.setup with
            working := some (w.put r)
            timer := match s.setup.timer with
              | some t => some t
              | none => some (Timer.start Config.setupTicks) } } : State).answer .ok
      | none => s.answer .format
    | _, _ => s.answer .mode

/-- CONFIG_PUT (R161). -/
def execConfigPut (body : List Byte) (s : State) : Host.Outcome State Fault Refusal :=
  request 0x21 (configPutOwner body) s

/-- The copy CONFIG READ reads (R162). -/
def readCopy (s : State) : Option Configuration :=
  if s.mode = .setup then s.setup.working else s.setup.active

/-- The digest of the copy read, 0 without one (R162). -/
def readDigest (s : State) : BitVec 16 :=
  match readCopy s with
  | some c => c.digestOf
  | none => 0

/-- The owner's part of CONFIG READ (R162). -/
def configReadOwner (body : List Byte) (s : State) : State × Answer :=
  let kind := fld body 0 1
  let index := fld body 1 1
  if body.length ≠ 2 then s.answer .format
  else if kind = 0 then
    if index = 0 then
      s.okBytes (be 2 (readDigest s).toNat ++ boolByte s.setup.active.isSome ++ be 2 s.setup.digest.toNat)
    else s.answer .format
  else if (Configuration.factory.record kind index).isNone then s.answer .format
  else match readCopy s with
    | none => s.answer .notFound
    | some c =>
      match c.record kind index with
      | some r => s.okBytes r.bytes
      | none => s.answer .format

/-- CONFIG_READ (R162). -/
def execConfigRead (body : List Byte) (s : State) : Host.Outcome State Fault Refusal :=
  request 0x22 (configReadOwner body) s

/-- The setup timer reaches 900 s (R163). -/
def setupTimerAt (s : State) : State :=
  if s.mode = .setup ∧ isRunning s.setup.timer = true then
    setMode .setupLocked { s with setup := { s.setup with working := none, timer := none } }
  else s

/-- SETUP_TIMER_EXPIRY (R163). -/
def execSetupTimerExpiry (s : State) : Host.Outcome State Fault Refusal := inService setupTimerAt s

/-! ### Validation (R164) -/

/-- The flows of the points in use rise strictly (R164 check 4). -/
def strictlyRising : List MfPoint → Bool
  | p :: r :: rest => p.flow < r.flow && strictlyRising (r :: rest)
  | _ => true

/-- How many ARM records name the bay. -/
def armsNaming (c : Configuration) (b : BayNo) : Nat := allArms.countP fun a => c.arms[a].bay = some b

/-- The injectors named by a product's entries serve every used arm that carries the product (R164 check 7). -/
def entryServed (c : Configuration) (p : ProductNo) (e : AdditiveEntry) : Bool :=
  match e.inj with
  | none => true
  | some i => allArms.all fun a =>
      !(c.arms[a].used && maskHas c.arms[a].productMask p) || maskHas c.injectors[i].armMask a

/-- The first check a record fails, by its number (R164). -/
def failedCheck (c : Configuration) : CfgRecord → Option Nat
  | .bay b r =>
    if r.abandon ≤ r.attention then some 1
    else if 4 < armsNaming c b then some 2
    else if r.enabled ∧ armsNaming c b = 0 then some 3
    else none
  | .arm _ r =>
    if r.used ∧ strictlyRising r.table = false then some 4
    else if r.closeAheadMax < r.closeAheadInitial then some 5
    else if r.used ∧ allProducts.any (fun p => maskHas r.productMask p && !c.products[p].enabled) = true then some 6
    else none
  | .product p r =>
    if r.enabled ∧ (entryServed c p r.entry1 && entryServed c p r.entry2) = false then some 7 else none
  | _ => none

/-- A record's kind and index as INVALID carries them (R164, R184). -/
def CfgRecord.place : CfgRecord → Nat × Nat
  | .rack _ => (1, 1)
  | .bay b _ => (2, unitNo b)
  | .arm a _ => (3, unitNo a)
  | .product p _ => (4, unitNo p)
  | .injector i _ => (5, unitNo i)
  | .sup k _ => (6, unitNo k)

/-- The first failure in serialisation order (R164). -/
def validation (c : Configuration) : Option (Nat × Nat × Nat) :=
  c.records.findSome? fun r => (failedCheck c r).map fun n => (r.place.1, r.place.2, n)

/-! ### The commit (R165) -/

/-- An ARM record's serialised bytes differ from the active configuration's; every record is changed when that was
invalid (R165). -/
def armRecordChanged (old : Option Configuration) (c : Configuration) (a : ArmNo) : Bool :=
  match old with
  | none => true
  | some o => (CfgRecord.arm a o.arms[a]).bytes ≠ (CfgRecord.arm a c.arms[a]).bytes

/-- The same for an INJECTOR record. -/
def injRecordChanged (old : Option Configuration) (c : Configuration) (i : InjNo) : Bool :=
  match old with
  | none => true
  | some o => (CfgRecord.injector i o.injectors[i]).bytes ≠ (CfgRecord.injector i c.injectors[i]).bytes

/-- An arm put into service, or made used, starts its checks (R60); its state, command and compartment stand. -/
def Arm.putIntoService (x : Arm) (travel : Nat) : Arm :=
  { x with waiting := false, quiet := 0, closingLimit := none, travel := some (Timer.start travel)
           valveCond := false, noFlowTimer := none, noFlowCond := false, outstanding := 0, lastStop := .none }

/-- A changed arm's controller takes its record (R56, R60). -/
def retakeArm (wasUsed : Bool) (a : ArmNo) (s : State) : State :=
  let c := s.armCfg a
  let s := s.modArm a fun x => { x with closeAhead := c.closeAheadInitial }
  if c.used then
    if wasUsed then restartTravel a s
    else s.modArm a fun x => x.putIntoService (c.valveTravel * ticksPerTenth)
  else if !wasUsed then restartTravel a s
  else setValveCond a false (setNoFlowCond a false (s.modArm a fun x => { x with travel := none, noFlowTimer := none }))

/-- A changed arm's temperature receiver takes its record: it keeps its state, but for an arm made used or made unused
(R17). -/
def retakeTemp (wasUsed : Bool) (a : ArmNo) (s : State) : State :=
  if (s.armCfg a).used then
    if wasUsed then s else s.modTemp a fun _ => TempReceiver.blank
  else if !wasUsed then s
  else setProbeFault a false (s.modTemp a fun t => { t with lastReading := none, lastGood := none, recordTimer := none })

/-- A changed ARM record taken by the arm's blocks, after the early expiry (R12, R17, R39, R60). -/
def retakeArmRecord (wasUsed : Bool) (a : ArmNo) (s : State) : State :=
  let s := s.modPulse a fun _ => initialPulse (s.armCfg a) s.pins.pulseA[a] s.pins.pulseB[a]
  let s := s.modMeter a fun m => { m with interval := 0, rG := 0, rS := 0 }
  retakeArm wasUsed a (retakeTemp wasUsed a s)

/-- A changed INJECTOR record taken by its injector (R84); the noise filter of an injector made used starts from the
pin's level (assumption 38). -/
def retakeInjRecord (wasUsed : Bool) (i : InjNo) (s : State) : State :=
  let s := s.modInj i fun x => { x with carry := 0, badCount := 0, leakPulses := 0 }
  if wasUsed then s else s.modInj i fun x => { x with filter := none, level := s.pins.additive[i] }

/-- The commit of a new configuration, in one operation (R165): the early expiries under the old records (R39), the
new records and digest, the blocks told, and RUN with the examination of the instances (R139, R158). -/
def commit (c : Configuration) (digest : BitVec 16) (s : State) : State :=
  let old := s.setup.active
  let oldCfg := s.cfg
  let arms := allArms.filter (armRecordChanged old c)
  let injs := allInjs.filter (injRecordChanged old c)
  let s := s.each arms fun s a => interval oldCfg a s
  let s := { s with setup := { active := some c, digest := digest, working := none, timer := none, query := none } }
  let s := s.each arms fun s a => retakeArmRecord oldCfg.arms[a].used a s
  let s := s.each injs fun s i => retakeInjRecord oldCfg.injectors[i].used i s
  let s := drain Config.requestFuel s
  examineTrips (setMode .run s)

/-- The owner's part of SETUP CLOSE (R164, R165). -/
def setupCloseOwner (body : List Byte) (s : State) : State × Answer :=
  if body.length ≠ 2 then s.answer .format
  else match s.mode, s.setup.working with
    | .setup, some c =>
      match validation c with
      | some (kind, index, check) => (s, .invalid, .bytes (be 1 kind ++ be 1 index ++ be 1 check))
      | none =>
        if c.digestOf.toNat = fld body 0 2 then (commit c c.digestOf s).answer .ok else s.answer .digest
    | _, _ => s.answer .mode

/-- SETUP_CLOSE (R164, R165). -/
def execSetupClose (body : List Byte) (s : State) : Host.Outcome State Fault Refusal :=
  request 0x23 (setupCloseOwner body) s

/-- The owner's part of SETUP ABANDON (R166). -/
def setupAbandonOwner (s : State) : State × Answer :=
  match s.mode, s.setup.active with
  | .setup, some _ =>
    (examineTrips (setMode .run { s with setup := { s.setup with working := none, timer := none } })).answer .ok
  | _, _ => s.answer .mode

/-- SETUP_ABANDON (R166). -/
def execSetupAbandon (body : List Byte) (s : State) : Host.Outcome State Fault Refusal :=
  request 0x24 (noBody body setupAbandonOwner) s

end Sys2Proof.Machine
end

