-- ==== Sys2Proof/Machine/StartUp.lean ====
section
/-! DEFINITION. Power and start-up: POWER_UP, POWER_LOSS, RESTART and the reply it waits for, and the start-up
operation (R33, R38, R60, R84, R125, R144, R146, R156, R159, R168 to R170, R178, R179). -/

namespace Sys2Proof.Machine

/-! ### Losing and starting -/

/-- Everything volatile lost: every block at the value it has before start-up; pins, retained memory and the waiting
commands stay (R168 step 1, R170). -/
def blankVolatile (s : State) : State :=
  { State.reset with pending := s.pending, pins := s.pins, nv := s.nv }

/-- The strapped address; all open is read as 1 (spec/00, Pin summary; assumption 23). -/
def strapAddress (straps : BitVec 5) : Nat := if straps = 0 then 1 else straps.toNat

/-- The strapped baud rate (spec/00, Pin summary; assumption 23). -/
def strapBaud (straps : BitVec 2) : Nat :=
  match straps.toNat with
  | 0 => 9600
  | 1 => 19200
  | 2 => 38400
  | _ => 115200

/-- Start-up begins at step 1 (R168, R170, R179): the safe state, the straps read, the clock kept through RESTART. -/
def beginStartUp (cause : StartCause) (s : State) : State :=
  let x := blankVolatile s
  { x with
      phase := .starting cause
      line := { x.line with
        clock := if cause = .restart then s.line.clock else none
        subSecond := if cause = .restart then s.line.subSecond else 0
        address := strapAddress s.pins.addressStraps
        baud := strapBaud s.pins.baudStraps } }

/-- POWER_UP (R168): POWER-ON RESET is released. -/
def execPowerUp (s : State) : Host.Outcome State Fault Refusal := .next (beginStartUp .power s)

/-- Retained memory when the last `lost` writes did not take place (assumption 6). -/
def rollBack : Nat → Retained → List Retained → Retained
  | 0, nv, _ => nv
  | _, nv, [] => nv
  | n + 1, _, before :: rest => rollBack n before rest

/-- Supply is lost: what is volatile is gone, retained memory stands (R33, R86, R165). -/
def losePower (lost : Nat) (s : State) : State :=
  { blankVolatile s with phase := .off, nv := rollBack lost s.nv s.undo }

/-- POWER_LOSS (R33, R86, R165). -/
def execPowerLoss (lost : Nat) (s : State) : Host.Outcome State Fault Refusal := .next (losePower lost s)

/-- RESTART (R170, R178): taken in every mode; start-up begins when its reply has been sent. -/
def execRestart (body : List Byte) (s : State) : Host.Outcome State Fault Refusal :=
  request 0x7F (noBody body fun s => s.answer .ok) s

/-- The last byte of a reply has gone: the reply is no longer pending, and a RESTART answered OK is passed to setup
control (R173, R178). -/
def replyGone (s : State) : State :=
  match s.line.reply with
  | some (.sending r) =>
    if r.kind = 0x7F ∧ r.result = .ok then beginStartUp .restart s else s.modLine fun l => { l with reply := none }
  | _ => s

/-- REPLY_COMPLETE (R173, R178). -/
def execReplyComplete (s : State) : Host.Outcome State Fault Refusal := .next (onReceiver replyGone s)

/-! ### Reading retained memory (R168 step 2) -/

/-- A copy that fails its check is treated as absent. -/
def Retained.lose (x : Retained) : RetainedCopy → Retained
  | .configuration => { x with config := none }
  | .permits => { x with permits := none }
  | .notes => { x with notes := none }
  | .session b => { x with sessions := vset x.sessions b none }
  | .totals a => { x with totals := vset x.totals a none }
  | .closeAhead a => { x with closeAhead := vset x.closeAhead a none }
  | .tripState => { x with tripMode := false, tripCause := none }

/-- The active configuration: the retained copy, when the digest recomputed over it is the retained one (R159). -/
def validConfig (copy : Option (Configuration × BitVec 16)) : Option Configuration :=
  match copy with
  | some (c, d) => if c.digestOf = d then some c else none
  | none => none

/-- The retained active digest, 0 without a copy (assumption 21). -/
def retainedDigest (copy : Option (Configuration × BitVec 16)) : BitVec 16 :=
  match copy with
  | some (_, d) => d
  | none => 0

/-- The rack id of start-up's notes (R156). -/
def retainedRackId (copy : Option (Configuration × BitVec 16)) : Nat :=
  match copy with
  | some (c, _) => c.rack.rackId
  | none => 0

/-- The metering totals of an arm, 0 without a copy (R38). -/
def readTotals (t : Option Totals) : MeterEngine :=
  match t with
  | some t => { MeterEngine.blank with
      totaliser := t.totaliser, unattended := t.unattended, rG := t.rG, rS := t.rS }
  | none => MeterEngine.blank

/-- Every retained copy read into its block (R38, R60, R86, R144, R146, R159, R168). -/
def readRetained (s : State) : State :=
  let nv := s.nv
  let s := { s with
    setup := { active := validConfig nv.config, digest := retainedDigest nv.config, working := none, timer := none
               query := none }
    permits := nv.permits.getD []
    notes := { held := (nv.notes.getD ([], 1)).1, reserved := nv.sessions.toList.countP Option.isSome
               next := (nv.notes.getD ([], 1)).2 }
    bays := vmap (fun (x : Option Session) => { Bay.blank with session := x }) nv.sessions
    meters := vmap readTotals nv.totals
    trip := { s.trip with cause := nv.tripCause.getD .none } }
  { s with arms := vzip (fun (c : ArmCfg) (k : Option Nat) =>
      { Arm.blank with closeAhead := k.getD c.closeAheadInitial }) s.cfg.arms nv.closeAhead }

/-! ### Closing the retained sessions (R156, R168 step 3) -/

/-- A started compartment on an arm completes as STOPPED from its retained accumulators, without learning (R55, R57,
R60, R84). -/
def completeRetained (a : ArmNo) (r : CompRec) (s : State) : CompRec :=
  let overran := r.overrun || overrunNow (s.armCfg a) r.preset r.basis r
  let result := compResult r.acc s.meters[a].totaliser none overran r.valveNotConfirmed
  { (r.modLines AdditiveLine.closeAtStartUp) with
      state := .complete, endReason := some .stopped, result := some result, overrun := overran, active := false }

/-- One compartment of a retained session closed, its quota settled or its drip placed (R54, R103, R168). -/
def closeRetainedComp (b : BayNo) (permit : Nat) (s : State) (r : CompRec) : State :=
  match r.state, r.arm with
  | .onArm, some a =>
    if r.started then
      let done := completeRetained a r s
      let delivered := match done.result with
        | some x => x.standardDl
        | none => 0
      settle permit r.preset delivered (s.modComp b r.no fun _ => done)
    else
      (s.modMeter a fun m => { m with unattended := addModulo m.unattended r.acc.g }).modComp b r.no CompRec.released
  | .complete, _ => s.modComp b r.no fun r => r.modLines AdditiveLine.closeAtStartUp
  | _, _ => s

/-- The end cause of the sessions start-up closes (R156). -/
def StartCause.endCause : StartCause → EndCause
  | .power => .powerInterrupted
  | .restart => .restart

/-- One retained session closed and its note filed, as one retained write, whatever the permit table answers to the
close request (R94, R156, R168). -/
def closeRetained (cause : StartCause) (s : State) (b : BayNo) : State :=
  match s.session b with
  | none => s
  | some x =>
    let s := x.comps.foldl (closeRetainedComp b x.permit) s
    let comps := match s.session b with
      | some y => y.comps
      | none => []
    let note := buildNote b { x with comps := comps } (retainedRackId s.nv.config) s.line.clock cause.endCause
      (cause = .power)
    let s := { s with notes := s.notes.file note }
    let s := (closeRequest x.permit b (removeOrder x.order s)).1
    (s.modBay b fun y => { y with session := none }).write

/-- The permit clean-up (R168 step 4). -/
def cleanPermits (s : State) : State :=
  { s with permits := (s.permits.filter fun p => p.state ≠ .retiring).map fun p =>
      { p with openSession := none, reserved := 0 } }

/-! ### The end of start-up (R169) -/

/-- An arm put into service with its blocks (R12, R17, R60). -/
def startArm (s : State) (a : ArmNo) : State :=
  let c := s.armCfg a
  let s := s.modPulse a fun _ => initialPulse c s.pins.pulseA[a] s.pins.pulseB[a]
  let s := s.modTemp a fun _ => TempReceiver.blank
  s.modArm a fun x => { Arm.blank with closeAhead := x.closeAhead
                                       travel := some (Timer.start (c.valveTravel * ticksPerTenth)) }

/-- An injector put into service (R84). -/
def startInj (s : State) (i : InjNo) : State :=
  s.modInj i fun _ => { Injector.blank with level := s.pins.additive[i] }

/-- Every block put into service, ESTOP read (R12, R17, R38, R60, R64, R84, R125, R144, R169). -/
def putIntoService (s : State) : State :=
  let s := (s.each allArms startArm).each allInjs startInj
  let s := { s with
    phase := .service
    pumps := .replicate 8 Pump.blank
    bays := .replicate 4 Bay.blank
    sup := .replicate 83 Instance.blank
    orders := []
    notes := { s.notes with reserved := 0 }
    trip := { cause := s.trip.cause, delay := none, stageTwo := false, awaiting := [] }
    line := { s.line with link := .standalone, linkTimer := none } }
  s.push (.condition .estop (!s.pins.estop))

/-- The mode start-up ends in (R169). -/
def chosenMode (valid tripMode : Bool) : Mode :=
  if valid then (if tripMode then .tripped else .run) else .setup

/-- The working copy of a rack that starts in SETUP: the factory defaults (R169). -/
def startWorking (s : State) : State :=
  match s.setup.active with
  | some _ => s
  | none => { s with setup := { s.setup with working := some Configuration.factory } }

/-- The start-up operation after its first step (R168, R169). -/
def runStartUp (cause : StartCause) (damaged : List RetainedCopy) (s : State) : State :=
  let s := { s with nv := damaged.foldl Retained.lose s.nv }
  let tripMode := s.nv.tripMode
  let s := allBays.foldl (closeRetained cause) (readRetained s)
  let s := startWorking (putIntoService (cleanPermits s))
  settleCommand (setMode (chosenMode s.setup.active.isSome tripMode) s)

/-- START_UP (R168, R169): it follows power-up or RESTART; in service it has no effect. -/
def execStartUp (damaged : List RetainedCopy) (s : State) : Host.Outcome State Fault Refusal :=
  .next (match s.phase with
    | .starting cause => runStartUp cause damaged s.fresh
    | _ => s.fresh)

end Sys2Proof.Machine
end

