-- ==== Sys2Proof/Machine/Status.lean ====
section
/-! DEFINITION. The six status messages: RACK_STATUS, BAY_STATUS, ARM_STATUS, INJECTOR_STATUS, SUPERVISION_LIST,
TOTALISER_READ (R18, R40, R65, R85, R105, R126, R145, R157, R171, R177, R184). They read state and change none. -/

namespace Sys2Proof.Machine

/-- The time a timer has left. -/
def Timer.left (t : Timer) : Nat := t.limit - t.elapsed

/-- All instance states, in the order of R130. -/
def allInstStates : List InstState := [.normal, .filtering, .active, .recovering, .latched]

/-- All permit states, in code order (R183). -/
def allPermitStates : List PermitState := [.active, .suspended, .retiring]

/-- The fields of the RACK STATUS reply (R177). -/
def rackStatusOf (s : State) : RackStatus :=
  { mode := s.mode
    valid := s.setup.active.isSome
    digest := s.setup.digest
    setupRunning := s.mode = .setup && isRunning s.setup.timer
    setupLeft := if s.mode = .setup then s.setup.timer.map Timer.left else none
    tripCause := s.trip.cause
    tripDelayRun := if s.mode = .tripping then s.trip.delay.map Timer.elapsed else none
    instancesByState := allInstStates.map fun st => allInsts.countP fun i => (s.inst i).state = st
    pumps := vmap (fun (u : Pump) => ⟨u.state, u.demand, u.run⟩) s.pumps
    permits := s.permits.length
    permitsByState := allPermitStates.map fun st => s.permits.countP fun p => p.state = st
    orders := s.orders.length
    ordersPending := s.orders.countP fun o => !o.active && !o.orphaned
    ordersActive := s.orders.countP fun o => o.active
    ordersOrphaned := s.orders.countP fun o => o.orphaned
    notesHeld := s.notes.held.length
    notesReserved := s.notes.reserved
    notesFree := s.notes.free
    link := s.line.link
    linkLeft := s.line.linkTimer.map Timer.left
    clock := s.line.clock
    address := s.line.address
    baud := s.line.baud }

/-- RACK_STATUS (R177). -/
def execRackStatus (body : List Byte) (s : State) : Host.Outcome State Fault Refusal :=
  request 0x01 (noBody body fun s => (s, .ok, .rackStatus (rackStatusOf s))) s

/-- A compartment record as BAY STATUS shows it (R126): its number with the fields R126 names, and none of the others
(assumption 55). -/
def compReport (r : CompRec) : CompReport :=
  { no := r.no, state := r.state, arm := r.arm, started := r.started, endReason := r.endReason
    deliveredDl := r.result.map fun x => x.deliveredOn r.basis }

/-- The session's part of BAY STATUS (R105, R126, R157). -/
def sessionReport (b : BayNo) (x : Session) (s : State) : SessionReport :=
  let y := s.bays[b]
  { state := x.state, endCause := x.endCause, permit := x.permit, carrier := x.carrier, order := x.order
    vehicle := x.vehicle, comps := x.comps.map compReport, slotReserved := x.slotReserved, start := x.start
    attentionLeft := y.attention.map Timer.left, abandonLeft := y.abandon.map Timer.left
    attentionFlag := y.attentionFlag, deadman := y.deadman.map Timer.elapsed
    windowOpen := match y.deadman with
      | some t => windowTicks (s.bayCfg b) ≤ t.elapsed
      | none => false
    violations := y.violations }

/-- The fields of the BAY STATUS reply (R126). -/
def bayStatusOf (b : BayNo) (s : State) : BayStatus :=
  { session := (s.session b).map fun x => sessionReport b x s
    groundLevel := s.pins.ground[b], overfillLevel := s.pins.overfill[b], vapourLevel := s.pins.vapour[b]
    deadmanLevel := s.pins.deadman[b]
    groundPresent := permitPresent s b .ground, overfillPresent := permitPresent s b .overfill
    vapourPresent := permitPresent s b .vapour
    lastPrompt := s.bays[b].lastPrompt }

/-- A status message that names one unit: an argument outside its range is answered FORMAT (R177). -/
def unitStatus (n : Nat) (body : List Byte) (reply : Fin n → State → ReplyBody) (s : State) : State × Answer :=
  match unitOf n (fld body 0 1) with
  | some u => if body.length = 1 then (s, .ok, reply u s) else s.answer .format
  | none => s.answer .format

/-- BAY_STATUS (R126). -/
def execBayStatus (body : List Byte) (s : State) : Host.Outcome State Fault Refusal :=
  request 0x02 (unitStatus 4 body fun b s => .bayStatus (bayStatusOf b s)) s

/-- The compartment's part of ARM STATUS (R40, R65, R85). The compare points are carried in µL, as the arm holds them
(assumption 49). -/
def onArmReport (oc : OnArm) (r : CompRec) : OnArmReport :=
  { comp := oc, g := r.acc.g, s := r.acc.s, grossDl := deciOf r.acc.g, standardDl := deciOf r.acc.s
    tempHeld := r.acc.tempHeld, vcfLimited := r.acc.vcfLimited, overrun := r.overrun
    valveNotConfirmed := r.valveNotConfirmed, lines := r.lines }

/-- The fields of the ARM STATUS reply (R18, R40, R65, R85). -/
def armStatusOf (a : ArmNo) (s : State) : ArmStatus :=
  let x := s.arms[a]
  let p := s.pulses[a]
  let t := s.temps[a]
  let m := s.meters[a]
  { locked := p.locked, score := p.score, cleanPairs := p.cleanPairs, lastReading := t.lastReading
    temperature := tempValue s a, tempHeld := tempIsHeld s a, probeFault := t.fault
    q := m.q, lastMf := m.lastMf, lastVcf := m.lastVcf, unattended := m.unattended, leak := m.leak
    state := x.state, command := x.command
    comp := match x.comp, s.armComp a with
      | some oc, some r => some (onArmReport oc r)
      | _, _ => none
    closeAhead := x.closeAhead, waitEnded := !x.waiting
    closedSwitch := s.pins.closedSwitch[a], openSwitch := s.pins.openSwitch[a]
    valveCond := x.valveCond, noFlowCond := x.noFlowCond, outstanding := x.outstanding, lastStop := x.lastStop }

/-- ARM_STATUS (R177). -/
def execArmStatus (body : List Byte) (s : State) : Host.Outcome State Fault Refusal :=
  request 0x03 (unitStatus 8 body fun a s => .armStatus (armStatusOf a s)) s

/-- The fields of the INJECTOR STATUS reply (R85). -/
def injectorStatusOf (i : InjNo) (s : State) : InjectorStatus :=
  let x := s.injectors[i]
  { state := x.state, solenoidOpen := x.solenoidOpen, queue := x.queue.map fun q => (q.arm, q.line, q.k)
    current := x.current, carry := x.carry, badCount := x.badCount, leakVolume := leakVolume x (s.injCfg i)
    started := x.started, shortfalls := x.shortfalls, refused := x.refused }

/-- INJECTOR_STATUS (R85). -/
def execInjectorStatus (body : List Byte) (s : State) : Host.Outcome State Fault Refusal :=
  request 0x04 (unitStatus 6 body fun i s => .injectorStatus (injectorStatusOf i s)) s

/-- An instance as SUPERVISION LIST shows it (R145). -/
def instanceReport (s : State) (i : InstId) : InstanceReport :=
  let x := s.inst i
  { inst := i, state := x.state, cond := if i.level then some x.cond else none
    timerRun := match x.state with
      | .filtering => x.timer.map Timer.elapsed
      | .recovering => x.timer.map Timer.elapsed
      | _ => none
    count := x.count, cls := (s.supCfg i).cls, trip := (s.supCfg i).trip }

/-- SUPERVISION_LIST (R145). -/
def execSupervisionList (body : List Byte) (s : State) : Host.Outcome State Fault Refusal :=
  request 0x05 (noBody body fun s => (s, .ok, .supervisionList (allInsts.map (instanceReport s)))) s

/-- The totalisers of meters 1 to 8, 8 bytes each (R40, R184). -/
def totaliserBytes (s : State) : List Byte := s.meters.toList.flatMap fun m => be 8 m.totaliser

/-- TOTALISER_READ (R40). -/
def execTotaliserRead (body : List Byte) (s : State) : Host.Outcome State Fault Refusal :=
  request 0x06 (noBody body fun s => s.okBytes (totaliserBytes s)) s

end Sys2Proof.Machine
end

