-- ==== Sys2Proof/Machine/Dispatch.lean ====
section
/-! DEFINITION. The dispatch: one arm for each command, in the order of spec/opcode_table.json. -/

namespace Sys2Proof.Machine

/-- The effect of a command on everything but the queue of waiting commands. -/
def exec (i : Instr) (s : State) : Host.Outcome State Fault Refusal :=
  match i with
  | .powerUp => Sys2Proof.Machine.execPowerUp s
  | .startUp damaged => Sys2Proof.Machine.execStartUp damaged s
  | .acceptedRisingEdge arm channel => Sys2Proof.Machine.execAcceptedRisingEdge arm channel s
  | .acceptedFallingEdge pin => Sys2Proof.Machine.execAcceptedFallingEdge pin s
  | .pulsePinChange pin level => Sys2Proof.Machine.execPulsePinChange pin level s
  | .readingRecord arm record => Sys2Proof.Machine.execReadingRecord arm record s
  | .recordTimerExpiry arm => Sys2Proof.Machine.execRecordTimerExpiry arm s
  | .intervalExpiry arm => Sys2Proof.Machine.execIntervalExpiry arm s
  | .valveSwitchChange arm switch level => Sys2Proof.Machine.execValveSwitchChange arm switch level s
  | .travelAllowanceExpiry arm => Sys2Proof.Machine.execTravelAllowanceExpiry arm s
  | .quietTimerExpiry arm => Sys2Proof.Machine.execQuietTimerExpiry arm s
  | .closingLimitExpiry arm => Sys2Proof.Machine.execClosingLimitExpiry arm s
  | .noFlowTimerExpiry arm => Sys2Proof.Machine.execNoFlowTimerExpiry arm s
  | .compartmentCompletion arm => Sys2Proof.Machine.execCompartmentCompletion arm s
  | .pumpStartDelayReached arm => Sys2Proof.Machine.execPumpStartDelayReached arm s
  | .stopDelayExpiry pump => Sys2Proof.Machine.execStopDelayExpiry pump s
  | .additivePulse inj => Sys2Proof.Machine.execAdditivePulse inj s
  | .shotTimeLimit inj => Sys2Proof.Machine.execShotTimeLimit inj s
  | .settleTimeExpiry inj => Sys2Proof.Machine.execSettleTimeExpiry inj s
  | .bayPermitChange bay permit level => Sys2Proof.Machine.execBayPermitChange bay permit level s
  | .deadmanPress bay held => Sys2Proof.Machine.execDeadmanPress bay held s
  | .deadmanWindowOpens bay => Sys2Proof.Machine.execDeadmanWindowOpens bay s
  | .deadmanLate bay => Sys2Proof.Machine.execDeadmanLate bay s
  | .attentionTimerExpiry bay => Sys2Proof.Machine.execAttentionTimerExpiry bay s
  | .abandonTimerExpiry bay => Sys2Proof.Machine.execAbandonTimerExpiry bay s
  | .noteFiling bay => Sys2Proof.Machine.execNoteFiling bay s
  | .card bay token => Sys2Proof.Machine.execCard bay token s
  | .select bay comp arm => Sys2Proof.Machine.execSelect bay comp arm s
  | .start bay arm => Sys2Proof.Machine.execStart bay arm s
  | .resume bay arm => Sys2Proof.Machine.execResume bay arm s
  | .stop bay arm => Sys2Proof.Machine.execStop bay arm s
  | .finish bay arm => Sys2Proof.Machine.execFinish bay arm s
  | .endKey bay => Sys2Proof.Machine.execEndKey bay s
  | .resetKey bay => Sys2Proof.Machine.execResetKey bay s
  | .malformedRecord bay bytes => Sys2Proof.Machine.execMalformedRecord bay bytes s
  | .estopInputChange level => Sys2Proof.Machine.execEstopInputChange level s
  | .rackReset held => Sys2Proof.Machine.execRackReset held s
  | .filterTimerExpiry inst => Sys2Proof.Machine.execFilterTimerExpiry inst s
  | .tripDelayExpiry => Sys2Proof.Machine.execTripDelayExpiry s
  | .setupTimerExpiry => Sys2Proof.Machine.execSetupTimerExpiry s
  | .setupOpenDecision => Sys2Proof.Machine.execSetupOpenDecision s
  | .linkTimeout => Sys2Proof.Machine.execLinkTimeout s
  | .clockSecond => Sys2Proof.Machine.execClockSecond s
  | .interByteGap => Sys2Proof.Machine.execInterByteGap s
  | .lineIdle => Sys2Proof.Machine.execLineIdle s
  | .frameDiscarded bytes => Sys2Proof.Machine.execFrameDiscarded bytes s
  | .replyComplete => Sys2Proof.Machine.execReplyComplete s
  | .unknownKind kind body => Sys2Proof.Machine.execUnknownKind kind body s
  | .rackStatus body => Sys2Proof.Machine.execRackStatus body s
  | .bayStatus body => Sys2Proof.Machine.execBayStatus body s
  | .armStatus body => Sys2Proof.Machine.execArmStatus body s
  | .injectorStatus body => Sys2Proof.Machine.execInjectorStatus body s
  | .supervisionList body => Sys2Proof.Machine.execSupervisionList body s
  | .totaliserRead body => Sys2Proof.Machine.execTotaliserRead body s
  | .clockSet dest body => Sys2Proof.Machine.execClockSet dest body s
  | .setupOpen body => Sys2Proof.Machine.execSetupOpen body s
  | .configPut body => Sys2Proof.Machine.execConfigPut body s
  | .configRead body => Sys2Proof.Machine.execConfigRead body s
  | .setupClose body => Sys2Proof.Machine.execSetupClose body s
  | .setupAbandon body => Sys2Proof.Machine.execSetupAbandon body s
  | .permitPut body => Sys2Proof.Machine.execPermitPut body s
  | .permitRead body => Sys2Proof.Machine.execPermitRead body s
  | .permitSuspend body => Sys2Proof.Machine.execPermitSuspend body s
  | .permitReinstate body => Sys2Proof.Machine.execPermitReinstate body s
  | .permitRemove body => Sys2Proof.Machine.execPermitRemove body s
  | .quotaSet body => Sys2Proof.Machine.execQuotaSet body s
  | .orderPut body => Sys2Proof.Machine.execOrderPut body s
  | .orderRead body => Sys2Proof.Machine.execOrderRead body s
  | .orderCancel body => Sys2Proof.Machine.execOrderCancel body s
  | .sessionEnd body => Sys2Proof.Machine.execSessionEnd body s
  | .noteIndex body => Sys2Proof.Machine.execNoteIndex body s
  | .noteRead body => Sys2Proof.Machine.execNoteRead body s
  | .noteRelease body => Sys2Proof.Machine.execNoteRelease body s
  | .supervisionClear body => Sys2Proof.Machine.execSupervisionClear body s
  | .tripRequest dest body => Sys2Proof.Machine.execTripRequest dest body s
  | .tripClear body => Sys2Proof.Machine.execTripClear body s
  | .restart body => Sys2Proof.Machine.execRestart body s
  | .powerLoss lost => Sys2Proof.Machine.execPowerLoss lost s
  | .startByte => Sys2Proof.Machine.execStartByte s
  | .lengthAbove1024 => Sys2Proof.Machine.execLengthAbove1024 s

end Sys2Proof.Machine
end

