-- ==== Sys2Proof/Machine/Outputs.lean ====
section
/-! DEFINITION. The output pins as functions of the state (spec/00, Pin summary; R1, R69, R107, R173). -/

namespace Sys2Proof.Machine

/-- STAGE S1 of an arm (R1). -/
def stageS1 (s : State) (a : ArmNo) : Bool := s.arms[a].command.s1

/-- STAGE S2 of an arm (R1). -/
def stageS2 (s : State) (a : ArmNo) : Bool := s.arms[a].command.s2

/-- SOLENOID of an injector: open in SHOT alone (R69). -/
def solenoid (s : State) (i : InjNo) : Bool := s.injectors[i].solenoidOpen

/-- PUMP RUN of a pump: on in RUNNING and RUN_DOWN (spec/03, Pump control). -/
def pumpRun (s : State) (p : PumpNo) : Bool := s.pumps[p].state ≠ .off

/-- SHUTDOWN relay, energised while the rack may run. -/
def shutdownRelay (s : State) : Bool := s.relay

/-- The driver enable of the host line, held during a reply and only then (R173; assumption 14). -/
def driverEnable (s : State) : Bool :=
  match s.line.reply with
  | some (.sending _) => true
  | _ => false

/-- The bytes of the reply being sent on TXD, where R184 lays its body out. The address byte is the part's own strapped
address (assumption 52). -/
def hostTx (s : State) : Option (List Byte) :=
  match s.line.reply with
  | some (.sending r) => r.frame s.line.address
  | _ => none

/-- What the last command sent on a bay's TERMINAL TX (R107). -/
def terminalTx (s : State) (b : BayNo) : List Byte := s.bays[b].sent.flatMap Show.bytes

end Sys2Proof.Machine
end

