-- ==== Sys2Proof/Safety.lean ====
section
/-! DEFINITION. What the claims are stated in: the safe outputs of a rack out of service, the invariants, when the part
takes commands and frames, and what a block's operation leaves alone. -/

namespace Sys2Proof.Machine

/-! ### Safe outputs -/

/-- Every stage output and pump output is off and the SHUTDOWN relay is de-energised (R158). -/
def OutputsOff (s : State) : Prop :=
  (∀ a : ArmNo, stageS1 s a = false ∧ stageS2 s a = false) ∧ (∀ p : PumpNo, pumpRun s p = false)
    ∧ shutdownRelay s = false

/-- The law of the device on the outputs, for every mode in which the rack is out of service (R41, R64, R158). -/
def OutOfServiceIsSafe (s : State) : Prop := s.mode.mayFlow = false → OutputsOff s

/-! ### Invariants -/

/-- The bounds of a pulse input (R5, R8, R9): the count, the score, the clean pairs. -/
def PulseInput.Bounded (x : PulseInput) : Prop := x.count ≤ 65535 ∧ x.score < 256 ∧ x.cleanPairs ≤ 64

/-- Every pulse input keeps its bounds. -/
def PulsesBounded (s : State) : Prop := ∀ a : ArmNo, s.pulses[a].Bounded

/-- The permit table holds no two entries with one number and no two with one token, and at most 512 (R86). -/
def TableLawful (ps : List Permit) : Prop :=
  (ps.map Permit.number).Nodup ∧ (ps.map Permit.token).Nodup ∧ ps.length ≤ Config.permitCapacity

/-- A retained copy of the permit table is lawful. -/
def Retained.PermitsLawful (x : Retained) : Prop := ∀ ps, x.permits = some ps → TableLawful ps

/-- The permit table is lawful, and so is every copy of it that start-up may come to read (R86). -/
def PermitsLawful (s : State) : Prop :=
  TableLawful s.permits ∧ s.nv.PermitsLawful ∧ ∀ x ∈ s.undo, x.PermitsLawful

/-- No injector's queue holds more than four requests (R69, R70). -/
def QueuesBounded (s : State) : Prop := ∀ i : InjNo, s.injectors[i].queue.length ≤ Config.queueLength

/-- Each arm commands what its state and the rack mode call for (R41, R44): HIGH in HIGH_FLOW alone, LOW in LOW_FINISH
and, once the pump wait has ended, in LOW_START, and CLOSE everywhere else. -/
def StagesFollow (s : State) : Prop :=
  ∀ a : ArmNo, s.arms[a].command =
    if s.mode.mayFlow = true ∧ (s.armCfg a).used = true then
      match s.arms[a].state with
      | .lowStart => if s.arms[a].waiting = true then .close else .low
      | .highFlow => .high
      | .lowFinish => .low
      | _ => .close
    else .close

/-- Every solenoid is closed and no request waits (R69, R158). -/
def InjectorsAtRest (s : State) : Prop := ∀ i : InjNo, solenoid s i = false ∧ s.injectors[i].queue = []

/-! ### The trip -/

/-- What the first stage of a trip makes of `s` (R140): the cause and the mode recorded, the relay as it was, the trip
delay from 0, notices to every bay, arm and injector; with a delay of 0.0 s the second stage is asked for at once
(R142). -/
def TripBegins (cause : TripCause) (s u : State) : Prop :=
  u.mode = .tripping ∧ u.relay = s.relay
    ∧ u.trip = { s.trip with
        cause := cause, delay := some ⟨0, s.cfg.rack.tripDelay * 10000⟩, stageTwo := false }
    ∧ (∀ b : BayNo, .tripNotice b ∈ u.inbox) ∧ (∀ a : ArmNo, .stopArm a .trip ∈ u.inbox)
    ∧ (∀ i : InjNo, .tripInjector i ∈ u.inbox)
    ∧ (.secondStage ∈ u.inbox ↔ .secondStage ∈ s.inbox ∨ s.cfg.rack.tripDelay = 0)

/-- What the beginning of the second stage makes of `s` (R64, R142): the relay de-energised, every pump off with its run
time cleared and its demand kept, the four bays awaited, and the arms, injectors and bays told. -/
def SecondStageBegins (s u : State) : Prop :=
  u.mode = .tripping ∧ u.relay = false ∧ u.trip.stageTwo = true ∧ u.trip.awaiting = allBays
    ∧ u.trip.cause = s.trip.cause
    ∧ (∀ p : PumpNo, pumpRun u p = false ∧ u.pumps[p].run = none ∧ u.pumps[p].stopDelay = none
        ∧ u.pumps[p].demand = s.pumps[p].demand)
    ∧ u.inbox = s.inbox ++ (allArms.map .forceArm ++ allInjs.map .stageTwoInjector ++ allBays.map .stageTwoNotice)
    ∧ u = { s with relay := u.relay, trip := u.trip, pumps := u.pumps, inbox := u.inbox }

/-! ### What a supervision instance reaches -/

/-- The arm is one that the instance's stop effect is sent to and acts on (R134). -/
def InStopScope (s : State) (i : InstId) (a : ArmNo) : Prop :=
  match i.scope with
  | .rack => True
  | .bay b => (s.armCfg a).bay = some b
  | .arm x => x = a
  | .inj j => maskHas s.cfg.injectors[j].armMask a = true ∧ ∃ r, s.armComp a = some r ∧ r.names j = true

/-- The compartment of a bay's session lies in the instance's scope (R136). -/
def InMarkScope (i : InstId) (b : BayNo) (r : CompRec) : Prop :=
  match i.scope with
  | .rack => True
  | .bay x => x = b
  | .arm a => r.arm = some a
  | .inj j => r.names j = true

/-- What an instance's entry into ACTIVE makes of `s` (R130, R133, R134, R136, R139): the count rises by 1, the class in
force is taken, the other instances stand; the stop requests go to its scope when it enters from NORMAL or FILTERING
(`sends`) and its class is not WARNING; a WARNING instance marks the active lines in its scope; a trip-flagged kind trips
a rack in RUN. -/
def EntersActive (i : InstId) (sends : Prop) (s u : State) : Prop :=
  (u.inst i).state = .active ∧ (u.inst i).timer = none ∧ (u.inst i).cls = s.cls i
    ∧ (u.inst i).count = (if (s.inst i).count < 255 then (s.inst i).count + 1 else (s.inst i).count)
    ∧ (∀ j, j ≠ i → u.inst j = s.inst j)
    ∧ (∀ a : ArmNo, .stopArm a .effect ∈ u.inbox ↔
        .stopArm a .effect ∈ s.inbox ∨ (sends ∧ s.cls i ≠ .warning ∧ InStopScope s i a))
    ∧ (∀ b c r, s.compRec b c = some r → ∃ r', u.compRec b c = some r'
        ∧ (r'.warningRaised = true ↔
            r.warningRaised = true ∨ (s.cls i = .warning ∧ r.active = true ∧ InMarkScope i b r)))
    ∧ (s.mode = .run → (s.supCfg i).trip = true → TripBegins (.fault i) s u)
    ∧ (s.mode ≠ .run ∨ (s.supCfg i).trip = false → u.mode = s.mode ∧ u.trip = s.trip)

/-! ### When commands are taken -/

/-- The part is in service, and nothing is in flight between its blocks. -/
def Ready (s : State) : Prop := s.phase = .service ∧ s.inbox = []

/-- The host line takes a frame: its receiver is not skipping and no reply is pending (R172, R173). -/
def LineFree (s : State) : Prop := s.line.receiver ≠ .skipping ∧ s.line.reply = none

/-- A request is handled by its owner: in service, the line free, the mode one that takes the kind (R173, R174). -/
def Taken (kind : Byte) (s : State) : Prop := Ready s ∧ LineFree s ∧ modeTakes s.mode kind.toNat = true

/-- The state in which an owner handles a valid frame: the receiver hunts again, the link is ONLINE and its timer
restarted (R172, R175). -/
def heard (s : State) : State := linkUp (setReceiver .hunt s.fresh)

/-- A reply with a result code and bytes after it. -/
def bytesReply (kind : Byte) (r : ResultCode) (l : List Byte) : Option PendingReply :=
  some (.sending ⟨kind, r, .bytes l⟩)

/-! ### The messages -/

/-- The messages of the catalogue with their request kinds (R181), and whether the frame is addressed or sent to all
stations. -/
def messageOf : Instr → Option (Byte × Dest)
  | .rackStatus _ => some (0x01, .addressed)
  | .bayStatus _ => some (0x02, .addressed)
  | .armStatus _ => some (0x03, .addressed)
  | .injectorStatus _ => some (0x04, .addressed)
  | .supervisionList _ => some (0x05, .addressed)
  | .totaliserRead _ => some (0x06, .addressed)
  | .clockSet dest _ => some (0x10, dest)
  | .setupOpen _ => some (0x20, .addressed)
  | .configPut _ => some (0x21, .addressed)
  | .configRead _ => some (0x22, .addressed)
  | .setupClose _ => some (0x23, .addressed)
  | .setupAbandon _ => some (0x24, .addressed)
  | .permitPut _ => some (0x30, .addressed)
  | .permitRead _ => some (0x31, .addressed)
  | .permitSuspend _ => some (0x32, .addressed)
  | .permitReinstate _ => some (0x33, .addressed)
  | .permitRemove _ => some (0x34, .addressed)
  | .quotaSet _ => some (0x35, .addressed)
  | .orderPut _ => some (0x40, .addressed)
  | .orderRead _ => some (0x41, .addressed)
  | .orderCancel _ => some (0x42, .addressed)
  | .sessionEnd _ => some (0x50, .addressed)
  | .noteIndex _ => some (0x60, .addressed)
  | .noteRead _ => some (0x61, .addressed)
  | .noteRelease _ => some (0x62, .addressed)
  | .supervisionClear _ => some (0x70, .addressed)
  | .tripRequest dest _ => some (0x71, dest)
  | .tripClear _ => some (0x72, .addressed)
  | .restart _ => some (0x7F, .addressed)
  | _ => none

/-- The messages a rack mode takes (R163, R174): RESTART alone in START_UP; in SETUP_LOCKED the six status messages,
CONFIG READ, the permit, order and note messages and RESTART; every message in the other modes. -/
def ModeAdmits (m : Mode) (kind : Byte) : Prop :=
  match m with
  | .startUp => kind = 0x7F
  | .setupLocked => kind ∈ ([0x01, 0x02, 0x03, 0x04, 0x05, 0x06, 0x22, 0x30, 0x31, 0x32, 0x33, 0x34, 0x35,
      0x40, 0x41, 0x42, 0x60, 0x61, 0x62, 0x7F] : List Byte)
  | .setup => True
  | .run => True
  | .tripping => True
  | .tripped => True

/-- The body has the length that the layout of its message gives (R182, R183, R184); that of CONFIG PUT goes by the kind
of the record, that of ORDER PUT by its count of entries. -/
def LengthRight : Instr → Prop
  | .rackStatus body => body = []
  | .bayStatus body => body.length = 1
  | .armStatus body => body.length = 1
  | .injectorStatus body => body.length = 1
  | .supervisionList body => body = []
  | .totaliserRead body => body = []
  | .clockSet _ body => body.length = 6
  | .setupOpen body => body = []
  | .configPut body => 2 ≤ body.length ∧ ∀ x ∈ ([(1, 8), (2, 14), (3, 61), (4, 25), (5, 11), (6, 6)] : List (Byte × Nat)),
      body[0]? = some x.1 → body.length = x.2
  | .configRead body => body.length = 2
  | .setupClose body => body.length = 2
  | .setupAbandon body => body = []
  | .permitPut body => body.length = 22
  | .permitRead body => body.length = 3
  | .permitSuspend body => body.length = 2
  | .permitReinstate body => body.length = 2
  | .permitRemove body => body.length = 2
  | .quotaSet body => body.length = 7
  | .orderPut body => ∃ n, body[8]? = some n ∧ body.length = 9 + 6 * n.toNat
  | .orderRead body => body.length = 5
  | .orderCancel body => body.length = 4
  | .sessionEnd body => body.length = 1
  | .noteIndex body => body = []
  | .noteRead body => body.length = 4
  | .noteRelease body => body.length = 4
  | .supervisionClear body => body.length = 3
  | .tripRequest _ body => body = []
  | .tripClear body => body = []
  | .restart body => body = []
  | _ => True

/-! ### Driver keys -/

/-- The bay has a session in a state. -/
def SessionIn (s : State) (b : BayNo) (st : SessionState) : Prop := (s.session b).map Session.state = some st

/-- A key refused at its bay: its prompt is shown, and nothing else changes but the bay's idle timers, which a key may
restart (R122). -/
def RefusedAt (b : BayNo) (c : Instr) (s : State) (p : Prompt) (numbers : List Nat) : Prop :=
  ∃ t, exec c s = .next t ∧ t = ({ s.fresh with bays := t.bays } : State).write
    ∧ (∀ x : BayNo, x ≠ b → t.bays[x] = s.fresh.bays[x])
    ∧ t.bays[b] = { s.bays[b] with
        lastPrompt := some ⟨p, numbers⟩, sent := [⟨p, numbers⟩]
        attention := t.bays[b].attention, abandon := t.bays[b].abandon, attentionFlag := t.bays[b].attentionFlag }

/-- A permit input is present at a level: the one its bay's polarity names as active, low where the bit is set (R112,
R182). -/
def PresentAt (s : State) (b : BayNo) (level : Bool) (bit : Fin 3) : Prop :=
  level ≠ maskHas (s.bayCfg b).polarity bit

/-- An instance of class AUTO or LATCHED in an effective state, in rack scope, the bay's scope, the arm's scope, or the
scope of an injector that an additive entry of the product on the arm names (R112, R134, R135). -/
def StopsAt (s : State) (a : ArmNo) (b : BayNo) (i : InstId) : Prop :=
  (s.inst i).cls ≠ .warning
    ∧ ((s.inst i).state = .active ∨ (s.inst i).state = .recovering ∨ (s.inst i).state = .latched)
    ∧ match i.scope with
      | .rack => True
      | .bay x => x = b
      | .arm x => x = a
      | .inj j => ∃ oc, s.arms[a].comp = some oc
          ∧ (s.cfg.products[oc.product].entry1.inj = some j ∨ s.cfg.products[oc.product].entry2.inj = some j)

/-- The first such instance, in ascending kind code and unit number (R135). -/
def FirstStop (s : State) (a : ArmNo) (b : BayNo) (i : InstId) : Prop :=
  StopsAt s a b i
    ∧ ∀ j, StopsAt s a b j → i.kind.val < j.kind.val ∨ (i.kind = j.kind ∧ i.unit ≤ j.unit)

/-- The checks of START and RESUME before the permit table is asked all pass (R112, R114); `need` is ARMED for START and
HELD for RESUME. -/
def FlowChecksPass (s : State) (b : BayNo) (a : ArmNo) (need : ArmState) : Prop :=
  sessionRuns s b = true ∧ (s.armCfg a).bay = some b ∧ s.arms[a].state = need ∧ s.mode = .run
    ∧ PresentAt s b s.pins.ground[b] 0 ∧ PresentAt s b s.pins.overfill[b] 1
    ∧ ((s.bayCfg b).vapourUsed = true → PresentAt s b s.pins.vapour[b] 2)
    ∧ (∀ i, ¬StopsAt s a b i) ∧ s.temps[a].lastGood ≠ none

/-- The refusals of START and RESUME before the permit table is asked, in the order of R112, each under the conditions
that the checks before it pass (R112, R114). -/
def FlowKeyRefusals (c : Instr) (need : ArmState) (s : State) (b : BayNo) (a : ArmNo) : Prop :=
  (s.session b = none → RefusedAt b c s .notOpen []) ∧
  (SessionIn s b .ending → RefusedAt b c s .alreadyEnding []) ∧
  (sessionRuns s b = true →
    ((s.armCfg a).bay ≠ some b → RefusedAt b c s .armBusy [unitNo a]) ∧
    ((s.armCfg a).bay = some b → s.arms[a].state ≠ need → RefusedAt b c s .notReady [unitNo a]) ∧
    ((s.armCfg a).bay = some b → s.arms[a].state = need →
      let ground := PresentAt s b s.pins.ground[b] 0
      let overfill := PresentAt s b s.pins.overfill[b] 1
      let vapour := (s.bayCfg b).vapourUsed = true → PresentAt s b s.pins.vapour[b] 2
      (s.mode ≠ .run → RefusedAt b c s .rackNotReady []) ∧
      (s.mode = .run →
        (¬ground → RefusedAt b c s .permissive [1]) ∧
        (ground → ¬overfill → RefusedAt b c s .permissive [2]) ∧
        (ground → overfill → ¬vapour → RefusedAt b c s .permissive [3]) ∧
        (ground → overfill → vapour →
          (∀ i, FirstStop s a b i → RefusedAt b c s .supervision [i.kind.val + 1, i.unit]) ∧
          ((∀ i, ¬StopsAt s a b i) → s.temps[a].lastGood = none → RefusedAt b c s .probe [unitNo a])))))

/-! ### Setup and start-up -/

/-- A record of the configuration fails a check of R164: the kind and the index of the record and the number of the
check, as INVALID carries them. -/
def CheckFails (c : Configuration) (kind index check : Nat) : Prop :=
  (kind = 2 ∧ ∃ b : BayNo, index = unitNo b ∧
    ((check = 1 ∧ c.bays[b].abandon ≤ c.bays[b].attention) ∨
     (check = 2 ∧ 4 < (allArms.filter fun a => c.arms[a].bay = some b).length) ∨
     (check = 3 ∧ c.bays[b].enabled = true ∧ ∀ a : ArmNo, c.arms[a].bay ≠ some b))) ∨
  (kind = 3 ∧ ∃ a : ArmNo, index = unitNo a ∧
    ((check = 4 ∧ c.arms[a].bay ≠ none
        ∧ ¬(c.arms[a].points.toList.take c.arms[a].pointCount).Pairwise fun p q => p.flow < q.flow) ∨
     (check = 5 ∧ c.arms[a].closeAheadMax < c.arms[a].closeAheadInitial) ∨
     (check = 6 ∧ c.arms[a].bay ≠ none
        ∧ ∃ p : ProductNo, maskHas c.arms[a].productMask p = true ∧ c.products[p].enabled = false))) ∨
  (kind = 4 ∧ ∃ p : ProductNo, index = unitNo p ∧ check = 7 ∧ c.products[p].enabled = true
    ∧ ∃ (i : InjNo) (a : ArmNo), (c.products[p].entry1.inj = some i ∨ c.products[p].entry2.inj = some i)
      ∧ c.arms[a].bay ≠ none ∧ maskHas c.arms[a].productMask p = true ∧ maskHas c.injectors[i].armMask a = false)

/-- The first failure in serialisation order, a record's checks in their order (R164, R167). -/
def FirstFailure (c : Configuration) (kind index check : Nat) : Prop :=
  CheckFails c kind index check ∧ ∀ k i n, CheckFails c k i n →
    kind < k ∨ (kind = k ∧ (index < i ∨ (index = i ∧ check ≤ n)))

/-- A compartment of a retained session that start-up completes: on an arm and started (R168 step 3). -/
def CutShort (r : CompRec) : Prop := r.state = .onArm ∧ r.started = true ∧ r.arm ≠ none

/-- The line of the note that start-up files for a compartment of a retained session (R54, R84, R151, R152, R156): one
that was cut short is STOPPED with its retained volumes and every shot not delivered missed, one that is COMPLETE keeps
its result and its end reason, and any other is NOT_STARTED. -/
def ClosedLine (r : CompRec) (l : NoteLine) : Prop :=
  l.comp = r.no ∧ l.preset = r.preset ∧ l.basis = r.basis ∧ l.code = r.code
    ∧ (CutShort r → l.endReason = some .stopped ∧ l.arm = r.arm
        ∧ l.grossDl = (r.acc.g + 50000) / 100000 ∧ l.standardDl = (r.acc.s + 50000) / 100000
        ∧ l.totStartDl = r.acc.totStart / 100000 ∧ l.valveNotConfirmed = r.valveNotConfirmed)
    ∧ (∀ y, r.state = .complete → r.result = some y → l.endReason = r.endReason ∧ l.arm = r.arm
        ∧ l.grossDl = y.grossDl ∧ l.standardDl = y.standardDl)
    ∧ (¬CutShort r → r.state ≠ .complete → r.result = none → l.endReason = none ∧ l.arm = none ∧ l.grossDl = 0
        ∧ l.standardDl = 0 ∧ l.additives = [])
    ∧ (CutShort r → l.additives.map (fun y => (y.inj, y.due, y.delivered, y.missed))
        = r.lines.map fun y => (y.inj, y.due, y.delivered, y.due - y.delivered))

/-- The note that start-up files for a retained session at a bay (R150, R156). -/
def ClosedNote (cause : StartCause) (rackId : Nat) (clock : Option Stamp) (b : BayNo) (x : Session) (n : Note) : Prop :=
  n.bay = b ∧ n.order = x.order ∧ n.permit = x.permit ∧ n.carrier = x.carrier ∧ n.vehicle = x.vehicle
    ∧ n.digest = x.digest ∧ n.rackId = rackId
    ∧ n.cause = (match cause with
        | .power => .powerInterrupted
        | .restart => .restart)
    ∧ (n.endUnknown = true ↔ cause = .power)
    ∧ n.start = x.start.getD ⟨0, 0⟩ ∧ n.unsetAtStart = x.start.isNone
    ∧ n.finish = clock.getD ⟨0, 0⟩ ∧ n.unsetAtEnd = clock.isNone
    ∧ n.lines.length = x.comps.length
    ∧ ((x.comps.map CompRec.no).Nodup → ∀ (k : Nat) r l, x.comps[k]? = some r → n.lines[k]? = some l → ClosedLine r l)

/-- What the closing of the retained sessions adds to the used figure of a permit: the standard dL of each compartment
that is cut short (R103, R168). -/
def settledAtStart (sessions : Vector (Option Session) 4) (permit : Nat) : Nat :=
  (sessions.toList.map fun x => match x with
    | some x => if x.permit = permit then
        (x.comps.map fun r =>
          if r.state = .onArm ∧ r.started = true ∧ r.arm ≠ none then (r.acc.s + 50000) / 100000 else 0).sum
      else 0
    | none => 0).sum

/-- What the closing of the retained sessions adds to an arm's unattended volume: the gross volume of each compartment
on it that was not started (R54, R168). -/
def drippedAtStart (sessions : Vector (Option Session) 4) (a : ArmNo) : Nat :=
  (sessions.toList.map fun x => match x with
    | some x => (x.comps.map fun r =>
        if r.state = .onArm ∧ r.started = false ∧ r.arm = some a then r.acc.g else 0).sum
    | none => 0).sum

/-! ### Frames -/

/-- What an interval expiry alone changes in a metering engine: all but the unattended and the leak volume. -/
structure Counted where
  interval : Nat
  q : Nat
  lastMf : Option Nat
  lastVcf : Option Nat
  rG : Nat
  rS : Nat
  totaliser : Nat
  deriving DecidableEq, Repr

/-- That part of a metering engine. -/
def MeterEngine.counted (m : MeterEngine) : Counted :=
  { interval := m.interval, q := m.q, lastMf := m.lastMf, lastVcf := m.lastVcf, rG := m.rG, rS := m.rS
    totaliser := m.totaliser }

/-- What the notices in flight between the blocks never change: the waiting commands, the phase, the pins, the pulse
inputs, the temperature receivers, what the meters have counted, setup control and the host line. -/
structure Inputs where
  pending : List Instr
  phase : Phase
  pins : Pins
  pulses : Vector PulseInput 8
  temps : Vector TempReceiver 8
  meters : Vector Counted 8
  setup : SetupControl
  line : HostLine
  deriving DecidableEq, Repr

/-- That part of the state. -/
def State.inputs (s : State) : Inputs :=
  { pending := s.pending, phase := s.phase, pins := s.pins, pulses := s.pulses, temps := s.temps
    meters := vmap MeterEngine.counted s.meters, setup := s.setup, line := s.line }

/-- What the host puts and collects: the permit table, the order book and the note store. -/
structure Books where
  permits : List Permit
  orders : List Order
  notes : NoteStore
  deriving DecidableEq, Repr

/-- That part of the state. -/
def State.books (s : State) : Books := { permits := s.permits, orders := s.orders, notes := s.notes }

/-- The state of the rack as a whole: the mode, the SHUTDOWN relay, the trip control. -/
structure RackState where
  mode : Mode
  relay : Bool
  trip : TripControl
  deriving DecidableEq, Repr

/-- That part of the state. -/
def State.rackState (s : State) : RackState := { mode := s.mode, relay := s.relay, trip := s.trip }

/-- Every arm but one is as it was. -/
def OtherArmsSame (a : ArmNo) (s u : State) : Prop := ∀ x : ArmNo, x ≠ a → u.arms[x] = s.arms[x]

/-- Every injector but one is as it was. -/
def OtherInjsSame (i : InjNo) (s u : State) : Prop := ∀ x : InjNo, x ≠ i → u.injectors[x] = s.injectors[x]

/-- Every bay but one is as it was, but for the SHOW records of the command before. -/
def OtherBaysSame (b : BayNo) (s u : State) : Prop := ∀ x : BayNo, x ≠ b → u.bays[x] = s.fresh.bays[x]

/-- Every session is as it was. -/
def SessionsSame (s u : State) : Prop := ∀ b : BayNo, u.session b = s.session b

/-- The commands that are frames of the host line: the messages of the catalogue and UNKNOWN KIND. -/
def isFrame : Instr → Bool
  | .unknownKind _ _ => true
  | .rackStatus _ => true
  | .bayStatus _ => true
  | .armStatus _ => true
  | .injectorStatus _ => true
  | .supervisionList _ => true
  | .totaliserRead _ => true
  | .clockSet _ _ => true
  | .setupOpen _ => true
  | .configPut _ => true
  | .configRead _ => true
  | .setupClose _ => true
  | .setupAbandon _ => true
  | .permitPut _ => true
  | .permitRead _ => true
  | .permitSuspend _ => true
  | .permitReinstate _ => true
  | .permitRemove _ => true
  | .quotaSet _ => true
  | .orderPut _ => true
  | .orderRead _ => true
  | .orderCancel _ => true
  | .sessionEnd _ => true
  | .noteIndex _ => true
  | .noteRead _ => true
  | .noteRelease _ => true
  | .supervisionClear _ => true
  | .tripRequest _ _ => true
  | .tripClear _ => true
  | .restart _ => true
  | _ => false

end Sys2Proof.Machine
end

