-- ==== Sys2Proof/WellFormed.lean ====
section
/-! DEFINITION. Which operands a command may carry. A malformed message body is a command all the same: the part answers
it FORMAT. What is refused here are operands that are not the command they are given to. -/

namespace Sys2Proof

open Machine

/-- A body that fits a frame (spec/10, Frames). -/
def bodyFits (body : List Byte) : Bool := decide (body.length ≤ 1024)

/-- The command's operands suit it. -/
def Instr.wf : Instr → Bool
  | .powerUp => true
  | .startUp damaged => decide damaged.Nodup
  | .acceptedRisingEdge _ _ => true
  | .acceptedFallingEdge _ => true
  | .pulsePinChange _ _ => true
  | .readingRecord _ _ => true
  | .recordTimerExpiry _ => true
  | .intervalExpiry _ => true
  | .valveSwitchChange _ _ _ => true
  | .travelAllowanceExpiry _ => true
  | .quietTimerExpiry _ => true
  | .closingLimitExpiry _ => true
  | .noFlowTimerExpiry _ => true
  | .compartmentCompletion _ => true
  | .pumpStartDelayReached _ => true
  | .stopDelayExpiry _ => true
  | .additivePulse _ => true
  | .shotTimeLimit _ => true
  | .settleTimeExpiry _ => true
  | .bayPermitChange _ _ _ => true
  | .deadmanPress _ _ => true
  | .deadmanWindowOpens _ => true
  | .deadmanLate _ => true
  | .attentionTimerExpiry _ => true
  | .abandonTimerExpiry _ => true
  | .noteFiling _ => true
  | .card _ _ => true
  | .select _ _ _ => true
  | .start _ _ => true
  | .resume _ _ => true
  | .stop _ _ => true
  | .finish _ _ => true
  | .endKey _ => true
  | .resetKey _ => true
  | .malformedRecord bay bytes => (bayCommand bay bytes).isNone
  | .estopInputChange _ => true
  | .rackReset _ => true
  | .filterTimerExpiry inst => inst.level
  | .tripDelayExpiry => true
  | .setupTimerExpiry => true
  | .setupOpenDecision => true
  | .linkTimeout => true
  | .clockSecond => true
  | .interByteGap => true
  | .lineIdle => true
  | .frameDiscarded bytes => frameWhole bytes
  | .replyComplete => true
  | .unknownKind kind body =>
    decide (1 ≤ kind.toNat) && decide (kind.toNat < 0x80) && !knownKind kind.toNat && bodyFits body
  | .rackStatus body => bodyFits body
  | .bayStatus body => bodyFits body
  | .armStatus body => bodyFits body
  | .injectorStatus body => bodyFits body
  | .supervisionList body => bodyFits body
  | .totaliserRead body => bodyFits body
  | .clockSet _ body => bodyFits body
  | .setupOpen body => bodyFits body
  | .configPut body => bodyFits body
  | .configRead body => bodyFits body
  | .setupClose body => bodyFits body
  | .setupAbandon body => bodyFits body
  | .permitPut body => bodyFits body
  | .permitRead body => bodyFits body
  | .permitSuspend body => bodyFits body
  | .permitReinstate body => bodyFits body
  | .permitRemove body => bodyFits body
  | .quotaSet body => bodyFits body
  | .orderPut body => bodyFits body
  | .orderRead body => bodyFits body
  | .orderCancel body => bodyFits body
  | .sessionEnd body => bodyFits body
  | .noteIndex body => bodyFits body
  | .noteRead body => bodyFits body
  | .noteRelease body => bodyFits body
  | .supervisionClear body => bodyFits body
  | .tripRequest _ body => bodyFits body
  | .tripClear body => bodyFits body
  | .restart body => bodyFits body
  | .powerLoss _ => true
  | .startByte => true
  | .lengthAbove1024 => true

/-- A well-formed command. -/
abbrev Instr.WF (i : Instr) : Prop := i.wf = true

end Sys2Proof
end

