-- ==== Sys2Proof/Certificates/Slice0/Obligations.lean ====
section
/-! DEFINITION. The statements for the provers. In a statement about a command, `settleCommand u` is the state the
command leaves: `u` is the state once the command's own operation is done, and what is still in its `inbox` are the
notices it has sent to other blocks, which are then taken by their own rules. Where nothing is sent, `settleCommand u`
is `u.write`, and the statement gives the whole next state. -/

open Sys2Proof Sys2Proof.Machine

/-! ### The step -/

/-- A step performs the command at the front of the queue on the state with the queue's rest. -/
def Obligations.StepPerformsTheFrontCommand : Prop :=
  ∀ (c : Instr) (rest : List Instr) (s : State), s.pending = c :: rest →
    step s = exec c { s with pending := rest }

/-- With no command waiting, a part without supply idles, a part in START_UP performs its start-up operation, and a
part in service in which nothing falls due only lets its timers advance. The tick is the model's choice (assumption
2). -/
def Obligations.IdleStepLetsTimePass : Prop :=
  ∀ s : State, s.pending = [] →
    (s.phase = .off → step s = .next s) ∧
    (∀ cause, s.phase = .starting cause → step s = exec (.startUp []) s) ∧
    (s.phase = .service → due s = [] → step s = .next (advance s.fresh))

/-- Every command answers a next state, none faults and none is refused, and no command touches the queue of waiting
commands. -/
def Obligations.EveryCommandAnswersNext : Prop :=
  ∀ (c : Instr) (s : State), ∃ t, exec c s = .next t ∧ t.pending = s.pending

/-- What the notices between the blocks never change: the end of a command leaves the pins, the pulse inputs, the
temperature receivers, the meters' counting, setup control and the host line as the command's own operation left them;
with nothing in flight it leaves everything but retained memory. The form, notices taken one after the other within the
command, is the model's choice (assumption 3). -/
def Obligations.SettlingKeepsTheInputs : Prop :=
  ∀ s : State, (settleCommand s).inputs = s.inputs ∧ (s.inbox = [] → settleCommand s = s.write)

/-! ### Invariants -/

/-- R41, R64, R158: in a mode other than RUN and TRIPPING every valve is commanded CLOSE, every pump output is off and
the SHUTDOWN relay is de-energised, and every step keeps it so. R41, R44: in every mode the stage commands follow the
arms' states, HIGH in HIGH_FLOW alone and LOW or HIGH in a flowing state alone, and every step keeps it so. R69, R70,
R158: outside RUN, solenoids that are closed with no request waiting stay so under every command. The reset state meets
the second and the third. -/
def Obligations.OutOfServiceStaysSafe : Prop :=
  (∀ s t : State, OutOfServiceIsSafe s → step s = .next t → OutOfServiceIsSafe t) ∧
  (∀ s t : State, StagesFollow s → step s = .next t → StagesFollow t) ∧
  (∀ (c : Instr) (s t : State), s.mode ≠ .run → InjectorsAtRest s → exec c s = .next t → InjectorsAtRest t) ∧
  StagesFollow State.reset ∧ InjectorsAtRest State.reset

/-- R5, R8, R9: every step keeps each pulse input's count, error score and clean-pair count within their bounds. -/
def Obligations.PulseInputsStayBounded : Prop :=
  ∀ s t : State, PulsesBounded s → step s = .next t → PulsesBounded t

/-- R86: every step keeps the permit table, and every copy of it that start-up may read, free of double numbers and
double tokens and at 512 entries or fewer. -/
def Obligations.PermitTableStaysLawful : Prop :=
  ∀ s t : State, PermitsLawful s → step s = .next t → PermitsLawful t

/-- R69, R70: every step keeps each injector's queue at four requests or fewer. -/
def Obligations.InjectorQueuesStayBounded : Prop :=
  ∀ s t : State, QueuesBounded s → step s = .next t → QueuesBounded t

/-- The four invariants hold right after reset. -/
def Obligations.InvariantsHoldAtReset : Prop :=
  OutOfServiceIsSafe State.reset ∧ PulsesBounded State.reset ∧ PermitsLawful State.reset
    ∧ QueuesBounded State.reset

/-! ### Pins -/

/-- R1: the two stage outputs of an arm code its valve stage command. -/
def Obligations.StageOutputsCodeTheCommand : Prop :=
  ∀ (s : State) (a : ArmNo),
    (s.arms[a].command = .close → stageS1 s a = false ∧ stageS2 s a = false) ∧
    (s.arms[a].command = .low → stageS1 s a = true ∧ stageS2 s a = false) ∧
    (s.arms[a].command = .high → stageS1 s a = true ∧ stageS2 s a = true)

/-! ### Power and start-up -/

/-- R168, R170, R179: POWER_UP and the end of a RESTART's reply begin start-up in the safe state, with the receiver in
HUNT, no reply pending, the link STANDALONE, the clock unset after power-up and kept through RESTART, retained memory
and the pins as they are. -/
def Obligations.StartUpBeginsInTheSafeState : Prop :=
  ∀ s : State,
    (∃ t, exec .powerUp s = .next t ∧ t.phase = .starting .power ∧ t.mode = .startUp ∧ OutputsOff t
      ∧ (∀ i : InjNo, solenoid t i = false) ∧ t.line.receiver = .hunt ∧ t.line.reply = none
      ∧ t.line.link = .standalone ∧ t.line.linkTimer = none ∧ t.line.clock = none ∧ t.nv = s.nv ∧ t.pins = s.pins
      ∧ t.pending = s.pending) ∧
    (∀ body, s.phase ≠ .off → s.line.reply = some (.sending ⟨0x7F, .ok, body⟩) →
      ∃ t, exec .replyComplete s = .next t ∧ t.phase = .starting .restart ∧ t.mode = .startUp ∧ OutputsOff t
        ∧ (∀ i : InjNo, solenoid t i = false) ∧ t.line.receiver = .hunt ∧ t.line.reply = none
        ∧ t.line.link = .standalone ∧ t.line.linkTimer = none ∧ t.line.clock = s.line.clock
        ∧ t.line.subSecond = s.line.subSecond ∧ t.nv = s.nv ∧ t.pins = s.pins ∧ t.pending = s.pending)

/-- R33, R86, R165: at a loss of supply everything volatile goes and retained memory stands; a write that did not take
place leaves what it held before. That the command's operand counts the writes that did not take place, and which
writes there are, is the model's choice (assumption 6). -/
def Obligations.PowerLossKeepsRetainedMemory : Prop :=
  ∀ s : State,
    exec (.powerLoss 0) s = .next { State.reset with
      pending := s.pending, pins := s.pins, phase := .off, nv := s.nv } ∧
    ∀ before rest, s.undo = before :: rest →
      exec (.powerLoss 1) s = .next { State.reset with
        pending := s.pending, pins := s.pins, phase := .off, nv := before }

/-- R168, R169: the start-up operation always completes, and with the emergency stop released it leaves the mode the
table of R169 gives, the relay energised in RUN alone, every bay VACANT, every arm IDLE, every pump and solenoid off,
an empty order book, no reserved note slot, the link STANDALONE, every instance NORMAL, and a permit table with no
open session, no reservation and no RETIRING entry (R86). R156, R168: each retained session is filed as a note behind
those held, in ascending bay number, with the cause POWER_INTERRUPTED or RESTART; its started compartments are STOPPED and
settled, its ARMED ones released with their drip in the unattended volume, and no session stays in retained memory. That
the command's operand lists the retained copies that fail their check is the model's choice (assumption 7). -/
def Obligations.StartUpEndsClean : Prop :=
  ∀ (s : State) (cause : StartCause) (damaged : List RetainedCopy),
    s.phase = .starting cause → s.inbox = [] → s.pins.estop = true →
    let nv := damaged.foldl Retained.lose s.nv
    ∃ t, exec (.startUp damaged) s = .next t ∧ t.phase = .service
      ∧ t.mode = chosenMode (validConfig nv.config).isSome nv.tripMode
      ∧ t.relay = decide (t.mode = .run)
      ∧ (∀ b : BayNo, t.session b = none)
      ∧ (∀ a : ArmNo, t.arms[a].state = .idle ∧ t.arms[a].command = .close ∧ t.arms[a].comp = none)
      ∧ (∀ p : PumpNo, t.pumps[p] = Pump.blank) ∧ (∀ i : InjNo, t.injectors[i].state = .idle)
      ∧ t.orders = [] ∧ t.notes.reserved = 0 ∧ t.line.link = .standalone ∧ t.line.clock = s.line.clock
      ∧ (∀ i : InstId, (t.inst i).state = .normal ∧ (t.inst i).count = 0)
      ∧ (∀ p ∈ t.permits, p.openSession = none ∧ p.reserved = 0 ∧ p.state ≠ .retiring)
      ∧ (t.setup.active = validConfig nv.config)
      ∧ (t.mode = .setup → t.setup.working = some Configuration.factory ∧ t.setup.timer = none)
      ∧ (∃ filed : List Note, t.notes.held = (nv.notes.getD ([], 1)).1 ++ filed
          ∧ filed.map Note.bay = allBays.filter (fun b => nv.sessions[b].isSome)
          ∧ ∀ b x, nv.sessions[b] = some x → ∃ n ∈ filed, ClosedNote cause
              (match nv.config with
                | some (c, _) => c.rack.rackId
                | none => 0) s.line.clock b x n)
      ∧ (∀ ps, nv.permits = some ps → TableLawful ps → ∀ p ∈ ps, p.state ≠ .retiring → p.used ≤ 4294967295 →
          ∃ p' ∈ t.permits, p'.number = p.number ∧ p'.token = p.token
            ∧ p'.used = min 4294967295 (p.used + settledAtStart nv.sessions p.number))
      ∧ (∀ a : ArmNo, t.meters[a].unattended % 1000000000000000
          = ((match nv.totals[a] with
              | some x => x.unattended
              | none => 0) + drippedAtStart nv.sessions a) % 1000000000000000)
      ∧ t.nv.notes = some (t.notes.held, t.notes.next) ∧ (∀ b : BayNo, t.nv.sessions[b] = none)

/-- R170, R174, R178: RESTART is answered OK in every mode, START_UP included, and does nothing else until its reply
has gone; any other reply that ends leaves only the line free. -/
def Obligations.RestartIsTakenInEveryMode : Prop :=
  ∀ s : State, LineFree s →
    (Ready s → exec (.restart []) s = .next (sendReply 0x7F (.ok, .bytes []) (heard s)).write) ∧
    (∀ cause, s.phase = .starting cause →
      exec (.restart []) s = .next (sendReply 0x7F (.ok, .bytes []) (setReceiver .hunt s.fresh))) ∧
    (∀ r, s.phase ≠ .off → r.kind ≠ 0x7F →
      exec .replyComplete { s with line := { s.line with reply := some (.sending r) } }
        = .next { s.fresh with line := { s.line with reply := none } })

/-! ### Pulse inputs, temperature lines, metering -/

/-- R3, R4, R69: a pulse pin change on a channel in use starts the timing of a departure from the filtered level, and a
return discards it; on an unused channel (either one of an unused arm, B of a single-channel meter) or an unused
injector the pin's level alone changes. Nothing else changes. -/
def Obligations.PulsePinStartsItsFilter : Prop :=
  ∀ (s : State) (level : Bool), Ready s →
    let timing (filtered : Bool) (running : Option Timer) (width : Nat) : Option Timer :=
      if level = filtered then none
      else match running with
        | some t => some t
        | none => some ⟨0, width⟩
    (∀ a : ArmNo,
      let pins := { s.pins with pulseA := vset s.pins.pulseA a level }
      ((s.armCfg a).used = true → exec (.pulsePinChange (.product a .a) level) s = .next
        ({ s.fresh with
            pins := pins
            pulses := vmod s.pulses a fun x =>
              { x with filterA := timing x.levelA x.filterA (filterWidth (s.armCfg a).minPulse) } } : State).write) ∧
      ((s.armCfg a).used = false → exec (.pulsePinChange (.product a .a) level) s = .next
        ({ s.fresh with pins := pins } : State).write)) ∧
    (∀ a : ArmNo, (s.armCfg a).used = true → (s.armCfg a).dual = true →
      exec (.pulsePinChange (.product a .b) level) s = .next
        ({ s.fresh with
            pins := { s.pins with pulseB := vset s.pins.pulseB a level }
            pulses := vmod s.pulses a fun x =>
              { x with filterB := timing x.levelB x.filterB (filterWidth (s.armCfg a).minPulse) } } : State).write) ∧
    (∀ a : ArmNo, (s.armCfg a).used = false ∨ (s.armCfg a).dual = false →
      exec (.pulsePinChange (.product a .b) level) s = .next
        ({ s.fresh with pins := { s.pins with pulseB := vset s.pins.pulseB a level } } : State).write) ∧
    (∀ i : InjNo, (s.injCfg i).used = false →
      exec (.pulsePinChange (.additive i) level) s = .next
        ({ s.fresh with pins := { s.pins with additive := vset s.pins.additive i level } } : State).write) ∧
    (∀ i : InjNo, (s.injCfg i).used = true →
      exec (.pulsePinChange (.additive i) level) s = .next
        ({ s.fresh with
            pins := { s.pins with additive := vset s.pins.additive i level }
            injectors := vmod s.injectors i fun x => { x with filter := timing x.level x.filter 10 } } : State).write)

/-- R3, R69: an accepted falling edge takes the filtered level down and changes nothing else: on channel A of a used
arm, on channel B of a dual-channel one, at a used injector. -/
def Obligations.FallingEdgeOnlyLowersTheLevel : Prop :=
  ∀ s : State, Ready s →
    (∀ a : ArmNo, (s.armCfg a).used = true →
      exec (.acceptedFallingEdge (.product a .a)) s = .next
        ({ s.fresh with
            pins := { s.pins with pulseA := vset s.pins.pulseA a false }
            pulses := vmod s.pulses a fun x => { x with levelA := false, filterA := none } } : State).write) ∧
    (∀ a : ArmNo, (s.armCfg a).used = true → (s.armCfg a).dual = true →
      exec (.acceptedFallingEdge (.product a .b)) s = .next
        ({ s.fresh with
            pins := { s.pins with pulseB := vset s.pins.pulseB a false }
            pulses := vmod s.pulses a fun x => { x with levelB := false, filterB := none } } : State).write) ∧
    (∀ i : InjNo, (s.injCfg i).used = true →
      exec (.acceptedFallingEdge (.additive i)) s = .next
        ({ s.fresh with
            pins := { s.pins with additive := vset s.pins.additive i false }
            injectors := vmod s.injectors i fun x => { x with level := false, filter := none } } : State).write)

/-- R5, R6: an accepted edge on channel A of a used arm is counted up to 65535 and restarts the quiet timer, and in
LOW_START the no-flow timer (R59). The edge that brings the count to 65535 sets the saturation mark and sends METER_PULSE
once; an edge that finds the mark set changes neither count nor mark and sends nothing of its own. R4: an edge on channel
B of a dual-channel arm is neither counted nor reported as a pulse arrival; one on a channel not in use changes the
pin's level alone. The other METER_PULSE a dual-channel arm may send is the pattern checker's (R8). -/
def Obligations.EdgesOnChannelAAreCounted : Prop :=
  ∀ (s : State) (a : ArmNo), Ready s →
    let x := s.pulses[a]
    let pulse : List Notice := [.event (.meterPulse a)]
    let restarts : Bool := s.arms[a].state = .lowStart && s.arms[a].noFlowTimer.isSome
    let pinA := { s.pins with pulseA := vset s.pins.pulseA a true }
    let pinB := { s.pins with pulseB := vset s.pins.pulseB a true }
    ((s.armCfg a).used = true → ∃ u, exec (.acceptedRisingEdge a .a) s = .next (settleCommand u)
      ∧ u.pulses[a].levelA = true ∧ (∀ y : ArmNo, y ≠ a → u.pulses[y] = s.pulses[y])
      ∧ u = { s.fresh with
          pins := pinA
          pulses := u.pulses
          arms := vmod s.arms a fun y =>
            { y with
              quiet := 0
              noFlowTimer := if restarts then some ⟨0, (s.armCfg a).noFlowTime * 10000⟩ else y.noFlowTimer
              noFlowCond := if restarts then false else y.noFlowCond }
          inbox := (if x.saturated = false ∧ 65534 ≤ x.count then pulse else [])
            ++ (if (s.armCfg a).dual = true ∧ x.last = .a ∧ 256 ≤ x.score + 16 then pulse else [])
            ++ (if restarts && s.arms[a].noFlowCond then [.condition (.noFlow a) false] else []) }
      ∧ (x.saturated = true → u.pulses[a].count = x.count ∧ u.pulses[a].saturated = true)
      ∧ (x.saturated = false → x.count < 65534 →
          u.pulses[a].count = x.count + 1 ∧ u.pulses[a].saturated = false)
      ∧ (x.saturated = false → 65534 ≤ x.count → u.pulses[a].count = 65535 ∧ u.pulses[a].saturated = true)) ∧
    ((s.armCfg a).used = true → (s.armCfg a).dual = true →
      ∃ u, exec (.acceptedRisingEdge a .b) s = .next (settleCommand u)
      ∧ u.pulses[a].levelB = true ∧ u.pulses[a].count = x.count ∧ u.pulses[a].saturated = x.saturated
      ∧ (∀ y : ArmNo, y ≠ a → u.pulses[y] = s.pulses[y])
      ∧ u = { s.fresh with
          pins := pinB
          pulses := u.pulses
          inbox := if x.last = .b ∧ 256 ≤ x.score + 16 then pulse else [] }) ∧
    ((s.armCfg a).used = false →
      exec (.acceptedRisingEdge a .a) s = .next ({ s.fresh with pins := pinA } : State).write) ∧
    ((s.armCfg a).used = false ∨ (s.armCfg a).dual = false →
      exec (.acceptedRisingEdge a .b) s = .next ({ s.fresh with pins := pinB } : State).write)

/-- R7, R9, and the score of R8: the pattern checker of a dual-channel meter, edge by edge. A violation raises the
score by 16, to METER_PULSE and 0 at 256, and unlocks; a clean pair lowers the score, and the 64th locks; the other
edges leave score, count and lock. -/
def Obligations.PatternCheckerFollowsTheTable : Prop :=
  ∀ (s : State) (a : ArmNo) (ch : Channel), Ready s → (s.armCfg a).used = true → (s.armCfg a).dual = true →
    ∃ u, exec (.acceptedRisingEdge a ch) s = .next (settleCommand u)
      ∧ u = { s.fresh with pins := u.pins, pulses := u.pulses, arms := u.arms, inbox := u.inbox }
      ∧ OtherArmsSame a s u ∧ (∀ x : ArmNo, x ≠ a → u.pulses[x] = s.pulses[x])
      ∧ (s.pulses[a].last = .none →
          u.pulses[a].last = (match ch with | .a => .a | .b => .b)
            ∧ u.pulses[a].score = s.pulses[a].score ∧ u.pulses[a].cleanPairs = s.pulses[a].cleanPairs
            ∧ u.pulses[a].locked = s.pulses[a].locked)
      ∧ (s.pulses[a].last = .b → ch = .a →
          u.pulses[a].last = .a ∧ u.pulses[a].score = s.pulses[a].score
            ∧ u.pulses[a].cleanPairs = s.pulses[a].cleanPairs ∧ u.pulses[a].locked = s.pulses[a].locked)
      ∧ (s.pulses[a].last = .a → ch = .b →
          u.pulses[a].last = .b ∧ u.pulses[a].score = s.pulses[a].score - 1
            ∧ u.pulses[a].cleanPairs = (if s.pulses[a].cleanPairs < 64 then s.pulses[a].cleanPairs + 1
                else s.pulses[a].cleanPairs)
            ∧ (64 ≤ u.pulses[a].cleanPairs → u.pulses[a].locked = true)
            ∧ (u.pulses[a].cleanPairs < 64 → u.pulses[a].locked = s.pulses[a].locked))
      ∧ ((s.pulses[a].last = .a ∧ ch = .a) ∨ (s.pulses[a].last = .b ∧ ch = .b) →
          u.pulses[a].last = s.pulses[a].last ∧ u.pulses[a].cleanPairs = 0 ∧ u.pulses[a].locked = false
            ∧ (s.pulses[a].score + 16 < 256 → u.pulses[a].score = s.pulses[a].score + 16)
            ∧ (256 ≤ s.pulses[a].score + 16 →
                u.pulses[a].score = 0 ∧ .event (.meterPulse a) ∈ u.inbox))

/-- R13, R14: a reading record on a used arm's line is corrected, judged and stored, restarts the record timer and
sets the probe fault condition; a dropped record changes nothing; a record timer that reaches 2.0 s makes the
condition present. A change of the condition is reported to the arm's TEMP_PROBE instance. -/
def Obligations.ReadingsAreJudgedAndTimed : Prop :=
  ∀ (s : State) (a : ArmNo), Ready s → (s.armCfg a).used = true →
    (∀ r : ReadingRecord,
      let v := r.reading.toInt + (s.armCfg a).tempOffset
      let good := decide (r.status = .good ∧ -4000 ≤ v ∧ v ≤ 9000)
      ∃ u, exec (.readingRecord a (some r)) s = .next (settleCommand u)
        ∧ u.temps[a] = { lastReading := some ⟨v, r.status, good⟩
                         lastGood := if good then some v else s.temps[a].lastGood
                         recordTimer := some ⟨0, 200000⟩
                         fault := !good }
        ∧ u.inbox = (if s.temps[a].fault = !good then [] else [.condition (.tempProbe a) (!good)])
        ∧ (∀ x : ArmNo, x ≠ a → u.temps[x] = s.temps[x])
        ∧ u = { s.fresh with temps := u.temps, inbox := u.inbox }) ∧
    (exec (.readingRecord a none) s = .next s.fresh.write) ∧
    (isRunning s.temps[a].recordTimer = true →
      ∃ u, exec (.recordTimerExpiry a) s = .next (settleCommand u)
        ∧ u.temps[a].fault = true ∧ hasRunOut u.temps[a].recordTimer = true
        ∧ u.temps[a].lastReading = s.temps[a].lastReading ∧ u.temps[a].lastGood = s.temps[a].lastGood
        ∧ u.inbox = (if s.temps[a].fault = true then [] else [.condition (.tempProbe a) true])
        ∧ (∀ x : ArmNo, x ≠ a → u.temps[x] = s.temps[x])
        ∧ u = { s.fresh with temps := u.temps, inbox := u.inbox })

/-- R21: the flow rate of an interval is floor(n × 24000 / K), clamped to 65535; the clamped rate is used for the meter
factor and reported as it stands, and the volume comes from the count. -/
def Obligations.FlowRateIsClamped : Prop :=
  ∀ (s : State) (a : ArmNo), Ready s → (s.armCfg a).used = true →
    let n := s.pulses[a].count
    let k := (s.armCfg a).k
    ∃ t, exec (.intervalExpiry a) s = .next t
      ∧ t.meters[a].q = (if 65535 < n * 24000 / k then 65535 else n * 24000 / k)
      ∧ (armStatusOf a t).q = t.meters[a].q
      ∧ t.meters[a].lastMf = some (meterFactor (s.armCfg a) t.meters[a].q)
      ∧ t.meters[a].totaliser = (s.meters[a].totaliser
          + (n * meterFactor (s.armCfg a) t.meters[a].q * 1000 + s.meters[a].rG) / k) % 1000000000000000

/-- R19, R22, R23, R27: one expiry. The count is handed over and the timer restarts; the gross increment and the new
carry make up the numerator n × MF × 1000 + rG exactly, so no volume is lost to rounding; the totaliser takes the
increment modulo 10^15. Other arms' meters are as they were. -/
def Obligations.IntervalLosesNoVolume : Prop :=
  ∀ (s : State) (a : ArmNo), Ready s → (s.armCfg a).used = true → 0 < (s.armCfg a).k →
    ∃ t dg, exec (.intervalExpiry a) s = .next t
      ∧ t.pulses[a].count = 0 ∧ t.pulses[a].saturated = false ∧ t.meters[a].interval = 0
      ∧ t.meters[a].lastMf = some (meterFactor (s.armCfg a) t.meters[a].q)
      ∧ dg * (s.armCfg a).k + t.meters[a].rG
          = s.pulses[a].count * meterFactor (s.armCfg a) t.meters[a].q * 1000 + s.meters[a].rG
      ∧ t.meters[a].rG < (s.armCfg a).k
      ∧ t.meters[a].totaliser = (s.meters[a].totaliser + dg) % 1000000000000000
      ∧ (∀ x : ArmNo, x ≠ a → t.pulses[x] = s.pulses[x]
          ∧ t.meters[x].totaliser = s.meters[x].totaliser ∧ t.meters[x].rG = s.meters[x].rG)

/-- R20, R28, R29, R30: where an interval's volume goes. On an IDLE arm it goes to the unattended volume; on an arm
with a compartment it goes to the compartment's gross volume, the unattended volume unchanged; the leak volume takes
it in IDLE, ARMED and HELD, and LEAK is sent when an addition leaves it above the unattended limit (R39: an interval that
adds nothing sends none). R24 to R26, R28: on an arm with a compartment the VCF of the temperature used, clamped, gives
the standard increment and the new carry, and the compartment's S, temperature sum and marks. That the VCF of an arm
without a temperature value is computed, and kept as the last one, is the model's reading of R24 (assumption 48). -/
def Obligations.IntervalPlacesItsVolume : Prop :=
  ∀ (s : State) (a : ArmNo), Ready s → (s.armCfg a).used = true →
    let dg := (intervalGross (s.armCfg a) s.pulses[a].count s.meters[a].rG).dg
    ∃ u, exec (.intervalExpiry a) s = .next (settleCommand u)
      ∧ (s.arms[a].state = .idle →
          u.meters[a].unattended = (s.meters[a].unattended + dg) % 1000000000000000)
      ∧ (s.arms[a].state ≠ .idle → u.meters[a].unattended = s.meters[a].unattended)
      ∧ (s.arms[a].state.leakWatched = true → 0 < dg →
          (s.meters[a].leak + dg ≤ (s.armCfg a).unattendedLimit * 100000 →
            u.meters[a].leak = s.meters[a].leak + dg ∧ u.inbox = []) ∧
          ((s.armCfg a).unattendedLimit * 100000 < s.meters[a].leak + dg →
            u.meters[a].leak = 0 ∧ u.inbox = [.event (.leak a)]))
      ∧ (s.arms[a].state.leakWatched = true → dg = 0 → u.meters[a].leak = s.meters[a].leak ∧ u.inbox = [])
      ∧ (s.arms[a].state.leakWatched = false → u.meters[a].leak = s.meters[a].leak)
      ∧ (s.arms[a].state ≠ .idle → ∀ r, s.armComp a = some r → r.acc.g + dg < 18446744073709551616 →
          ∃ r', u.armComp a = some r' ∧ r'.acc.g = r.acc.g + dg ∧ r'.acc.totStart = r.acc.totStart)
      ∧ (s.arms[a].state = .idle →
          u.meters[a].lastVcf = s.meters[a].lastVcf ∧ u.meters[a].rS = s.meters[a].rS)
      ∧ (s.arms[a].state ≠ .idle → ∀ oc r, s.arms[a].comp = some oc → s.compRec oc.bay oc.comp = some r →
          let tref : Int := s.cfg.rack.tref
          let t : Int := s.temps[a].lastGood.getD tref
          let alpha : Int := s.cfg.products[oc.product].alpha
          let gamma : Int := s.cfg.products[oc.product].gamma
          let x : Int := alpha * (t - tref) * 100000 - gamma * ((t - tref) * (t - tref))
          let raw : Int := 100000 - (if 0 ≤ x then (x + 50000000) / 100000000 else -((-x + 50000000) / 100000000))
          let vcf : Nat := (max 90000 (min 110000 raw)).toNat
          let ns : Nat := dg * vcf + s.meters[a].rS
          let sum : Int := r.acc.tempSum + (dg : Int) * t
          u.meters[a].lastVcf = some vcf ∧ u.meters[a].rS = ns % 100000
            ∧ ∃ r', u.compRec oc.bay oc.comp = some r'
              ∧ (r.acc.s + ns / 100000 < 18446744073709551616 → r'.acc.s = r.acc.s + ns / 100000)
              ∧ (-9223372036854775808 ≤ sum → sum < 9223372036854775808 → r'.acc.tempSum = sum)
              ∧ (r'.acc.tempHeld = true ↔ r.acc.tempHeld = true
                  ∨ (0 < dg ∧ (s.temps[a].fault = true ∨ s.temps[a].lastGood = none)))
              ∧ (r'.acc.vcfLimited = true ↔ r.acc.vcfLimited = true
                  ∨ (0 < dg ∧ (raw < 90000 ∨ 110000 < raw))))
      ∧ OtherArmsSame a s u ∧ (∀ x : ArmNo, x ≠ a → u.pulses[x] = s.pulses[x] ∧ u.meters[x] = s.meters[x])
      ∧ u = { s.fresh with
          pulses := u.pulses, meters := u.meters, arms := u.arms, pumps := u.pumps, injectors := u.injectors
          bays := u.bays, inbox := u.inbox }

/-- R45, R47: the compare points on an interval report of a flowing arm: the highest row of the table that holds is
entered, CLOSING with the command CLOSE and the closing limit timer from 0; a report that allows no further state
leaves the arm in its state. -/
def Obligations.ReportsMoveTheArmForward : Prop :=
  ∀ (s : State) (a : ArmNo) (oc : OnArm), Ready s → (s.armCfg a).used = true →
    s.arms[a].state.flowing = true → s.arms[a].comp = some oc → (s.armComp a).isSome = true →
    ∃ u r, exec (.intervalExpiry a) s = .next (settleCommand u) ∧ u.armComp a = some r
      ∧ u.arms[a].comp = some oc ∧ OtherArmsSame a s u
      ∧ u = { s.fresh with
          pulses := u.pulses, meters := u.meters, arms := u.arms, pumps := u.pumps, injectors := u.injectors
          bays := u.bays, inbox := u.inbox }
      ∧ u.arms[a].state =
          (if oc.closePoint ≤ basisVolume oc.basis r.acc then .closing
           else if oc.tripDownPoint ≤ basisVolume oc.basis r.acc
                ∧ (s.arms[a].state = .lowStart → s.arms[a].waiting = false) then .lowFinish
           else if oc.startPoint ≤ basisVolume oc.basis r.acc ∧ s.pulses[a].locked = true
                ∧ (basisVolume oc.basis r.acc : Int) < oc.tripDownPoint
                ∧ s.arms[a].state = .lowStart ∧ s.arms[a].waiting = false then .highFlow
           else s.arms[a].state)
      ∧ (u.arms[a].state = .closing → u.arms[a].command = .close ∧ u.arms[a].noFlowTimer = none
          ∧ u.arms[a].closingLimit = some ⟨0, 3 * (s.armCfg a).valveTravel * 10000 + 200000⟩)

/-! ### Arms -/

/-- R58: once the travel allowance is over, every change of either switch of a used arm, and the running out of the
allowance, compare the switches with the command; a change of the VALVE condition is reported; during the allowance a
change of either switch reports nothing. -/
def Obligations.SwitchesAreComparedAfterTravel : Prop :=
  ∀ (s : State) (a : ArmNo), Ready s → (s.armCfg a).used = true →
    let reported (present : Bool) : List Notice :=
      if s.arms[a].valveCond = present then [] else [.condition (.valve a) present]
    let closedPin (level : Bool) := { s.pins with closedSwitch := vset s.pins.closedSwitch a level }
    let openPin (level : Bool) := { s.pins with openSwitch := vset s.pins.openSwitch a level }
    (∀ level : Bool, s.arms[a].travel = none →
      let present := !switchesAgree s.arms[a].command level s.pins.openSwitch[a]
      exec (.valveSwitchChange a .closed level) s = .next (settleCommand
        { s.fresh with
            pins := closedPin level
            arms := vmod s.arms a fun x => { x with valveCond := present }
            inbox := reported present ++ [.testArm a] })) ∧
    (∀ level : Bool, s.arms[a].travel = none →
      let present := !switchesAgree s.arms[a].command s.pins.closedSwitch[a] level
      exec (.valveSwitchChange a .opened level) s = .next (settleCommand
        { s.fresh with
            pins := openPin level
            arms := vmod s.arms a fun x => { x with valveCond := present }
            inbox := reported present ++ [.testArm a] })) ∧
    (∀ level : Bool, s.arms[a].travel ≠ none →
      exec (.valveSwitchChange a .closed level) s = .next (settleCommand
          { s.fresh with pins := closedPin level, inbox := [.testArm a] })
        ∧ exec (.valveSwitchChange a .opened level) s = .next (settleCommand
          { s.fresh with pins := openPin level, inbox := [.testArm a] })) ∧
    (isRunning s.arms[a].travel = true →
      let present := !switchesAgree s.arms[a].command s.pins.closedSwitch[a] s.pins.openSwitch[a]
      exec (.travelAllowanceExpiry a) s = .next (settleCommand
        { s.fresh with
            arms := vmod s.arms a fun x => { x with travel := none, valveCond := present }
            inbox := reported present }))

/-- R48, R59: the quiet timer that reaches 2.0 s makes the arm test its settled condition; the no-flow timer that runs
out in LOW_START or HIGH_FLOW makes the NO_FLOW condition present, which is reported. R48, R49, R50, R52: what a
settled valve does: a halting arm enters HELD with its closing limit timer stopped; a closing arm completes as PRESET when
its valve is settled, or its closing limit has run out, and no shot is outstanding, and else stays as it is; in the other
states the test changes nothing. -/
def Obligations.ArmTimersAndTheSettledTest : Prop :=
  (∀ (s : State) (a : ArmNo), Ready s →
     (s.arms[a].quiet < 200000 →
       exec (.quietTimerExpiry a) s = .next (settleCommand
         { s.fresh with
             arms := vmod s.arms a fun x => { x with quiet := 200000 }
             inbox := [.testArm a] })) ∧
     (∀ t, s.arms[a].noFlowTimer = some t → t.elapsed < t.limit → s.arms[a].noFlowCond = false →
       s.arms[a].state = .lowStart ∨ s.arms[a].state = .highFlow →
       exec (.noFlowTimerExpiry a) s = .next (settleCommand
         { s.fresh with
             arms := vmod s.arms a fun x =>
               { x with noFlowTimer := some ⟨t.limit, t.limit⟩, noFlowCond := true }
             inbox := [.condition (.noFlow a) true] }))) ∧
  (∀ (s : State) (a : ArmNo),
     (s.arms[a].state = .halting → valveSettled s a = true →
       (take (.testArm a) s).arms[a].state = .held ∧ (take (.testArm a) s).arms[a].closingLimit = none
         ∧ OtherArmsSame a s (take (.testArm a) s)) ∧
     (s.arms[a].state = .halting → valveSettled s a = false → take (.testArm a) s = s) ∧
     (s.arms[a].state = .closing →
       (valveSettled s a = false ∧ hasRunOut s.arms[a].closingLimit = false) ∨ s.arms[a].outstanding ≠ 0 →
       take (.testArm a) s = s) ∧
     (∀ oc r, s.arms[a].state = .closing → s.arms[a].outstanding = 0 →
       valveSettled s a = true ∨ hasRunOut s.arms[a].closingLimit = true →
       s.arms[a].comp = some oc → s.compRec oc.bay oc.comp = some r →
       let t := take (.testArm a) s
       t.arms[a].state = .idle ∧ t.arms[a].comp = none ∧ .completed oc.bay oc.comp ∈ t.inbox
         ∧ (t.compRec oc.bay oc.comp).map CompRec.endReason = some (some .preset)
         ∧ OtherArmsSame a s t ∧ (∀ x : BayNo, x ≠ oc.bay → t.bays[x] = s.bays[x])) ∧
     (s.arms[a].state ≠ .closing → s.arms[a].state ≠ .halting → take (.testArm a) s = s))

/-- R50: the closing limit that runs out sets the valve-not-confirmed mark; a halting arm enters HELD; a closing arm
completes as PRESET at once when no shot is outstanding, teaching nothing (R56), and else stays in CLOSING. -/
def Obligations.ClosingLimitEndsTheWait : Prop :=
  ∀ (s : State) (a : ArmNo) (oc : OnArm) (r : CompRec), Ready s → (s.armCfg a).used = true →
    isRunning s.arms[a].closingLimit = true → s.arms[a].comp = some oc → s.compRec oc.bay oc.comp = some r →
    ∃ u r', exec (.closingLimitExpiry a) s = .next (settleCommand u)
      ∧ u.compRec oc.bay oc.comp = some r'
      ∧ (s.arms[a].state = .halting ∨ s.arms[a].state = .closing → r'.valveNotConfirmed = true)
      ∧ (s.arms[a].state = .halting → u.arms[a].state = .held ∧ u.arms[a].comp = some oc)
      ∧ (s.arms[a].state = .closing → s.arms[a].outstanding = 0 →
          u.arms[a].state = .idle ∧ u.arms[a].comp = none ∧ u.arms[a].closeAhead = s.arms[a].closeAhead
            ∧ r'.state = .complete ∧ r'.endReason = some .preset)
      ∧ (s.arms[a].state = .closing → 0 < s.arms[a].outstanding →
          u.arms[a].state = .closing ∧ u.arms[a].comp = some oc ∧ r'.endReason = r.endReason)
      ∧ OtherArmsSame a s u ∧ OtherBaysSame oc.bay s u
      ∧ u = { s.fresh with arms := u.arms, bays := u.bays, inbox := u.inbox }

/-- R49, R53, R55, R56: a completion. A settled closing arm with no shot outstanding completes as PRESET, a HELD arm
of an ending session as STOPPED: the result is written, the arm is IDLE with no compartment and no shot outstanding,
the completion goes to the bay, and a PRESET completion without the valve-not-confirmed mark teaches the close-ahead.
-/
def Obligations.CompletionClosesTheCompartment : Prop :=
  ∀ (s : State) (a : ArmNo) (oc : OnArm) (r : CompRec), Ready s → (s.armCfg a).used = true →
    s.arms[a].comp = some oc → s.compRec oc.bay oc.comp = some r →
    (s.arms[a].state = .closing ∧ valveSettled s a = true ∧ s.arms[a].outstanding = 0) ∨
      (s.arms[a].state = .held ∧ SessionIn s oc.bay .ending) →
    ∃ u r' x, exec (.compartmentCompletion a) s = .next (settleCommand u)
      ∧ u.compRec oc.bay oc.comp = some r' ∧ r'.state = .complete ∧ r'.result = some x
      ∧ r'.endReason = some (if s.arms[a].state = .closing then .preset else .stopped)
      ∧ x.grossDl = (r.acc.g + 50000) / 100000 ∧ x.standardDl = (r.acc.s + 50000) / 100000
      ∧ x.totStart = r.acc.totStart ∧ x.totEnd = s.meters[a].totaliser
      ∧ u.arms[a].state = .idle ∧ u.arms[a].command = .close ∧ u.arms[a].comp = none
      ∧ u.arms[a].outstanding = 0 ∧ u.arms[a].closingLimit = none
      ∧ u.arms[a].closeAhead =
          (if s.arms[a].state = .closing ∧ r.valveNotConfirmed = false
           then learn s.arms[a].closeAhead (s.armCfg a).closeAheadMax (x.deliveredOn oc.basis) oc.preset
           else s.arms[a].closeAhead)
      ∧ .completed oc.bay oc.comp ∈ u.inbox
      ∧ (∀ l' ∈ r'.lines, l'.next = l'.due)
      ∧ OtherArmsSame a s u ∧ OtherBaysSame oc.bay s u
      ∧ u = { s.fresh with arms := u.arms, bays := u.bays, inbox := u.inbox }

/-! ### Pumps -/

/-- R44, R62: the run time that reaches a waiting arm's start delay ends its wait: the arm leaves the waiting arms,
commands LOW and starts its no-flow timer. R63: the stop delay that runs out turns the pump off and clears its run
time. -/
def Obligations.PumpDelaysEnd : Prop :=
  ∀ s : State, Ready s →
    (∀ (a : ArmNo) (p : PumpNo), (s.armCfg a).used = true → s.mode.mayFlow = true →
      s.arms[a].state = .lowStart → s.arms[a].waiting = true → s.arms[a].command = .close →
      pumpOf s a = some p → a ∈ s.pumps[p].waiting → s.pumps[p].run.isSome = true →
      ∃ u, exec (.pumpStartDelayReached a) s = .next (settleCommand u)
        ∧ u.arms[a].waiting = false ∧ u.arms[a].state = .lowStart ∧ u.arms[a].command = .low
        ∧ u.arms[a].noFlowTimer = some ⟨0, (s.armCfg a).noFlowTime * 10000⟩
        ∧ u.arms[a].travel = some ⟨0, (s.armCfg a).valveTravel * 10000⟩
        ∧ a ∉ u.pumps[p].waiting ∧ u.pumps[p].state = s.pumps[p].state ∧ u.pumps[p].demand = s.pumps[p].demand
        ∧ OtherArmsSame a s u ∧ (∀ x : PumpNo, x ≠ p → u.pumps[x] = s.pumps[x])
        ∧ u = { s.fresh with arms := u.arms, pumps := u.pumps, inbox := u.inbox }) ∧
    (∀ p : PumpNo, s.pumps[p].state = .runDown →
      exec (.stopDelayExpiry p) s = .next
        ({ s.fresh with
            pumps := vmod s.pumps p fun u => { u with state := .off, run := none, stopDelay := none } } : State).write)

/-! ### Injectors -/

/-- R69, R72, R73, R76: an additive pulse at a used injector counts to the shot in SHOT, ending it as COMPLETE at its
target, and in AFTER; in IDLE it counts to the leak pulses, and INJ_LEAK is sent when the leak volume passes the leak
limit. An unused injector takes only the pin's level. -/
def Obligations.AdditivePulsesCountByState : Prop :=
  ∀ (s : State) (i : InjNo), Ready s →
    ((s.injCfg i).used = true → ∃ u, exec (.additivePulse i) s = .next (settleCommand u)
      ∧ OtherInjsSame i s u
      ∧ u = { s.fresh with
          pins := { s.pins with additive := vset s.pins.additive i true }
          injectors := u.injectors, bays := u.bays, inbox := u.inbox }
      ∧ (∀ x, s.injectors[i].state = .shot → s.injectors[i].current = some x → x.pulses + 1 < x.target →
          u.injectors[i].state = .shot ∧ u.injectors[i].current = some { x with pulses := x.pulses + 1 })
      ∧ (∀ x, s.injectors[i].state = .shot → s.injectors[i].current = some x → x.target ≤ x.pulses + 1 →
          u.injectors[i].state = .after ∧ solenoid u i = false
            ∧ u.injectors[i].current = some { x with pulses := x.pulses + 1, ending := some .complete }
            ∧ u.injectors[i].shotTimer = none
            ∧ u.injectors[i].settleTimer = some ⟨0, (s.injCfg i).settle * 10000⟩)
      ∧ (∀ x, s.injectors[i].state = .after → s.injectors[i].current = some x →
          u.injectors[i].current = some { x with pulses := x.pulses + 1 } ∧ u.inbox = [])
      ∧ (s.injectors[i].state = .idle →
          ((s.injectors[i].leakPulses + 1) * 1000000 / (s.injCfg i).kAdd ≤ (s.injCfg i).leakLimit * 100 →
            u.injectors[i].leakPulses = s.injectors[i].leakPulses + 1 ∧ u.inbox = []) ∧
          ((s.injCfg i).leakLimit * 100 < (s.injectors[i].leakPulses + 1) * 1000000 / (s.injCfg i).kAdd →
            u.injectors[i].leakPulses = 0 ∧ u.inbox = [.event (.injLeak i)]))) ∧
    ((s.injCfg i).used = false →
      exec (.additivePulse i) s = .next
        ({ s.fresh with pins := { s.pins with additive := vset s.pins.additive i true } } : State).write)

/-- R72: the shot timer that reaches the shot time limit ends the shot as SHORTFALL: solenoid closed, settle timer
from 0, shortfalls counted, and INJ_NO_FLOW sent for a shot without a pulse. R74: a finished shot is judged: one that
is too far from its nominal volume, or without a pulse, adds to the bad count, which sends INJ_DOSE and returns to 0
at the bad-shot limit; a good one sets the count to 0; a shot ended by TRIP is not judged. R70, R71: a request that comes
outside RUN or to a full queue is refused and missed; another joins the queue, from which an IDLE injector takes the
oldest into SHOT with its target. R68: after an expiry accounted under a posting state no shot of the compartment that has
fallen due is left unposted. R77: an arm that halts takes its requests out of the queues of the injectors its lines name,
and each line's next shot goes back to the lowest taken. R80: a trip ends the shot and empties the queue into the missed
counts, and its second stage finishes the shot. -/
def Obligations.ShotEndsAndIsJudged : Prop :=
  (∀ (s : State) (i : InjNo) (x : Shot), Ready s → s.injectors[i].state = .shot →
     s.injectors[i].current = some x →
     ∃ u, exec (.shotTimeLimit i) s = .next (settleCommand u)
       ∧ u.injectors[i].state = .after ∧ solenoid u i = false
       ∧ u.injectors[i].current = some { x with ending := some .shortfall }
       ∧ u.injectors[i].shotTimer = none ∧ u.injectors[i].settleTimer = some ⟨0, (s.injCfg i).settle * 10000⟩
       ∧ u.injectors[i].shortfalls =
           (if s.injectors[i].shortfalls < 65535 then s.injectors[i].shortfalls + 1 else s.injectors[i].shortfalls)
       ∧ u.inbox = (if x.pulses = 0 then [.event (.injNoFlow i)] else [])
       ∧ OtherInjsSame i s u
       ∧ u = { s.fresh with injectors := u.injectors, bays := u.bays, inbox := u.inbox }) ∧
  (∀ (s : State) (i : InjNo) (x : Shot) (measured d : Nat),
     let bad := x.pulses = 0 ∨ (s.injCfg i).tolerance * d < natDiff measured (d * 100)
     let t := judgeShot i x measured d s
     (x.ending = some .trip → t = s) ∧
     (x.ending ≠ some .trip → ¬bad → t.injectors[i].badCount = 0 ∧ t.inbox = s.inbox) ∧
     (x.ending ≠ some .trip → bad → s.injectors[i].badCount + 1 < (s.injCfg i).badLimit →
       t.injectors[i].badCount = s.injectors[i].badCount + 1 ∧ t.inbox = s.inbox) ∧
     (x.ending ≠ some .trip → bad → (s.injCfg i).badLimit ≤ s.injectors[i].badCount + 1 →
       t.injectors[i].badCount = 0 ∧ t.inbox = s.inbox ++ [.event (.injDose i)])) ∧
  (∀ (s : State) (i : InjNo) (q : ShotRequest) (l : AdditiveLine), s.lineOf q = some l →
     let t := postShot i q s
     let x := s.injectors[i]
     (s.mode ≠ .run ∨ 4 ≤ x.queue.length →
       t.injectors[i] = { x with refused := if x.refused < 65535 then x.refused + 1 else x.refused }
         ∧ t.lineOf q = some { l with missed := l.missed + 1 } ∧ t.arms = s.arms ∧ OtherInjsSame i s t) ∧
     (s.mode = .run → x.queue.length < 4 →
       t.arms[q.arm].outstanding = s.arms[q.arm].outstanding + 1 ∧ t.lineOf q = some l ∧ OtherInjsSame i s t
         ∧ (x.state ≠ .idle → t.injectors[i] = { x with queue := x.queue ++ [q] })
         ∧ (x.state = .idle → x.queue = [] → t.injectors[i].state = .shot ∧ solenoid t i = true
             ∧ t.injectors[i].queue = []
             ∧ t.injectors[i].current = some
                 { req := q, pulses := 0, target := (l.d * (s.injCfg i).kAdd + 9999) / 10000, ending := none }
             ∧ t.injectors[i].shotTimer = some ⟨0, (s.injCfg i).shotLimit * 10000⟩
             ∧ t.injectors[i].started = if x.started < 65535 then x.started + 1 else x.started))) ∧
  (∀ (s : State) (a : ArmNo) (st : ArmState),
     let t := postShots a st s
     (st.flowingOrClosing = false → t = s) ∧
     (∀ oc r n l, st.flowingOrClosing = true → s.arms[a].comp = some oc → s.compRec oc.bay oc.comp = some r →
       n = 1 ∨ n = 2 → s.lineOf ⟨a, oc.bay, oc.comp, n, 0⟩ = some l →
       ∃ l', t.lineOf ⟨a, oc.bay, oc.comp, n, 0⟩ = some l' ∧ l.next ≤ l'.next ∧ l'.due = l.due
         ∧ (l'.next < l.due → r.acc.g < l'.next * l.d * 100000000 / l.r)
         ∧ (∀ k, l.next ≤ k → k < l'.next → k < l.due ∧ k * l.d * 100000000 / l.r ≤ r.acc.g))) ∧
  (∀ (s : State) (a : ArmNo) (r : CompRec), s.armComp a = some r →
     let t := withdrawShots a s
     let taken := allInjs.flatMap fun i =>
       if r.names i then s.injectors[i].queue.filter fun q => q.arm = a else []
     let ks (l : AdditiveLine) : List Nat := (taken.filter fun q => q.line = l.number).map ShotRequest.k
     (∀ i : InjNo, t.injectors[i] = { s.injectors[i] with
         queue := if r.names i then s.injectors[i].queue.filter fun q => q.arm ≠ a else s.injectors[i].queue })
       ∧ t.arms[a].outstanding = s.arms[a].outstanding - taken.length
       ∧ (∃ r', t.armComp a = some r' ∧ r'.lines = r.lines.map fun l => match (ks l).min? with
           | none => l
           | some low => { l with next := low, missed := l.missed - ((l.next - low) - (ks l).length) })) ∧
  (∀ (s : State) (i : InjNo), (s.injCfg i).used = true →
     (s.injectors[i].state = .idle ∨ s.injectors[i].current.isSome = true) →
     let t := take (.tripInjector i) s
     t.injectors[i].queue = [] ∧ solenoid t i = false ∧ OtherInjsSame i s t
       ∧ (∀ x, s.injectors[i].state = .shot → s.injectors[i].current = some x →
           t.injectors[i].state = .after ∧ t.injectors[i].current = some { x with ending := some .trip })
       ∧ (s.injectors[i].state ≠ .shot →
           t.injectors[i].state = s.injectors[i].state ∧ t.injectors[i].current = s.injectors[i].current)
       ∧ (∀ q l, s.lineOf q = some l → t.lineOf q = some { l with
           missed := l.missed + s.injectors[i].queue.countP fun y =>
             y.bay = q.bay ∧ y.comp = q.comp ∧ y.line = q.line })
       ∧ (take (.stageTwoInjector i) s).injectors[i].state = .idle
       ∧ (take (.stageTwoInjector i) s).injectors[i].queue = [])

/-- R73, R75: the settle time that is over finishes the shot: the volume measured is the pulses with the carry divided
by K_add, the remainder is the new carry, the line gets one delivered shot and the volume, and the injector is IDLE,
or in its next shot when a request waits. -/
def Obligations.SettledShotIsMeasured : Prop :=
  ∀ (s : State) (i : InjNo) (x : Shot) (l : AdditiveLine), Ready s → 0 < (s.injCfg i).kAdd →
    s.injectors[i].state = .after → s.injectors[i].current = some x → s.lineOf x.req = some l →
    l.measured + (x.pulses * 1000000 + s.injectors[i].carry) / (s.injCfg i).kAdd < 18446744073709551616 →
    ∃ u l', exec (.settleTimeExpiry i) s = .next (settleCommand u)
      ∧ u.lineOf x.req = some l'
      ∧ l'.delivered = l.delivered + 1
      ∧ l'.measured * (s.injCfg i).kAdd + u.injectors[i].carry
          = l.measured * (s.injCfg i).kAdd + (x.pulses * 1000000 + s.injectors[i].carry)
      ∧ u.injectors[i].carry < (s.injCfg i).kAdd
      ∧ (s.injectors[i].queue = [] → u.injectors[i].state = .idle ∧ u.injectors[i].current = none
          ∧ u.injectors[i].settleTimer = none)
      ∧ (∀ q rest, s.injectors[i].queue = q :: rest → u.injectors[i].state = .shot
          ∧ u.injectors[i].queue = rest ∧ u.injectors[i].current.map Shot.req = some q)
      ∧ .shotWritten x.req.bay i ∈ u.inbox
      ∧ OtherInjsSame i s u ∧ OtherArmsSame x.req.arm s u
      ∧ u = { s.fresh with arms := u.arms, injectors := u.injectors, bays := u.bays, inbox := u.inbox }

/-! ### Bays -/

/-- R112, R129: a permit input that changes is followed, and the bay's three permissive conditions are reported:
present while the bay delivers and the permit is absent, VAPOUR only when vapour is used. A level the input already
has is no change. -/
def Obligations.PermitInputsAreReported : Prop :=
  ∀ (s : State) (b : BayNo) (k : PermitInput) (level : Bool), Ready s →
    (permitLevel s b k ≠ level → ∃ u, exec (.bayPermitChange b k level) s = .next (settleCommand u)
      ∧ u.pins = (match k with
          | .ground => { s.pins with ground := vset s.pins.ground b level }
          | .overfill => { s.pins with overfill := vset s.pins.overfill b level }
          | .vapour => { s.pins with vapour := vset s.pins.vapour b level })
      ∧ u.inbox =
          [.condition (.ground b) (bayDelivering s b && !permitPresent u b .ground),
           .condition (.overfill b) (bayDelivering s b && !permitPresent u b .overfill),
           .condition (.vapour b) (bayDelivering s b && (s.bayCfg b).vapourUsed && !permitPresent u b .vapour)]
      ∧ (∀ j, permitPresent u b j =
          ((if j = k then level else permitLevel s b j) != maskHas (s.bayCfg b).polarity (permitBit j)))
      ∧ OtherBaysSame b s u ∧ SessionsSame s u
      ∧ u = { s.fresh with pins := u.pins, bays := u.bays, inbox := u.inbox }) ∧
    (permitLevel s b k = level → exec (.bayPermitChange b k level) s = .next s.fresh.write)

/-- R123, R124: the deadman window. A press before the window opens is an EARLY violation, a press in it is valid and
lowers the count, a period without a press is a LATE violation; each restarts the timer; the violation that reaches
the limit sends DEADMAN and sets the count to 0. While the timer is stopped a press is judged by nothing and is an
activity event alone, and the window's other two events find nothing. That a press carries the level the input has once
it is over, which the pin takes, is the model's choice (assumption 22). -/
def Obligations.DeadmanPressesAreJudged : Prop :=
  ∀ (s : State) (b : BayNo) (held : Bool), Ready s →
    let limit := (s.bayCfg b).deadmanLimit
    let count := s.bays[b].violations
    let pins := { s.pins with deadman := vset s.pins.deadman b held }
    (∀ t : Timer, s.bays[b].deadman = some t →
      (∃ u, exec (.deadmanPress b held) s = .next (settleCommand u)
        ∧ u.bays[b].deadman = some ⟨0, t.limit⟩
        ∧ (windowTicks (s.bayCfg b) ≤ t.elapsed → u.bays[b].violations = count - 1 ∧ u.inbox = [])
        ∧ (t.elapsed < windowTicks (s.bayCfg b) → count + 1 < limit →
            u.bays[b].violations = count + 1 ∧ u.inbox = []
              ∧ u.bays[b].lastPrompt = some ⟨.deadmanEarly, [count + 1, limit]⟩)
        ∧ (t.elapsed < windowTicks (s.bayCfg b) → limit ≤ count + 1 →
            u.bays[b].violations = 0 ∧ u.inbox = [.event (.deadman b)]
              ∧ u.bays[b].lastPrompt = some ⟨.deadmanEarly, [count + 1, limit]⟩)
        ∧ OtherBaysSame b s u ∧ SessionsSame s u
        ∧ u = { s.fresh with pins := pins, bays := u.bays, inbox := u.inbox }) ∧
      (∃ u, exec (.deadmanLate b) s = .next (settleCommand u)
        ∧ u.bays[b].deadman = some ⟨0, t.limit⟩
        ∧ u.bays[b].lastPrompt = some ⟨.deadmanLate, [count + 1, limit]⟩
        ∧ (count + 1 < limit → u.bays[b].violations = count + 1 ∧ u.inbox = [])
        ∧ (limit ≤ count + 1 → u.bays[b].violations = 0 ∧ u.inbox = [.event (.deadman b)])
        ∧ OtherBaysSame b s u ∧ SessionsSame s u
        ∧ u = { s.fresh with bays := u.bays, inbox := u.inbox }) ∧
      (∃ u, exec (.deadmanWindowOpens b) s = .next u
        ∧ u.bays[b].deadman = some ⟨max t.elapsed (windowTicks (s.bayCfg b)), t.limit⟩
        ∧ u.bays[b].violations = count ∧ OtherBaysSame b s u ∧ SessionsSame s u
        ∧ u = ({ s.fresh with bays := u.bays } : State).write)) ∧
    (s.bays[b].deadman = none →
      (∃ u, exec (.deadmanPress b held) s = .next u
        ∧ u.bays[b].deadman = none ∧ u.bays[b].violations = count ∧ u.bays[b].lastPrompt = s.bays[b].lastPrompt
        ∧ u.bays[b].sent = [] ∧ OtherBaysSame b s u ∧ SessionsSame s u
        ∧ (sessionRuns s b = true → maskHas (s.bayCfg b).activity (2 : Fin 5) = true →
            u.bays[b].attentionFlag = false
              ∧ u.bays[b].attention = some ⟨0, (s.bayCfg b).attention * 100000⟩
              ∧ u.bays[b].abandon = some ⟨0, (s.bayCfg b).abandon * 100000⟩)
        ∧ u = ({ s.fresh with pins := pins, bays := u.bays } : State).write) ∧
      exec (.deadmanLate b) s = .next s.fresh.write ∧ exec (.deadmanWindowOpens b) s = .next s.fresh.write)

/-- R117, R118, R122: the ATTENTION timer that reaches its time sets the attention flag, shows ATTENTION and stays
there; the ABANDON timer that runs out brings the session into ENDING with the cause ABANDONED. -/
def Obligations.IdleTimersAct : Prop :=
  ∀ (s : State) (b : BayNo), Ready s → sessionRuns s b = true →
    (∀ t, s.bays[b].attention = some t → t.elapsed < t.limit →
      exec (.attentionTimerExpiry b) s = .next
        ((s.fresh.modBay b fun x =>
          { x with attention := some ⟨t.limit, t.limit⟩, attentionFlag := true
                   lastPrompt := some ⟨.attention, []⟩, sent := [⟨.attention, []⟩] })).write) ∧
    (isRunning s.bays[b].abandon = true →
      ∃ u, exec (.abandonTimerExpiry b) s = .next (settleCommand u)
        ∧ (u.session b).map Session.state = some .ending
        ∧ (u.session b).map Session.endCause = some (some .abandoned)
        ∧ u.bays[b].attention = none ∧ u.bays[b].abandon = none ∧ u.bays[b].attentionFlag = false
        ∧ u.bays[b].lastPrompt = some ⟨.ending, [3]⟩ ∧ .filingTest b ∈ u.inbox
        ∧ OtherBaysSame b s u ∧ u = { s.fresh with bays := u.bays, inbox := u.inbox })

/-- R100, R119, R148, R149: the filing of an ended session whose arms are IDLE and whose shots are written: the note
joins the end of the store with a number in 1..999,999 that no held note carries, the reservation is used up, the order
leaves the book, the permit has no open session or is gone, and the bay is VACANT and shows NOTE. R142: in the second
stage of a trip the bay then reports that it has no open session, and in no other case. -/
def Obligations.FilingLeavesTheBayVacant : Prop :=
  ∀ (s : State) (b : BayNo) (x : Session), Ready s → s.session b = some x → x.state = .ending →
    bayIdle s b = true → (∀ i ∈ x.injs, holdsShotOf s b i = false) →
    ∃ u n, exec (.noteFiling b) s = .next (settleCommand u)
      ∧ u.session b = none ∧ u.notes.held = s.notes.held ++ [n] ∧ n.number = s.notes.numberFor
      ∧ (s.notes.held.length ≤ 64 → 1 ≤ s.notes.next → s.notes.next ≤ 999999 →
          1 ≤ n.number ∧ n.number ≤ 999999 ∧ (∀ y ∈ s.notes.held, y.number ≠ n.number)
            ∧ u.notes.next = (if n.number = 999999 then 1 else n.number + 1))
      ∧ n.bay = b ∧ n.order = x.order ∧ n.permit = x.permit ∧ n.digest = x.digest
      ∧ n.lines = x.comps.map noteLine ∧ n.finish = stampOf s.line.clock
      ∧ u.notes.reserved = s.notes.reserved - 1
      ∧ (∀ o ∈ u.orders, o.number ≠ x.order)
      ∧ (TableLawful s.permits → ∀ p ∈ u.permits, p.number = x.permit → p.openSession ≠ some b)
      ∧ u.bays[b].lastPrompt = some ⟨.note, [n.number]⟩
      ∧ u.inbox = (if s.mode = .tripping ∧ s.trip.stageTwo = true then [.bayReport b] else [])
      ∧ (u.inbox = [] → (settleCommand u).nv.notes = some (u.notes.held, u.notes.next)
          ∧ (settleCommand u).nv.sessions[b] = none)
      ∧ OtherBaysSame b s u
      ∧ u = { s.fresh with
          permits := u.permits, orders := u.orders, notes := u.notes, bays := u.bays, nv := u.nv, undo := u.undo
          inbox := u.inbox }

/-- R108, R109, R110: an accepted card. With the bay VACANT, every check passed, a usable order and a free slot, the
session opens in CONNECTING under the permit's and the order's figures; the permit's open session is set, the order is
ACTIVE, a slot is reserved, and ORDER is shown. -/
def Obligations.CardOpensASession : Prop :=
  ∀ (s : State) (b : BayNo) (token : BitVec 64) (p : Permit) (o : Order), Ready s →
    cardBayCheck s b = none → findToken s.permits token = some p → findPermit s.permits p.number = some p →
    cardPermitCheck s b p = none → oldestUsable s p.number b p.productMask = some o → 0 < s.notes.free →
    ∃ t, exec (.card b token) s = .next t
      ∧ t.session b = some
          { state := .connecting, permit := p.number, carrier := p.carrier, order := o.number, vehicle := o.vehicle
            comps := o.entries.map (formRecord s), slotReserved := true, start := s.line.clock
            digest := s.setup.digest, endCause := none }
      ∧ t.permits = modPermit s.permits p.number (fun q => { q with openSession := some b })
      ∧ t.orders = s.orders.map (fun y =>
          if y.number = o.number then { y with active := true, sessionBay := some b } else y)
      ∧ t.notes = { s.notes with reserved := s.notes.reserved + 1 }
      ∧ t.bays[b].attention = some ⟨0, (s.bayCfg b).attention * 100000⟩
      ∧ t.bays[b].abandon = some ⟨0, (s.bayCfg b).abandon * 100000⟩
      ∧ t.bays[b].lastPrompt = some ⟨.order, [o.number, o.entries.length, o.vehicle]⟩
      ∧ t.nv.sessions[b] = t.session b ∧ t.nv.permits = some t.permits
      ∧ OtherBaysSame b s t
      ∧ t = ({ s.fresh with permits := t.permits, orders := t.orders, notes := t.notes, bays := t.bays } : State).write

/-- R107, R181: which bytes on a bay's line, after the start byte, are a CARD and which a KEY: a CARD carries the 8 bytes
of its token, a KEY its code 1 SELECT to 7 RESET with two arguments; these forms and no others are taken, and every other
record is malformed and changes nothing. R108, R109: a refused card at a VACANT bay shows the prompt of the first check that fails and changes nothing
else; a card refused for want of an order or of a note slot leaves permits, orders and store as they were; at a bay with
a session a card shows BAY_BUSY and is an activity event. -/
def Obligations.RefusedInputChangesNoRecord : Prop :=
  ∀ (s : State) (b : BayNo) (token : BitVec 64),
    let record (kind : Nat) (body : List Byte) := (bayRecord kind body).drop 1
    let keyBytes (code x y : Nat) := record 2 (be 1 code ++ be 1 x ++ be 1 y)
    let key (code x y : Nat) := bayCommand b (keyBytes code x y)
    (bayCommand b (record 1 (be 8 token.toNat)) = some (.card b token)
      ∧ (∀ (c : CompNo) (a : ArmNo), key 1 (unitNo c) (unitNo a) = some (.select b c a))
      ∧ (∀ a : ArmNo, key 2 (unitNo a) 0 = some (.start b a) ∧ key 3 (unitNo a) 0 = some (.stop b a)
          ∧ key 4 (unitNo a) 0 = some (.resume b a) ∧ key 5 (unitNo a) 0 = some (.finish b a))
      ∧ key 6 0 0 = some (.endKey b) ∧ key 7 0 0 = some (.resetKey b)) ∧
    (∀ bytes c, bayCommand b bytes = some c →
      (∃ t : BitVec 64, bytes = record 1 (be 8 t.toNat) ∧ c = .card b t) ∨
      (∃ (k : CompNo) (a : ArmNo), bytes = keyBytes 1 (unitNo k) (unitNo a) ∧ c = .select b k a) ∨
      (∃ a : ArmNo, (bytes = keyBytes 2 (unitNo a) 0 ∧ c = .start b a) ∨ (bytes = keyBytes 3 (unitNo a) 0 ∧ c = .stop b a)
        ∨ (bytes = keyBytes 4 (unitNo a) 0 ∧ c = .resume b a) ∨ (bytes = keyBytes 5 (unitNo a) 0 ∧ c = .finish b a)) ∨
      (bytes = keyBytes 6 0 0 ∧ c = .endKey b) ∨ (bytes = keyBytes 7 0 0 ∧ c = .resetKey b)) ∧
    (∀ bytes, ((Instr.malformedRecord b bytes).WF ↔ bayCommand b bytes = none)
      ∧ exec (.malformedRecord b bytes) s = .next s.fresh) ∧
    (Ready s → (s.session b).isSome = true →
      exec (.card b token) s = .next ((activity b .card s.fresh).sendShow b .bayBusy []).write) ∧
    (Ready s → s.session b = none →
    (∀ prompt, cardBayCheck s b = some prompt →
      exec (.card b token) s = .next (s.fresh.sendShow b prompt []).write) ∧
    (cardBayCheck s b = none → findToken s.permits token = none →
      exec (.card b token) s = .next (s.fresh.sendShow b .cardUnknown []).write) ∧
    (∀ p prompt, cardBayCheck s b = none → findToken s.permits token = some p →
      cardPermitCheck s b p = some prompt →
      exec (.card b token) s = .next (s.fresh.sendShow b prompt []).write) ∧
    (∀ p, PermitsLawful s → cardBayCheck s b = none → findToken s.permits token = some p →
      cardPermitCheck s b p = none → oldestUsable s p.number b p.productMask = none →
      exec (.card b token) s = .next (s.fresh.sendShow b .noOrder []).write) ∧
    (∀ p o, PermitsLawful s → cardBayCheck s b = none → findToken s.permits token = some p →
      cardPermitCheck s b p = none → oldestUsable s p.number b p.productMask = some o →
      (∀ y ∈ s.orders, y.number = o.number → y.active = false ∧ y.sessionBay = none) → s.notes.free = 0 →
      exec (.card b token) s = .next (s.fresh.sendShow b .notesFull []).write))

/-- R34, R42, R66, R111: an accepted SELECT: the arm takes the compartment with its compare points and enters ARMED,
the compartment is ON_ARM with fresh accumulators and its additive lines, the arm's carries are 0, and SELECTED is
shown. A SELECT that fails a check of R111 shows the prompt of the first that fails, in the order of its table, and
assigns nothing. -/
def Obligations.SelectAssignsTheCompartment : Prop :=
  (∀ (s : State) (b : BayNo) (c : CompNo) (a : ArmNo), Ready s →
    let refused := RefusedAt b (.select b c a) s
    (s.session b = none → refused .notOpen []) ∧
    (SessionIn s b .ending → refused .alreadyEnding []) ∧
    (sessionRuns s b = true →
      (s.compRec b c = none → refused .compUnknown [unitNo c]) ∧
      (∀ r, s.compRec b c = some r →
        (r.state ≠ .notStarted → refused .compDone [unitNo c]) ∧
        (r.state = .notStarted → (s.armCfg a).bay ≠ some b ∨ s.arms[a].state ≠ .idle →
          refused .armBusy [unitNo a]) ∧
        (r.state = .notStarted → (s.armCfg a).bay = some b → s.arms[a].state = .idle →
          maskHas (s.armCfg a).productMask r.product = false → refused .productNotOnArm [unitNo a])))) ∧
  (∀ (s : State) (b : BayNo) (c : CompNo) (a : ArmNo) (r : CompRec), Ready s →
    sessionRuns s b = true → s.compRec b c = some r → r.state = .notStarted → (s.armCfg a).bay = some b →
    s.arms[a].state = .idle → maskHas (s.armCfg a).productMask r.product = true →
    ∃ u r', exec (.select b c a) s = .next (settleCommand u)
      ∧ u.arms[a].state = .armed ∧ u.arms[a].command = .close
      ∧ u.arms[a].comp = some
          { bay := b, comp := c, product := r.product, basis := r.basis, preset := r.preset
            startPoint := ((s.armCfg a).startVolume * 100000 : Nat)
            tripDownPoint := (r.preset * 100000 : Nat) - ((s.armCfg a).tripDownVolume * 100000 : Nat)
            closePoint := (r.preset * 100000 : Nat) - (s.arms[a].closeAhead * 100000 : Nat) }
      ∧ u.compRec b c = some r' ∧ r'.state = .onArm ∧ r'.arm = some a ∧ r'.started = r.started
      ∧ r'.acc = { g := 0, s := 0, tempSum := 0, tempHeld := false, vcfLimited := false
                   totStart := s.meters[a].totaliser }
      ∧ r'.lines = formLines s.cfg.products[r.product] r.preset
      ∧ u.meters[a].rG = 0 ∧ u.meters[a].rS = 0 ∧ u.meters[a].totaliser = s.meters[a].totaliser
      ∧ u.bays[b].lastPrompt = some ⟨.selected, [unitNo c, unitNo a]⟩
      ∧ OtherArmsSame a s u ∧ OtherBaysSame b s u
      ∧ u = { s.fresh with meters := u.meters, arms := u.arms, bays := u.bays, inbox := u.inbox })

/-- R43, R101, R112: an accepted START: the preset is reserved on the permit, the compartment is started and its line
active, the session is LOADING, the arm enters LOW_START with the leak volume at 0 and the start-of-flow values of its
pulse input (R10), its pump is demanded (R61), and STARTED is shown. A START that fails a check of R112 shows the prompt
of the first that fails, in the order of its table, and leaves the arm, the permits and the session as they were. R101:
so does one whose permit is SUSPENDED or RETIRING, or whose preset would exceed the quota. -/
def Obligations.StartBeginsTheLoad : Prop :=
  (∀ (s : State) (b : BayNo) (a : ArmNo), Ready s →
    FlowKeyRefusals (.start b a) .armed s b a ∧
    (∀ oc p, FlowChecksPass s b a .armed → s.arms[a].comp = some oc →
      findPermit s.permits (sessionPermit s b) = some p →
      (p.state = .suspended ∨ p.state = .retiring → RefusedAt b (.start b a) s .permitSuspended []) ∧
      (p.state = .active → p.quota ≠ 0 → p.quota < p.used + p.reserved + oc.preset →
        RefusedAt b (.start b a) s .quota [p.quota - p.used - p.reserved]))) ∧
  (∀ (s : State) (b : BayNo) (a : ArmNo) (oc : OnArm) (r : CompRec) (p : Permit), Ready s →
    FlowChecksPass s b a .armed → s.arms[a].comp = some oc → oc.bay = b → s.compRec b oc.comp = some r →
    findPermit s.permits (sessionPermit s b) = some p → p.state = .active →
    p.quota = 0 ∨ p.used + p.reserved + oc.preset ≤ p.quota →
    ∃ u r', exec (.start b a) s = .next (settleCommand u)
      ∧ u.arms[a].state = .lowStart ∧ u.arms[a].comp = some oc ∧ u.arms[a].lastStop = .none
      ∧ u.meters[a].leak = 0
      ∧ u.permits = modPermit s.permits p.number (fun q => { q with reserved := q.reserved + oc.preset })
      ∧ u.compRec b oc.comp = some r' ∧ r'.started = true ∧ r'.active = true ∧ (∀ l ∈ r'.lines, l.active = true)
      ∧ r'.acc = r.acc ∧ SessionIn u b .loading
      ∧ u.bays[b].lastPrompt = some ⟨.started, [unitNo a, unitNo oc.comp, oc.preset]⟩
      ∧ u.pulses[a].score = 0 ∧ u.pulses[a].last = s.pulses[a].last
      ∧ u.pulses[a].locked = !(s.armCfg a).dual
      ∧ u.pulses[a].cleanPairs = (if (s.armCfg a).dual then 0 else s.pulses[a].cleanPairs)
      ∧ (∀ x : ArmNo, x ≠ a → u.pulses[x] = s.pulses[x] ∧ u.meters[x] = s.meters[x])
      ∧ (pumpOf s a = none →
          u.pumps = s.pumps ∧ u.arms[a].waiting = false ∧ u.arms[a].command = .low)
      ∧ (∀ k, pumpOf s a = some k →
          (∀ x : PumpNo, x ≠ k → u.pumps[x] = s.pumps[x]) ∧ u.pumps[k].demand = s.pumps[k].demand + 1
            ∧ (s.trip.stageTwo = false → u.pumps[k].state = .running
                ∧ u.pumps[k].run = (if s.pumps[k].state = .off then some 0 else s.pumps[k].run))
            ∧ (u.pumps[k].runReached (startDelayOf s a) = true →
                u.arms[a].waiting = false ∧ u.arms[a].command = .low)
            ∧ (u.pumps[k].runReached (startDelayOf s a) = false →
                u.arms[a].waiting = true ∧ u.arms[a].command = .close ∧ a ∈ u.pumps[k].waiting))
      ∧ .redeliver a ∈ u.inbox
      ∧ OtherArmsSame a s u ∧ OtherBaysSame b s u
      ∧ u = { s.fresh with
          pulses := u.pulses, meters := u.meters, arms := u.arms, pumps := u.pumps, permits := u.permits
          bays := u.bays, inbox := u.inbox })

/-- R102, R114: an accepted RESUME: the halted arm enters LOW_START again, keeping its compartment and its
accumulators, and RESUMED is shown; nothing is reserved. Under a permit that is SUSPENDED or RETIRING the key is
refused PERMIT_SUSPENDED, the arm stays HELD and the reservation stands. R114: a RESUME that fails a check of R112, or whose
arm is not HELD, shows the prompt of the first that fails and changes no arm. -/
def Obligations.ResumeContinuesTheLoad : Prop :=
  (∀ (s : State) (b : BayNo) (a : ArmNo), Ready s → FlowKeyRefusals (.resume b a) .held s b a) ∧
  (∀ (s : State) (b : BayNo) (a : ArmNo) (oc : OnArm) (p : Permit), Ready s →
    FlowChecksPass s b a .held → s.arms[a].comp = some oc →
    findPermit s.permits (sessionPermit s b) = some p →
    (p.state = .active → ∃ u, exec (.resume b a) s = .next (settleCommand u)
      ∧ u.arms[a].state = .lowStart ∧ u.arms[a].comp = some oc ∧ u.arms[a].lastStop = .none
      ∧ u.meters[a].leak = 0 ∧ u.bays[b].lastPrompt = some ⟨.resumed, [unitNo a, unitNo oc.comp]⟩
      ∧ .redeliver a ∈ u.inbox
      ∧ OtherArmsSame a s u ∧ OtherBaysSame b s u ∧ SessionsSame s u
      ∧ u = { s.fresh with
          pulses := u.pulses, meters := u.meters, arms := u.arms, pumps := u.pumps, bays := u.bays
          inbox := u.inbox }) ∧
    (p.state = .suspended ∨ p.state = .retiring → ∃ t, exec (.resume b a) s = .next t
      ∧ t.bays[b].lastPrompt = some ⟨.permitSuspended, []⟩ ∧ t.arms[a].state = .held
      ∧ SessionsSame s t ∧ OtherBaysSame b s t ∧ t = ({ s.fresh with bays := t.bays } : State).write))

/-- R51, R52, R115: STOP. At a flowing arm of the bay the arm enters HALTING with the cause KEY, commands CLOSE, and
its closing limit starts; HALTED is shown. At another arm of the bay it changes no arm and shows the arm's answer.
R53, R115: FINISH at a HELD arm of the bay completes its compartment as STOPPED and shows FINISHED; at another arm of
the bay it shows NOT_HELD and changes no arm. -/
def Obligations.StopHaltsAndFinishCompletes : Prop :=
  (∀ (s : State) (b : BayNo) (a : ArmNo), Ready s → (s.session b).isSome = true → s.armOfBay a b = true →
     (s.arms[a].state.flowing = true → ∃ u, exec (.stop b a) s = .next (settleCommand u)
       ∧ u.arms[a].state = .halting ∧ u.arms[a].command = .close ∧ u.arms[a].lastStop = .key
       ∧ u.arms[a].noFlowTimer = none ∧ u.arms[a].comp = s.arms[a].comp
       ∧ u.arms[a].closingLimit = some ⟨0, 3 * (s.armCfg a).valveTravel * 10000 + 200000⟩
       ∧ u.bays[b].lastPrompt = some ⟨.halted, [unitNo a]⟩
       ∧ OtherArmsSame a s u
       ∧ u = { s.fresh with
           arms := u.arms, pumps := u.pumps, injectors := u.injectors, bays := u.bays, inbox := u.inbox }) ∧
     (s.arms[a].state.flowing = false → ∃ t, exec (.stop b a) s = .next t
       ∧ t.bays[b].lastPrompt = some
           ⟨if s.arms[a].state = .closing then .alreadyClosing else .notFlowing, [unitNo a]⟩
       ∧ SessionsSame s t ∧ OtherBaysSame b s t ∧ t = ({ s.fresh with bays := t.bays } : State).write)) ∧
  (∀ (s : State) (b : BayNo) (a : ArmNo), Ready s → (s.session b).isSome = true → s.armOfBay a b = true →
     (∀ oc r, s.arms[a].state = .held → s.arms[a].comp = some oc → s.compRec oc.bay oc.comp = some r →
       ∃ u r', exec (.finish b a) s = .next (settleCommand u)
         ∧ u.arms[a].state = .idle ∧ u.arms[a].comp = none ∧ u.arms[a].closeAhead = s.arms[a].closeAhead
         ∧ u.compRec oc.bay oc.comp = some r' ∧ r'.state = .complete ∧ r'.endReason = some .stopped
         ∧ u.bays[b].lastPrompt = some ⟨.finished, [unitNo a, unitNo oc.comp]⟩
         ∧ .completed oc.bay oc.comp ∈ u.inbox ∧ OtherArmsSame a s u
         ∧ u = { s.fresh with arms := u.arms, bays := u.bays, inbox := u.inbox }) ∧
     (s.arms[a].state ≠ .held → ∃ t, exec (.finish b a) s = .next t
       ∧ t.bays[b].lastPrompt = some ⟨.notHeld, [unitNo a]⟩
       ∧ SessionsSame s t ∧ OtherBaysSame b s t ∧ t = ({ s.fresh with bays := t.bays } : State).write))

/-- R117, R118: the END key and SESSION END bring an open session into ENDING with their cause, stop its timers, show
ENDING with the cause and ask each arm of the bay by its state: a flowing one to stop, a HELD one to finish, an ARMED one
to release; then the bay tests whether it can file. The first cause stands; SESSION END is answered NOT_FOUND at a VACANT
bay, and the key NOT_OPEN. R51, R54, R118: what an arm does with such a request, and that an arm that comes to HELD in
ENDING is asked to finish. R103, R116, R117: a completion at its bay makes its lines inactive, settles the quota, shows
COMPLETED, and ends a LOADING session whose compartments are all COMPLETE. -/
def Obligations.EndingIsEnteredOnce : Prop :=
  (∀ (s : State) (b : BayNo),
    let asks : List Notice := (s.armsOf b).flatMap fun a => match s.arms[a].state with
      | .lowStart => [.stopArm a .ending]
      | .highFlow => [.stopArm a .ending]
      | .lowFinish => [.stopArm a .ending]
      | .held => [.finishArm a]
      | .armed => [.releaseArm a]
      | _ => []
    (Ready s → sessionRuns s b = true → ∃ u, exec (.endKey b) s = .next (settleCommand u)
      ∧ SessionIn u b .ending ∧ (u.session b).map Session.endCause = some (some .driverEnd)
      ∧ u.bays[b].attention = none ∧ u.bays[b].abandon = none ∧ u.bays[b].attentionFlag = false
      ∧ u.bays[b].lastPrompt = some ⟨.ending, [2]⟩ ∧ u.inbox = asks ++ [.filingTest b]
      ∧ OtherBaysSame b s u ∧ u = { s.fresh with bays := u.bays, inbox := u.inbox }) ∧
    (Ready s → s.session b = none →
      exec (.endKey b) s = .next (s.fresh.sendShow b .notOpen []).write) ∧
    (Ready s → SessionIn s b .ending →
      exec (.endKey b) s = .next (s.fresh.sendShow b .alreadyEnding []).write) ∧
    (Taken 0x50 s → sessionRuns s b = true →
      ∃ u, exec (.sessionEnd (be 1 (unitNo b))) s = .next (settleCommand u)
        ∧ SessionIn u b .ending ∧ (u.session b).map Session.endCause = some (some .hostEnd)
        ∧ u.bays[b].attention = none ∧ u.bays[b].abandon = none ∧ u.bays[b].attentionFlag = false
        ∧ u.bays[b].lastPrompt = some ⟨.ending, [4]⟩ ∧ u.line.reply = bytesReply 0x50 .ok []
        ∧ u.inbox = asks ++ [.filingTest b]
        ∧ OtherBaysSame b s u ∧ u = { heard s with line := u.line, bays := u.bays, inbox := u.inbox }) ∧
    (Taken 0x50 s → SessionIn s b .ending →
      exec (.sessionEnd (be 1 (unitNo b))) s = .next (sendReply 0x50 (.ok, .bytes []) (heard s)).write) ∧
    (Taken 0x50 s → s.session b = none →
      exec (.sessionEnd (be 1 (unitNo b))) s = .next (sendReply 0x50 (.notFound, .bytes []) (heard s)).write)) ∧
  (∀ (s : State) (a : ArmNo),
    (s.arms[a].state.flowing = true →
      let t := take (.stopArm a .ending) s
      t.arms[a].state = .halting ∧ t.arms[a].lastStop = .ending ∧ t.arms[a].command = .close
        ∧ t.arms[a].comp = s.arms[a].comp ∧ OtherArmsSame a s t) ∧
    (s.arms[a].state.flowing = false → take (.stopArm a .ending) s = s) ∧
    (∀ oc r, s.arms[a].state = .armed → s.arms[a].comp = some oc → s.compRec oc.bay oc.comp = some r →
      let t := take (.releaseArm a) s
      t.arms[a].state = .idle ∧ t.arms[a].comp = none ∧ OtherArmsSame a s t
        ∧ t.meters[a].unattended = (s.meters[a].unattended + r.acc.g) % 1000000000000000
        ∧ ∃ r', t.compRec oc.bay oc.comp = some r' ∧ r'.state = .notStarted ∧ r'.arm = none ∧ r'.acc.g = 0
          ∧ r'.acc.s = 0 ∧ r'.overrun = false ∧ r'.valveNotConfirmed = false ∧ r'.meterFault = false
          ∧ r'.warningRaised = false ∧ r'.started = r.started ∧ r'.result = r.result) ∧
    (s.arms[a].state ≠ .armed → take (.releaseArm a) s = s) ∧
    (∀ b, (s.armCfg a).bay = some b → SessionIn s b .ending → s.arms[a].state = .held →
      .finishArm a ∈ (take (.armChanged a) s).inbox)) ∧
  (∀ (s : State) (b : BayNo) (c : CompNo) (x : Session) (r : CompRec) (y : CompResult),
    s.session b = some x → s.compRec b c = some r → r.result = some y →
    let t := take (.completed b c) s
    let ends := x.state = .loading ∧ ∀ q ∈ x.comps, q.state = .complete
    t.compRec b c = some { (r.modLines fun l => { l with active := false }) with active := false }
      ∧ t.permits = modPermit s.permits x.permit (fun p =>
          { p with reserved := p.reserved - r.preset, used := min 4294967295 (p.used + y.standardDl) })
      ∧ t.arms = s.arms ∧ t.orders = s.orders ∧ t.notes = s.notes
      ∧ (∀ z : BayNo, z ≠ b → t.bays[z] = s.bays[z])
      ∧ (ends → SessionIn t b .ending ∧ (t.session b).map Session.endCause = some (some .complete)
          ∧ t.bays[b].lastPrompt = some ⟨.ending, [1]⟩)
      ∧ (¬ends → (t.session b).map Session.state = some x.state
          ∧ (t.session b).map Session.endCause = some x.endCause
          ∧ t.bays[b].lastPrompt = some ⟨.completed, [unitNo c, y.deliveredOn r.basis, endReasonCode r.endReason]⟩
          ∧ t.inbox = s.inbox ++ (if x.state = .ending then [.filingTest b] else [])))

/-! ### Supervision and the trip -/

/-- R129, R130, R133: the ESTOP input, pressed or released, makes the condition of its instance present or absent: pressed
while the instance is NORMAL it starts the filter; the filter that runs out takes a FILTERING instance into ACTIVE and
counts it, and a RECOVERING one into NORMAL. R134, R136, R139: the instance that enters ACTIVE sends its stop effect to
the arms of its scope, or, of class WARNING, marks the active lines in it, and trips a rack in RUN when its kind has the
trip flag. R130: the table of a level instance, with a filter time above 0 and with one of 0.0 s: what its condition's
appearing and vanishing does in each state; the return from RECOVERING to ACTIVE is counted, marks and trips as an entry
does, and sends no new stop request. R132, R133, R134, R136, R139: what an event does
to its instance, NORMAL or LATCHED, with the same effects. That an instance keeps the class of its last transition, and
that a LATCHED event instance acts by it, is the model's reading of R144 (assumption 46). -/
def Obligations.LevelInstancesFollowTheirTable : Prop :=
  (∀ (s : State), Ready s →
     (∀ level, exec (.estopInputChange level) s = .next (settleCommand
       { s.fresh with pins := { s.pins with estop := level }, inbox := [.condition .estop (!level)] })) ∧
     ((s.inst .estop).state = .normal → (s.inst .estop).cond = false → 0 < (s.supCfg .estop).filter →
       ∃ t, exec (.estopInputChange false) s = .next t ∧ t.pins = { s.pins with estop := false }
         ∧ t.inst .estop = { s.inst .estop with
             state := .filtering, cond := true, timer := some ⟨0, (s.supCfg .estop).filter * 10000⟩ }
         ∧ (∀ i, i ≠ .estop → t.inst i = s.inst i)
         ∧ t = ({ s.fresh with pins := t.pins, sup := t.sup } : State).write) ∧
     ((s.inst .estop).cond = true → (s.inst .estop).state = .filtering ∨
         ((s.inst .estop).state = .active ∧ s.cls .estop = .latched) →
       ∃ t, exec (.estopInputChange true) s = .next t ∧ t.pins = { s.pins with estop := true }
         ∧ (t.inst .estop).cond = false ∧ (t.inst .estop).count = (s.inst .estop).count
         ∧ ((s.inst .estop).state = .filtering → (t.inst .estop).state = .normal ∧ (t.inst .estop).timer = none)
         ∧ ((s.inst .estop).state = .active → (t.inst .estop).state = .latched)
         ∧ (∀ i, i ≠ .estop → t.inst i = s.inst i)
         ∧ t = ({ s.fresh with pins := t.pins, sup := t.sup } : State).write) ∧
     (∀ i : InstId, isRunning (s.inst i).timer = true → (s.inst i).state = .filtering →
       ∃ u, exec (.filterTimerExpiry i) s = .next (settleCommand u)
         ∧ EntersActive i True s u ∧ (u.inst i).cond = (s.inst i).cond
         ∧ u = { s.fresh with
             mode := u.mode, trip := u.trip, arms := u.arms, pumps := u.pumps, bays := u.bays, sup := u.sup
             inbox := u.inbox }) ∧
     (∀ i : InstId, isRunning (s.inst i).timer = true → (s.inst i).state = .recovering →
       ∃ t, exec (.filterTimerExpiry i) s = .next t
         ∧ t.inst i = { s.inst i with state := .normal, timer := none }
         ∧ (∀ j, j ≠ i → t.inst j = s.inst j)
         ∧ t = ({ s.fresh with sup := t.sup } : State).write)) ∧
  (∀ (s : State) (i : InstId),
     let x := s.inst i
     let up := take (.condition i true) s
     let down := take (.condition i false) s
     let filter := (s.supCfg i).filter
     let start := some (Timer.start (filter * 10000))
     (x.cond = true → up = s) ∧ (x.cond = false → down = s) ∧
     (up = { s with
         mode := up.mode, trip := up.trip, arms := up.arms, pumps := up.pumps, bays := up.bays, sup := up.sup
         inbox := up.inbox }) ∧
     (down = { s with sup := down.sup }) ∧
     (x.cond = false → x.state = .normal → 0 < filter →
       up = { s with sup := up.sup }
         ∧ up.inst i = { x with state := .filtering, cond := true, timer := start }) ∧
     (x.cond = false → x.state = .normal → filter = 0 → EntersActive i True s up ∧ (up.inst i).cond = true) ∧
     (x.cond = false → x.state = .recovering → EntersActive i False s up ∧ (up.inst i).cond = true) ∧
     (x.cond = false → x.state = .latched → up.inst i = { x with cond := true }) ∧
     (x.cond = true → x.state = .filtering →
       down.inst i = { x with state := .normal, cond := false, timer := none }) ∧
     (x.cond = true → x.state = .active → s.cls i = .latched →
       down.inst i = { x with state := .latched, cond := false, cls := .latched }) ∧
     (x.cond = true → x.state = .active → s.cls i ≠ .latched → filter = 0 →
       down.inst i = { x with state := .normal, cond := false, timer := none }) ∧
     (x.cond = true → x.state = .active → s.cls i ≠ .latched → 0 < filter →
       down.inst i = { x with state := .recovering, cond := false, timer := start, cls := s.cls i }) ∧
     (x.cond = true → x.state = .latched → down.inst i = { x with cond := false }) ∧
     (∀ j, j ≠ i → up.inst j = s.inst j ∧ down.inst j = s.inst j)) ∧
  (∀ (s : State) (i : InstId),
     let x := s.inst i
     let t := take (.event i) s
     let count := if x.count < 255 then x.count + 1 else x.count
     x.state = .normal ∨ (x.state = .latched ∧ x.cls ≠ .warning) →
       t.inst i = (if x.state = .normal ∧ s.cls i ≠ .warning
           then { x with state := .latched, cls := s.cls i, count := count } else { x with count := count })
         ∧ (∀ j, j ≠ i → t.inst j = s.inst j)
         ∧ (∀ a : ArmNo, .stopArm a .effect ∈ t.inbox ↔
             .stopArm a .effect ∈ s.inbox ∨ (x.state = .normal ∧ s.cls i ≠ .warning ∧ InStopScope s i a))
         ∧ (∀ b c r, s.compRec b c = some r → ∃ r', t.compRec b c = some r'
             ∧ (r'.warningRaised = true ↔ r.warningRaised = true
                 ∨ (x.state = .normal ∧ s.cls i = .warning ∧ r.active = true ∧ InMarkScope i b r))
             ∧ (r'.meterFault = true ↔ r.meterFault = true
                 ∨ (r.active = true ∧ ∃ a oc, i = .meterPulse a ∧ s.arms[a].comp = some oc ∧ oc.bay = b ∧ oc.comp = c)))
         ∧ (s.mode = .run → (s.supCfg i).trip = true → x.state = .normal → TripBegins (.fault i) s t)
         ∧ (s.mode ≠ .run ∨ (s.supCfg i).trip = false ∨ x.state ≠ .normal → t.mode = s.mode ∧ t.trip = s.trip))

/-- R121, R137, R138: a clear returns to NORMAL each instance it covers that is LATCHED with its condition absent and
no other, with the figures that R138 gives to 0. The RACK RESET key covers all 83, the bay's RESET key the bay's own
and its arms', SUPERVISION CLEAR the instance, the unit or the whole it names; the key and the message answer with the
number cleared and the number still effective among those covered. A message that names one instance that is ACTIVE, or
LATCHED with its condition present, is answered CONDITION, and one whose kind code is outside 1..14 FORMAT. That a turn of
the RACK RESET key carries the level the input has once it is over is the model's choice (assumption 22). -/
def Obligations.ClearsReachLatchedInstances : Prop :=
  ∀ s : State,
    let hit (covers : InstId → Bool) (i : InstId) : Bool := covers i && clearable (s.inst i)
    let left (covers : InstId → Bool) (t : State) : Nat := allInsts.countP fun i => covers i && (t.inst i).state.effective
    let cleared (covers : InstId → Bool) (t : State) : Prop :=
      (∀ i, t.inst i = if hit covers i then { s.inst i with state := .normal, timer := none } else s.inst i)
        ∧ (∀ a : ArmNo, t.meters[a] = { s.meters[a] with
            leak := if hit covers (.leak a) then 0 else s.meters[a].leak })
        ∧ (∀ j : InjNo, t.injectors[j] = { s.injectors[j] with
            leakPulses := if hit covers (.injLeak j) then 0 else s.injectors[j].leakPulses })
        ∧ (∀ b : BayNo, t.bays[b].violations = if hit covers (.deadman b) then 0 else s.bays[b].violations)
        ∧ SessionsSame s t
    let every : InstId → Bool := fun _ => true
    let message (covers : InstId → Bool) (body : List Byte) : Prop :=
      ∃ t, exec (.supervisionClear body) s = .next t ∧ cleared covers t
        ∧ t.line.reply = bytesReply 0x70 .ok (be 1 (allInsts.countP (hit covers)) ++ be 1 (left covers t))
        ∧ t = ({ heard s with
            line := t.line, meters := t.meters, injectors := t.injectors, bays := t.bays, sup := t.sup } : State).write
    let ofUnit (x : Scope) (i : InstId) : Bool := i.scope = x
    (Ready s → s.mode ≠ .tripped → ∀ held, ∃ t, exec (.rackReset held) s = .next t ∧ cleared every t
      ∧ t = ({ s.fresh with
          pins := { s.pins with resetKey := held }
          meters := t.meters, injectors := t.injectors, bays := t.bays, sup := t.sup } : State).write) ∧
    (∀ b : BayNo, Ready s → ∃ t, exec (.resetKey b) s = .next t
      ∧ (let covers : InstId → Bool := fun i => match i.scope with
          | .bay x => x = b
          | .arm a => (s.armCfg a).bay = some b
          | _ => false
        cleared covers t
          ∧ t.bays[b].lastPrompt = some ⟨.cleared, [allInsts.countP (hit covers), left covers t]⟩)
      ∧ t = ({ s.fresh with meters := t.meters, bays := t.bays, sup := t.sup } : State).write) ∧
    (Taken 0x70 s →
      message every [6, 0, 0] ∧ message (ofUnit .rack) [2, 0, 0]
        ∧ (∀ b : BayNo, message (ofUnit (.bay b)) [3, 0, BitVec.ofNat 8 (unitNo b)])
        ∧ (∀ a : ArmNo, message (ofUnit (.arm a)) [4, 0, BitVec.ofNat 8 (unitNo a)])
        ∧ (∀ j : InjNo, message (ofUnit (.inj j)) [5, 0, BitVec.ofNat 8 (unitNo j)])
        ∧ (∀ i : InstId,
            let body : List Byte := [1, BitVec.ofNat 8 (i.kind.val + 1), BitVec.ofNat 8 i.unit]
            (holdsOut (s.inst i) = false → message (fun j => j = i) body) ∧
            (holdsOut (s.inst i) = true → exec (.supervisionClear body) s
              = .next (sendReply 0x70 (.condition, .bytes []) (heard s)).write))
        ∧ (∀ kind unit : Byte, kind = 0 ∨ 14 < kind.toNat → exec (.supervisionClear [1, kind, unit]) s
            = .next (sendReply 0x70 (.format, .bytes []) (heard s)).write))

/-- R139, R140, R178: TRIP REQUEST. In RUN the first stage begins: the cause HOST and the mode TRIPPING, the relay as
it was, the trip delay from 0, and notices to every bay, arm and injector, with the second stage asked for at once where the
trip delay is 0.0 s (R142); addressed it is answered OK, and to all
stations it has the same effect with no reply. In the other modes it has no effect and is answered as R139 gives. -/
def Obligations.TripRequestStartsTheFirstStage : Prop :=
  ∀ s : State,
    (∀ dest, Taken 0x71 s → s.mode = .run →
      ∃ u, exec (.tripRequest dest []) s = .next (settleCommand u)
        ∧ TripBegins .host s u
        ∧ u.line.reply = (match dest with
            | .addressed => bytesReply 0x71 .ok []
            | .allCall => none)
        ∧ u = { heard s with
            mode := u.mode, trip := u.trip, arms := u.arms, pumps := u.pumps, line := u.line, inbox := u.inbox }) ∧
    (Taken 0x71 s → s.mode = .tripping →
      exec (.tripRequest .addressed []) s = .next (sendReply 0x71 (.tripActive, .bytes []) (heard s)).write) ∧
    (Taken 0x71 s → s.mode = .tripped →
      exec (.tripRequest .addressed []) s = .next (sendReply 0x71 (.ok, .bytes []) (heard s)).write) ∧
    (Taken 0x71 s → s.mode = .setup →
      exec (.tripRequest .addressed []) s = .next (sendReply 0x71 (.mode, .bytes []) (heard s)).write) ∧
    (Ready s → LineFree s → s.mode ≠ .run → exec (.tripRequest .allCall []) s = .next (heard s).write)

/-- R64, R142: the trip delay that runs out begins the second stage: the relay de-energised, every pump off with its
run time cleared, the four bays awaited, and the arms, injectors and bays told; the request that a delay of 0.0 s makes
at once does the same, and out of the first stage it does nothing. R50, R142: an arm told to force completion completes at
once with the valve-not-confirmed mark and without learning, as PRESET in CLOSING and as STOPPED in HALTING, and is
unchanged in any other state. R120: a trip notice, or a stage-two notice that comes before it, brings an open session that
is not ending into ENDING with the cause TRIP; a stage-two notice makes an ending bay test whether it can file and a
VACANT one report that it has no open session. R142: the last of the four reports makes the mode TRIPPED, every valve
commanded CLOSE and every pump off. -/
def Obligations.TripDelayBeginsTheSecondStage : Prop :=
  (∀ s : State, s.mode = .tripping → s.trip.stageTwo = false →
    (Ready s → ∃ u, exec .tripDelayExpiry s = .next (settleCommand u) ∧ SecondStageBegins s.fresh u)
      ∧ SecondStageBegins s (take .secondStage s)) ∧
  (∀ s : State, s.mode ≠ .tripping ∨ s.trip.stageTwo = true → take .secondStage s = s) ∧
  (∀ (s : State) (a : ArmNo),
    let t := take (.forceArm a) s
    (∀ oc r, s.arms[a].state = .closing ∨ s.arms[a].state = .halting → s.arms[a].comp = some oc →
      s.compRec oc.bay oc.comp = some r →
      t.arms[a].state = .idle ∧ t.arms[a].comp = none ∧ t.arms[a].outstanding = 0
        ∧ t.arms[a].closingLimit = none ∧ t.arms[a].closeAhead = s.arms[a].closeAhead
        ∧ (∃ r' y, t.compRec oc.bay oc.comp = some r' ∧ r'.state = .complete ∧ r'.valveNotConfirmed = true
            ∧ r'.endReason = some (if s.arms[a].state = .closing then .preset else .stopped)
            ∧ r'.result = some y ∧ y.valveNotConfirmed = true
            ∧ y.grossDl = (r.acc.g + 50000) / 100000 ∧ y.standardDl = (r.acc.s + 50000) / 100000
            ∧ y.totEnd = s.meters[a].totaliser)
        ∧ .completed oc.bay oc.comp ∈ t.inbox ∧ .armChanged a ∈ t.inbox
        ∧ OtherArmsSame a s t ∧ (∀ x : BayNo, x ≠ oc.bay → t.bays[x] = s.bays[x])
        ∧ t = { s with arms := t.arms, bays := t.bays, inbox := t.inbox }) ∧
    (s.arms[a].state ≠ .closing → s.arms[a].state ≠ .halting → t = s)) ∧
  (∀ (s : State) (b : BayNo),
    let asks : List Notice := (s.armsOf b).flatMap fun a => match s.arms[a].state with
      | .lowStart => [.stopArm a .ending]
      | .highFlow => [.stopArm a .ending]
      | .lowFinish => [.stopArm a .ending]
      | .held => [.finishArm a]
      | .armed => [.releaseArm a]
      | _ => []
    let endsByTrip (t : State) : Prop :=
      SessionIn t b .ending ∧ (t.session b).map Session.endCause = some (some .trip)
        ∧ (t.session b).map Session.comps = (s.session b).map Session.comps
        ∧ t.bays[b].attention = none ∧ t.bays[b].abandon = none ∧ t.bays[b].attentionFlag = false
        ∧ t.bays[b].lastPrompt = some ⟨.ending, [5]⟩ ∧ t.inbox = s.inbox ++ asks ++ [.filingTest b]
        ∧ (∀ x : BayNo, x ≠ b → t.bays[x] = s.bays[x]) ∧ t = { s with bays := t.bays, inbox := t.inbox }
    (sessionRuns s b = true → endsByTrip (take (.tripNotice b) s) ∧ endsByTrip (take (.stageTwoNotice b) s)) ∧
    (SessionIn s b .ending → take (.tripNotice b) s = s
      ∧ take (.stageTwoNotice b) s = { s with inbox := s.inbox ++ [.filingTest b] }) ∧
    (s.session b = none → take (.tripNotice b) s = s
      ∧ take (.stageTwoNotice b) s = { s with inbox := s.inbox ++ [.bayReport b] })) ∧
  (∀ (s : State) (b : BayNo),
    let t := take (.bayReport b) s
    let left := s.trip.awaiting.filter fun x => x ≠ b
    (s.mode = .tripping → s.trip.stageTwo = true → b ∈ s.trip.awaiting → left ≠ [] →
      t = { s with trip := { s.trip with awaiting := left } }) ∧
    (s.mode = .tripping → s.trip.stageTwo = true → b ∈ s.trip.awaiting → left = [] →
      t.mode = .tripped ∧ t.relay = false
        ∧ t.trip = { cause := s.trip.cause, delay := none, stageTwo := false, awaiting := [] }
        ∧ (∀ p : PumpNo, pumpRun t p = false)
        ∧ (∀ a : ArmNo, t.arms[a].command = .close ∧ t.arms[a].state = s.arms[a].state
            ∧ t.arms[a].comp = s.arms[a].comp)
        ∧ t = { s with
            mode := t.mode, relay := t.relay, trip := t.trip, arms := t.arms, pumps := t.pumps, inbox := t.inbox }) ∧
    (s.mode ≠ .tripping ∨ s.trip.stageTwo = false ∨ b ∉ s.trip.awaiting → t = s))

/-- R138, R143: a trip clear in TRIPPED is refused CONDITION while the ESTOP instance is not NORMAL or an instance of a
trip-flagged kind is ACTIVE or LATCHED, and otherwise brings RUN with the relay energised and the cause kept; the RACK
RESET key clears first, returning each LATCHED instance without its condition to NORMAL, and then does the same, the rack
staying TRIPPED where an instance still holds it; TRIP CLEAR in RUN has no effect and is answered OK. -/
def Obligations.TripClearRestoresTheRack : Prop :=
  ∀ s : State,
    let held (state : Instance → InstState) : Prop :=
      state (s.inst .estop) ≠ .normal ∨
        ∃ i : InstId, (s.supCfg i).trip = true ∧ (state (s.inst i) = .active ∨ state (s.inst i) = .latched)
    let cleared (x : Instance) : InstState := if x.state = .latched ∧ x.cond = false then .normal else x.state
    (Taken 0x72 s → s.mode = .tripped → held Instance.state →
      exec (.tripClear []) s = .next (sendReply 0x72 (.condition, .bytes []) (heard s)).write) ∧
    (Taken 0x72 s → s.mode = .tripped → ¬held Instance.state →
      ∃ u, exec (.tripClear []) s = .next (settleCommand u) ∧ u.mode = .run ∧ u.relay = true
        ∧ u.trip.cause = s.trip.cause ∧ u.line.reply = bytesReply 0x72 .ok []
        ∧ u = { heard s with
            mode := u.mode, relay := u.relay, trip := u.trip, arms := u.arms, pumps := u.pumps, line := u.line
            inbox := u.inbox }) ∧
    (Taken 0x72 s → s.mode = .run →
      exec (.tripClear []) s = .next (sendReply 0x72 (.ok, .bytes []) (heard s)).write) ∧
    (Taken 0x72 s → s.mode = .tripping →
      exec (.tripClear []) s = .next (sendReply 0x72 (.tripActive, .bytes []) (heard s)).write) ∧
    (∀ key, Ready s → s.mode = .tripped → held cleared →
      ∃ t, exec (.rackReset key) s = .next t ∧ t.rackState = s.rackState
        ∧ (∀ i, (t.inst i).state = cleared (s.inst i)) ∧ SessionsSame s t
        ∧ t = ({ s.fresh with
            pins := { s.pins with resetKey := key }
            meters := t.meters, injectors := t.injectors, bays := t.bays, sup := t.sup } : State).write) ∧
    (∀ key, Ready s → s.mode = .tripped → ¬held cleared →
      ∃ u, exec (.rackReset key) s = .next (settleCommand u) ∧ u.mode = .run ∧ u.relay = true
        ∧ u.trip.cause = s.trip.cause ∧ SessionsSame s u ∧ (∀ i, (u.inst i).state = cleared (s.inst i))
        ∧ u = { s.fresh with
            mode := u.mode, relay := u.relay, trip := u.trip, pins := u.pins, meters := u.meters, arms := u.arms
            pumps := u.pumps, injectors := u.injectors, bays := u.bays, sup := u.sup, inbox := u.inbox })

/-! ### Setup -/

/-- R158, R160: SETUP OPEN in RUN asks every bay and waits; the decision answers BUSY when a bay had a session, TRIP
ACTIVE when a trip has begun, and otherwise sets the mode to SETUP with the relay de-energised and a working copy of
the active configuration. In TRIPPING the request is answered TRIP ACTIVE, in SETUP MODE. -/
def Obligations.SetupOpensOnAnIdleRack : Prop :=
  ∀ s : State,
    (Taken 0x20 s → s.mode = .run → ∃ t, exec (.setupOpen []) s = .next t
      ∧ t.setup = { s.setup with query := some (vmap (fun b => b.session.isSome) s.bays) }
      ∧ t.line.reply = some .awaitingDecision
      ∧ t = ({ heard s with setup := t.setup, line := t.line } : State).write) ∧
    (Taken 0x20 s → s.mode = .tripping →
      exec (.setupOpen []) s = .next (sendReply 0x20 (.tripActive, .bytes []) (heard s)).write) ∧
    (Taken 0x20 s → s.mode = .setup →
      exec (.setupOpen []) s = .next (sendReply 0x20 (.mode, .bytes []) (heard s)).write) ∧
    (∀ answers, Ready s → s.setup.query = some answers →
      ∃ u, exec .setupOpenDecision s = .next (settleCommand u)
        ∧ u.setup.query = none
        ∧ u = { s.fresh with
            mode := u.mode, relay := u.relay, trip := u.trip, arms := u.arms, pumps := u.pumps, setup := u.setup
            line := u.line, inbox := u.inbox }
        ∧ (answers.toList.any id = true → u.line.reply = bytesReply 0x20 .busy [] ∧ u.rackState = s.rackState
            ∧ u.setup.working = s.setup.working)
        ∧ (answers.toList.any id = false → s.mode ≠ .run → u.line.reply = bytesReply 0x20 .tripActive []
            ∧ u.rackState = s.rackState ∧ u.setup.working = s.setup.working)
        ∧ (answers.toList.any id = false → s.mode = .run → u.line.reply = bytesReply 0x20 .ok []
            ∧ u.mode = .setup ∧ u.relay = false ∧ u.setup.working = s.setup.active ∧ u.setup.timer = none
            ∧ (∀ p : PumpNo, pumpRun u p = false) ∧ (∀ a : ArmNo, u.arms[a].command = .close)))

/-- R161, R163: in SETUP a CONFIG PUT of a good record replaces the working copy's record of its kind and index,
starts the setup timer if it is not running, and changes nothing else; one whose record fails its checks is answered
FORMAT, and outside SETUP one is answered MODE, with nothing changed; that MODE comes before FORMAT there for a field out of
range is the model's deduction (assumption 11). R163: the setup timer that reaches 900 s
discards the working copy and locks the rack, the active configuration unchanged and the relay de-energised. -/
def Obligations.ConfigPutEditsWithinTheSetupTime : Prop :=
  (∀ (s : State) (body : List Byte), Taken 0x21 s → recordLengthWrong body = false →
     (∀ w r, s.mode = .setup → s.setup.working = some w → parseRecord body = some r →
       exec (.configPut body) s = .next
         ({ sendReply 0x21 (.ok, .bytes []) (heard s) with
             setup := { s.setup with
               working := some (w.put r)
               timer := match s.setup.timer with
                 | some t => some t
                 | none => some ⟨0, 90000000⟩ } } : State).write) ∧
     (∀ w, s.mode = .setup → s.setup.working = some w → parseRecord body = none →
       exec (.configPut body) s = .next (sendReply 0x21 (.format, .bytes []) (heard s)).write) ∧
     (s.mode ≠ .setup → exec (.configPut body) s = .next (sendReply 0x21 (.mode, .bytes []) (heard s)).write)) ∧
  (∀ s : State, Ready s → s.mode = .setup → isRunning s.setup.timer = true →
     ∃ u, exec .setupTimerExpiry s = .next (settleCommand u)
       ∧ u.mode = .setupLocked ∧ u.relay = false ∧ u.setup.working = none ∧ u.setup.timer = none
       ∧ u.setup.active = s.setup.active ∧ u.setup.digest = s.setup.digest
       ∧ u = { s.fresh with
           mode := u.mode, relay := u.relay, trip := u.trip, arms := u.arms, pumps := u.pumps, setup := u.setup
           inbox := u.inbox })

/-- R164, R165: SETUP CLOSE in SETUP. A working copy with a record that fails one of the seven checks of R164 is answered
INVALID with the kind, the index and the check of the first failure in serialisation order; a digest that differs is answered DIGEST; both change nothing. A matching digest makes the working copy active
with that digest, discards the copy, stops the timer, is retained, and brings the rack out of SETUP into RUN, from
which a trip may already have begun; a changed arm's carries and pulse count are 0, an unchanged one's inputs stand. -/
def Obligations.SetupCloseCommitsOnTheDigest : Prop :=
  ∀ (s : State) (c : Configuration) (body : List Byte), Taken 0x23 s → s.mode = .setup →
    s.setup.working = some c → body.length = 2 →
    (∀ kind index check, FirstFailure c kind index check →
      exec (.setupClose body) s = .next
        (sendReply 0x23 (.invalid, .bytes (be 1 kind ++ be 1 index ++ be 1 check)) (heard s)).write) ∧
    ((∀ k i n, ¬CheckFails c k i n) → c.digestOf.toNat ≠ fld body 0 2 →
      exec (.setupClose body) s = .next (sendReply 0x23 (.digest, .bytes []) (heard s)).write) ∧
    ((∀ k i n, ¬CheckFails c k i n) → c.digestOf.toNat = fld body 0 2 →
      ∃ t, exec (.setupClose body) s = .next t
        ∧ t.setup = { active := some c, digest := c.digestOf, working := none, timer := none, query := none }
        ∧ t.line.reply = bytesReply 0x23 .ok [] ∧ t.nv.config = some (c, c.digestOf)
        ∧ (t.mode = .run ∨ t.mode = .tripping ∨ t.mode = .tripped)
        ∧ (∀ a : ArmNo, armRecordChanged s.setup.active c a = true →
            t.meters[a].rG = 0 ∧ t.meters[a].rS = 0 ∧ t.pulses[a].count = 0
              ∧ t.pulses[a].locked = !((c.arms[a]).used && (c.arms[a]).dual))
        ∧ (∀ a : ArmNo, armRecordChanged s.setup.active c a = false → t.pulses[a] = s.pulses[a]
            ∧ t.meters[a].totaliser = s.meters[a].totaliser))

/-- R166: SETUP ABANDON in SETUP with a valid active configuration discards the working copy, stops the setup timer
and brings RUN with the relay energised, or TRIPPING when an instance holds a trip (R158), leaving the active
configuration and the digest; with an invalid one, and outside SETUP, it is answered MODE and changes nothing. -/
def Obligations.SetupAbandonKeepsTheConfiguration : Prop :=
  ∀ s : State, Ready s → LineFree s →
    (s.mode = .setup → s.setup.active.isSome = true →
      ∃ u, exec (.setupAbandon []) s = .next (settleCommand u)
        ∧ u.setup = { s.setup with working := none, timer := none }
        ∧ u.line.reply = bytesReply 0x24 .ok [] ∧ u.relay = true
        ∧ u = { heard s with
            mode := u.mode, relay := u.relay, trip := u.trip, arms := u.arms, pumps := u.pumps, setup := u.setup
            line := u.line, inbox := u.inbox }
        ∧ (u.mode = .run ∨ u.mode = .tripping)
        ∧ ((∀ i ∈ allInsts, (s.supCfg i).trip = true → (s.inst i).state ≠ .active ∧ (s.inst i).state ≠ .latched) →
            u.mode = .run)
        ∧ ((∃ i ∈ allInsts, (s.supCfg i).trip = true ∧ ((s.inst i).state = .active ∨ (s.inst i).state = .latched)) →
            u.mode = .tripping)) ∧
    (s.mode = .setup → s.setup.active = none →
      exec (.setupAbandon []) s = .next (sendReply 0x24 (.mode, .bytes []) (heard s)).write) ∧
    (s.mode ≠ .setup →
      exec (.setupAbandon []) s = .next (sendReply 0x24 (.mode, .bytes []) (heard s)).write)

/-! ### The host line -/

/-- R172: the frame receiver. A start byte in HUNT starts a frame, a length above 1024 brings SKIPPING, a gap inside a
frame brings HUNT, the idle line ends SKIPPING, and a frame that fails a check of R172 changes nothing but the
receiver, which hunts again. That a length above 1024 is taken from HUNT as well is the model's choice (assumption
15). -/
def Obligations.ReceiverFollowsTheLine : Prop :=
  ∀ s : State, s.phase ≠ .off →
    (s.line.receiver = .hunt →
      exec .startByte s = .next { s.fresh with line := { s.line with receiver := .receiving } }) ∧
    (s.line.receiver ≠ .hunt → exec .startByte s = .next s.fresh) ∧
    (s.line.receiver ≠ .skipping →
      exec .lengthAbove1024 s = .next { s.fresh with line := { s.line with receiver := .skipping } }) ∧
    (s.line.receiver = .receiving →
      exec .interByteGap s = .next { s.fresh with line := { s.line with receiver := .hunt } }) ∧
    (s.line.receiver = .skipping →
      exec .lineIdle s = .next { s.fresh with line := { s.line with receiver := .hunt } }) ∧
    (∀ bytes, s.line.receiver ≠ .skipping → frameDiscards s.line.address s.line.reply.isSome bytes = true →
      exec (.frameDiscarded bytes) s = .next { s.fresh with line := { s.line with receiver := .hunt } }) ∧
    (∀ bytes, s.line.receiver = .skipping → exec (.frameDiscarded bytes) s = .next s.fresh)

/-- R172, R173, R175: every message, whatever its body. While the receiver is skipping its bytes are ignored; while a
reply is pending it is discarded; taken in service it sets the link ONLINE and restarts the link timer; taken in
START_UP it leaves the link as it is. That one command is one whole frame, taken from HUNT as from RECEIVING, is the
model's choice (assumption 15). -/
def Obligations.EveryFrameIsTakenOrLost : Prop :=
  ∀ (c : Instr) (s : State), isFrame c = true → c.WF →
    (s.phase = .off → exec c s = .next s) ∧
    (s.phase ≠ .off → s.line.receiver = .skipping → exec c s = .next s.fresh) ∧
    (s.phase ≠ .off → s.line.receiver ≠ .skipping → s.line.reply.isSome = true →
      exec c s = .next { s.fresh with line := { s.line with receiver := .hunt } }) ∧
    (Ready s → LineFree s → ∃ t, exec c s = .next t ∧ t.line.receiver = .hunt ∧ t.line.link = .online
      ∧ t.line.linkTimer = some ⟨0, s.cfg.rack.linkTimeout * 100000⟩) ∧
    (∀ cause, s.phase = .starting cause → LineFree s → ∃ t, exec c s = .next t ∧ t.line.receiver = .hunt
      ∧ t.line.link = s.line.link ∧ t.line.linkTimer = s.line.linkTimer)

/-- R173, R174, R178: a kind that names no message is answered UNKNOWN and changes nothing else but the link. R163, R174:
every message of the catalogue that the rack mode does not take is answered MODE, in service and in START_UP, and R180,
R184: every message taken whose body has not the length of its layout is answered FORMAT; both change nothing else but the
receiver and, in service, the link, and an all-call frame then has no effect and gets no reply. R174: the table of modes
and messages. -/
def Obligations.UnsuitedRequestsOnlyGetTheirCode : Prop :=
  (∀ (m : Mode) (kind : Byte), modeTakes m kind.toNat = true ↔ ModeAdmits m kind) ∧
  (∀ s : State, LineFree s →
    (∀ kind body, (Instr.unknownKind kind body).WF → Ready s →
      exec (.unknownKind kind body) s = .next (sendReply kind (.unknown, .bytes []) (heard s)).write) ∧
    (∀ (c : Instr) (kind : Byte), messageOf c = some (kind, .addressed) →
      (Ready s → ¬ModeAdmits s.mode kind →
        exec c s = .next (sendReply kind (.mode, .bytes []) (heard s)).write) ∧
      (∀ cause, s.phase = .starting cause → s.mode = .startUp → kind ≠ 0x7F →
        exec c s = .next (sendReply kind (.mode, .bytes []) { s.fresh with line := { s.line with receiver := .hunt } })) ∧
      (Ready s → ModeAdmits s.mode kind → ¬LengthRight c →
        exec c s = .next (sendReply kind (.format, .bytes []) (heard s)).write)) ∧
    (∀ (c : Instr) (kind : Byte), messageOf c = some (kind, .allCall) →
      (Ready s → ¬ModeAdmits s.mode kind ∨ ¬LengthRight c → exec c s = .next (heard s).write) ∧
      (∀ cause, s.phase = .starting cause → s.mode = .startUp →
        exec c s = .next { s.fresh with line := { s.line with receiver := .hunt } })))

/-- R104, R175, R176: the link timer that runs out brings STANDALONE; a second moves a set clock on, at the end of the
day to second 0 of the next day with every permit's used figure at 0; CLOCK SET sets the clock and its count toward
the next second, with used at 0 when a set clock changes its day, answered OK when addressed and not answered to all
stations; a second above 86399 is answered FORMAT. -/
def Obligations.ClockAndLinkKeepTime : Prop :=
  ∀ s : State,
    (Ready s → isRunning s.line.linkTimer = true →
      exec .linkTimeout s = .next
        ({ s.fresh with line := { s.line with link := .standalone, linkTimer := none } } : State).write) ∧
    (Ready s → s.line.clock = none → exec .clockSecond s = .next s.fresh.write) ∧
    (∀ t, Ready s → s.line.clock = some t → t.second + 1 < 86400 →
      exec .clockSecond s = .next
        ({ s.fresh with
            line := { s.line with clock := some ⟨t.day, t.second + 1⟩, subSecond := 0 } } : State).write) ∧
    (∀ t, Ready s → s.line.clock = some t → 86400 ≤ t.second + 1 →
      exec .clockSecond s = .next
        ({ s.fresh with
            line := { s.line with clock := some ⟨(t.day + 1) % 65536, 0⟩, subSecond := 0 }
            permits := s.permits.map fun p => { p with used := 0 } } : State).write) ∧
    (∀ dest body, Taken 0x10 s → body.length = 6 → fld body 2 4 ≤ 86399 →
      let h := heard s
      let t : State :=
        { h with
            line := { h.line with clock := some ⟨fld body 0 2, fld body 2 4⟩, subSecond := 0 }
            permits := match s.line.clock with
              | some o => if o.day = fld body 0 2 then s.permits else s.permits.map fun p => { p with used := 0 }
              | none => s.permits }
      exec (.clockSet dest body) s = .next (match dest with
        | .addressed => (sendReply 0x10 (.ok, .bytes []) t).write
        | .allCall => t.write)) ∧
    (∀ body, Taken 0x10 s → body.length = 6 → 86399 < fld body 2 4 →
      exec (.clockSet .addressed body) s = .next (sendReply 0x10 (.format, .bytes []) (heard s)).write
        ∧ exec (.clockSet .allCall body) s = .next (heard s).write)

/-- R177: the six status messages read state and change none: each is answered OK with the fields held when it reaches
its owner. -/
def Obligations.StatusMessagesOnlyRead : Prop :=
  ∀ s : State,
    (Taken 0x01 s → exec (.rackStatus []) s
      = .next (sendReply 0x01 (.ok, .rackStatus (rackStatusOf (heard s))) (heard s)).write) ∧
    (∀ b : BayNo, Taken 0x02 s → exec (.bayStatus (be 1 (unitNo b))) s
      = .next (sendReply 0x02 (.ok, .bayStatus (bayStatusOf b (heard s))) (heard s)).write) ∧
    (∀ a : ArmNo, Taken 0x03 s → exec (.armStatus (be 1 (unitNo a))) s
      = .next (sendReply 0x03 (.ok, .armStatus (armStatusOf a (heard s))) (heard s)).write) ∧
    (∀ i : InjNo, Taken 0x04 s → exec (.injectorStatus (be 1 (unitNo i))) s
      = .next (sendReply 0x04 (.ok, .injectorStatus (injectorStatusOf i (heard s))) (heard s)).write) ∧
    (Taken 0x05 s → exec (.supervisionList []) s
      = .next (sendReply 0x05 (.ok, .supervisionList (allInsts.map (instanceReport s))) (heard s)).write) ∧
    (Taken 0x06 s → exec (.totaliserRead []) s
      = .next (sendReply 0x06 (.ok, .bytes (s.meters.toList.flatMap fun m => be 8 m.totaliser)) (heard s)).write) ∧
    (∀ n, Taken 0x02 s → n = 0 ∨ (4 < n ∧ n < 256) → exec (.bayStatus (be 1 n)) s
      = .next (sendReply 0x02 (.format, .bytes []) (heard s)).write)

/-- R88, R97, R153, R154, R162: the messages that read a record change nothing: each is answered OK with the record's
bytes, or NOT_FOUND; that PERMIT READ in mode EXACT answers so for the number 0 is the model's deduction (assumption
12). CONFIG READ reads the working copy in SETUP and the active configuration elsewhere. -/
def Obligations.RecordMessagesOnlyRead : Prop :=
  ∀ s : State,
    let reply : Byte → Option (List Byte) → Host.Outcome State Fault Refusal := fun kind found =>
      match found with
      | some l => .next (sendReply kind (.ok, .bytes l) (heard s)).write
      | none => .next (sendReply kind (.notFound, .bytes []) (heard s)).write
    (∀ n, Taken 0x31 s → n < 65536 →
      exec (.permitRead (be 2 n ++ [0])) s = reply 0x31 ((findPermit s.permits n).map Permit.bytes)
        ∧ exec (.permitRead (be 2 n ++ [1])) s = reply 0x31 ((nextPermit s.permits n).map Permit.bytes)) ∧
    (∀ n, Taken 0x41 s → 1 ≤ n → n < 2147483648 →
      exec (.orderRead (0 :: be 4 n)) s = reply 0x41 ((findOrder s.orders n).map Order.bytes)
        ∧ exec (.orderRead (1 :: be 4 n)) s = reply 0x41 ((s.orders[n - 1]?).map Order.bytes)) ∧
    (Taken 0x41 s → exec (.orderRead [1, 0, 0, 0, 0]) s = reply 0x41 (some (be 1 s.orders.length))) ∧
    (Taken 0x60 s → exec (.noteIndex []) s = reply 0x60 (some (be 1 s.notes.held.length ++ be 1 s.notes.reserved
      ++ be 1 s.notes.free ++ be 4 (noteNumber s.notes.held.head?) ++ be 4 (noteNumber s.notes.held.getLast?)
      ++ be 4 s.notes.next))) ∧
    (∀ n, Taken 0x61 s → 1 ≤ n → n ≤ 999999 →
      exec (.noteRead (be 4 n)) s = reply 0x61 ((s.notes.find n).map Note.bytes)) ∧
    (∀ c, Taken 0x22 s → (if s.mode = .setup then s.setup.working else s.setup.active) = some c →
      exec (.configRead [0, 0]) s
          = reply 0x22 (some (be 2 c.digestOf.toNat ++ boolByte s.setup.active.isSome ++ be 2 s.setup.digest.toNat))
        ∧ ∀ kind index r, c.record kind index = some r → 1 ≤ kind → kind < 256 → index < 256 →
          exec (.configRead (be 1 kind ++ be 1 index)) s = reply 0x22 (some r.bytes)) ∧
    (∀ a : ArmNo, Taken 0x22 s → s.mode ≠ .setup → s.setup.active = none →
      exec (.configRead [3, BitVec.ofNat 8 (unitNo a)]) s = reply 0x22 none)

/-! ### Permits, orders and notes by message -/

/-- R87: PERMIT PUT. An entry in use, a token another entry holds, a full table are refused in this order; else an
entry of that number is replaced, keeping its running figures, or a new one is added; a malformed one is answered
FORMAT. -/
def Obligations.PermitPutAddsOrReplaces : Prop :=
  ∀ (s : State) (body : List Byte), Taken 0x30 s →
    (parsePermit body = none →
      exec (.permitPut body) s = .next (sendReply 0x30 (.format, .bytes []) (heard s)).write) ∧
    (∀ new : Permit, parsePermit body = some new →
    let h := heard s
    let own := findPermit s.permits new.number
    let inUse := own.any (fun p => p.openSession.isSome) = true
    let double := ∃ p ∈ s.permits, p.token = new.token ∧ p.number ≠ new.number
    (inUse → exec (.permitPut body) s = .next (sendReply 0x30 (.inUse, .bytes []) h).write) ∧
    (¬inUse → double → exec (.permitPut body) s = .next (sendReply 0x30 (.duplicate, .bytes []) h).write) ∧
    (¬double → own = none → 512 ≤ s.permits.length →
      exec (.permitPut body) s = .next (sendReply 0x30 (.full, .bytes []) h).write) ∧
    (¬double → own = none → s.permits.length < 512 →
      exec (.permitPut body) s = .next
        (sendReply 0x30 (.ok, .bytes [0]) { h with permits := s.permits ++ [new] }).write) ∧
    (¬inUse → ¬double → own.isSome = true →
      exec (.permitPut body) s = .next (sendReply 0x30 (.ok, .bytes [1])
        { h with permits := modPermit s.permits new.number fun p =>
            { new with used := p.used, reserved := p.reserved, state := p.state
                       openSession := p.openSession } }).write))

/-- R89, R90, R91, R95: PERMIT SUSPEND and REINSTATE set the entry's state, IN_USE for a RETIRING one; PERMIT REMOVE
deletes an entry without a session, its orders orphaned, and makes one with a session RETIRING; QUOTA SET sets the
quota and, when asked, zeroes used. An entry that is not there is answered NOT_FOUND. -/
def Obligations.PermitMessagesActOnTheEntryNamed : Prop :=
  ∀ (s : State) (n : Nat), 1 ≤ n → n < 65536 →
    let h := heard s
    (findPermit s.permits n = none →
      (Taken 0x32 s → exec (.permitSuspend (be 2 n)) s = .next (sendReply 0x32 (.notFound, .bytes []) h).write) ∧
      (Taken 0x33 s → exec (.permitReinstate (be 2 n)) s = .next (sendReply 0x33 (.notFound, .bytes []) h).write) ∧
      (Taken 0x34 s → exec (.permitRemove (be 2 n)) s = .next (sendReply 0x34 (.notFound, .bytes []) h).write) ∧
      (∀ quota zero, Taken 0x35 s → quota ≤ 10000000 →
        exec (.quotaSet (be 2 n ++ be 4 quota ++ boolByte zero)) s
          = .next (sendReply 0x35 (.notFound, .bytes []) h).write)) ∧
    (∀ p, findPermit s.permits n = some p →
      (Taken 0x32 s → p.state = .retiring →
        exec (.permitSuspend (be 2 n)) s = .next (sendReply 0x32 (.inUse, .bytes []) h).write) ∧
      (Taken 0x32 s → p.state ≠ .retiring →
        exec (.permitSuspend (be 2 n)) s = .next (sendReply 0x32 (.ok, .bytes [])
          { h with permits := modPermit s.permits n fun p => { p with state := .suspended } }).write) ∧
      (Taken 0x33 s → p.state = .retiring →
        exec (.permitReinstate (be 2 n)) s = .next (sendReply 0x33 (.inUse, .bytes []) h).write) ∧
      (Taken 0x33 s → p.state ≠ .retiring →
        exec (.permitReinstate (be 2 n)) s = .next (sendReply 0x33 (.ok, .bytes [])
          { h with permits := modPermit s.permits n fun p => { p with state := .active } }).write) ∧
      (Taken 0x34 s → p.openSession = none →
        exec (.permitRemove (be 2 n)) s = .next (sendReply 0x34 (.ok, .bytes [0])
          { h with
              permits := s.permits.filter fun p => p.number ≠ n
              orders := s.orders.map fun o => if o.permit = n then { o with orphaned := true } else o }).write) ∧
      (Taken 0x34 s → p.openSession ≠ none →
        exec (.permitRemove (be 2 n)) s = .next (sendReply 0x34 (.ok, .bytes [1])
          { h with permits := modPermit s.permits n fun p => { p with state := .retiring } }).write) ∧
      (∀ quota zero, Taken 0x35 s → quota ≤ 10000000 →
        exec (.quotaSet (be 2 n ++ be 4 quota ++ boolByte zero)) s = .next (sendReply 0x35
          (.ok, .bytes (be 4 quota ++ be 4 (if zero then 0 else p.used) ++ be 4 p.reserved))
          { h with permits := modPermit s.permits n fun p =>
              { p with quota := quota, used := if zero then 0 else p.used } }).write))

/-- R96, R98, R155: ORDER PUT. A number the book holds, a permit the table lacks, a product outside the permit's mask
or not enabled and a full book are refused in this order, and else the order joins the end of the book, PENDING. ORDER
CANCEL takes a PENDING order out; an ACTIVE one is answered IN_USE, one that is not there NOT_FOUND. NOTE RELEASE
takes a note out of the store and answers the free count; the other notes keep their places. -/
def Obligations.OrderAndNoteMessagesKeepTheirStores : Prop :=
  ∀ s : State,
    let h := heard s
    (∀ body o, Taken 0x40 s → parseOrder body = some o →
      let held := findOrder s.orders o.number
      let permit := findPermit s.permits o.permit
      let refused (r : ResultCode) := exec (.orderPut body) s = .next (sendReply 0x40 (r, .bytes []) h).write
      (held ≠ none → refused .duplicate) ∧
      (held = none → permit = none → refused .notFound) ∧
      (∀ p, held = none → permit = some p →
        (∃ e ∈ o.entries, maskHas p.productMask e.product = false ∨ s.cfg.products[e.product].enabled = false) →
        refused .invalid) ∧
      (∀ p, held = none → permit = some p →
        (∀ e ∈ o.entries, maskHas p.productMask e.product = true ∧ s.cfg.products[e.product].enabled = true) →
        (32 ≤ s.orders.length → refused .full) ∧
        (s.orders.length < 32 → o.active = false ∧ o.orphaned = false ∧
          exec (.orderPut body) s = .next
            (sendReply 0x40 (.ok, .bytes []) { h with orders := s.orders ++ [o] }).write))) ∧
    (∀ n, Taken 0x42 s → 1 ≤ n → n < 2147483648 →
      (findOrder s.orders n = none →
        exec (.orderCancel (be 4 n)) s = .next (sendReply 0x42 (.notFound, .bytes []) h).write) ∧
      (∀ o, findOrder s.orders n = some o → o.active = true →
        exec (.orderCancel (be 4 n)) s = .next (sendReply 0x42 (.inUse, .bytes []) h).write) ∧
      (∀ o, findOrder s.orders n = some o → o.active = false →
        exec (.orderCancel (be 4 n)) s = .next (sendReply 0x42 (.ok, .bytes [])
          { h with orders := s.orders.filter fun x => x.number ≠ n }).write)) ∧
    (∀ n, Taken 0x62 s → 1 ≤ n → n ≤ 999999 →
      (∀ x, s.notes.find n = some x →
        exec (.noteRelease (be 4 n)) s = .next
          (sendReply 0x62
            (.ok, .bytes (be 1 (64 - (s.notes.held.filter fun y => y.number ≠ n).length - s.notes.reserved)))
            { h with
                notes := { s.notes with held := s.notes.held.filter fun y => y.number ≠ n } }).write) ∧
      (s.notes.find n = none →
        exec (.noteRelease (be 4 n)) s = .next (sendReply 0x62 (.notFound, .bytes []) h).write))
end

