-- ==== Sys2Proof/Laws/State.lean ====
section
/-! SUPPORT. One lemma for each field of State and each named update of it, true by definition; and the reading of a
vector of units after a change. -/

namespace Sys2Proof.Machine

/-! ### Vectors of units -/

/-- The simp normal form of a unit's value is by its number: `v[i.val]`. -/
@[simp] theorem vset_self {α : Type} {n : Nat} (v : Vector α n) (i : Fin n) (x : α) :
    (vset v i x)[i.val] = x := by
  simp [vset]

theorem vset_other {α : Type} {n : Nat} (v : Vector α n) (i j : Fin n) (x : α) (h : j ≠ i) :
    (vset v i x)[j.val] = v[j.val] := by
  have : i.val ≠ j.val := fun e => h (Fin.ext e.symm)
  simp [vset, this]

theorem vset_get {α : Type} {n : Nat} (v : Vector α n) (i j : Fin n) (x : α) :
    (vset v i x)[j.val] = if j = i then x else v[j.val] := by
  by_cases h : j = i
  · subst h; simp
  · rw [vset_other _ _ _ _ h, if_neg h]

@[simp] theorem vmod_self {α : Type} {n : Nat} (v : Vector α n) (i : Fin n) (f : α → α) :
    (vmod v i f)[i.val] = f v[i.val] := by
  simp [vmod]

theorem vmod_other {α : Type} {n : Nat} (v : Vector α n) (i j : Fin n) (f : α → α) (h : j ≠ i) :
    (vmod v i f)[j.val] = v[j.val] := by
  simp only [vmod]; exact vset_other _ _ _ _ h

theorem vmod_get {α : Type} {n : Nat} (v : Vector α n) (i j : Fin n) (f : α → α) :
    (vmod v i f)[j.val] = if j = i then f v[j.val] else v[j.val] := by
  by_cases h : j = i
  · subst h; simp
  · rw [vmod_other _ _ _ _ h, if_neg h]

@[simp] theorem vmap_get {α β : Type} {n : Nat} (f : α → β) (v : Vector α n) (i : Fin n) :
    (vmap f v)[i.val] = f v[i.val] := by
  simp [vmap]

@[simp] theorem vzip_get {α β γ : Type} {n : Nat} (f : α → β → γ) (v : Vector α n) (w : Vector β n) (i : Fin n) :
    (vzip f v w)[i.val] = f v[i.val] w[i.val] := by
  simp [vzip]

/-- Two vectors of units with equal values are equal. -/
theorem vec_ext {α : Type} {n : Nat} (v w : Vector α n) (h : ∀ i : Fin n, v[i.val] = w[i.val]) : v = w := by
  apply Vector.ext
  intro i hi
  exact h ⟨i, hi⟩

variable (s : State)

/-! ### modPulse -/

@[simp] theorem modPulse_pending (a : ArmNo) (f : PulseInput → PulseInput) :
    (s.modPulse a f).pending = s.pending := rfl
@[simp] theorem modPulse_phase (a : ArmNo) (f : PulseInput → PulseInput) :
    (s.modPulse a f).phase = s.phase := rfl
@[simp] theorem modPulse_mode (a : ArmNo) (f : PulseInput → PulseInput) :
    (s.modPulse a f).mode = s.mode := rfl
@[simp] theorem modPulse_relay (a : ArmNo) (f : PulseInput → PulseInput) :
    (s.modPulse a f).relay = s.relay := rfl
@[simp] theorem modPulse_pins (a : ArmNo) (f : PulseInput → PulseInput) :
    (s.modPulse a f).pins = s.pins := rfl
@[simp] theorem modPulse_pulses (a : ArmNo) (f : PulseInput → PulseInput) :
    (s.modPulse a f).pulses = vmod s.pulses a f := rfl
@[simp] theorem modPulse_temps (a : ArmNo) (f : PulseInput → PulseInput) :
    (s.modPulse a f).temps = s.temps := rfl
@[simp] theorem modPulse_meters (a : ArmNo) (f : PulseInput → PulseInput) :
    (s.modPulse a f).meters = s.meters := rfl
@[simp] theorem modPulse_arms (a : ArmNo) (f : PulseInput → PulseInput) :
    (s.modPulse a f).arms = s.arms := rfl
@[simp] theorem modPulse_pumps (a : ArmNo) (f : PulseInput → PulseInput) :
    (s.modPulse a f).pumps = s.pumps := rfl
@[simp] theorem modPulse_injectors (a : ArmNo) (f : PulseInput → PulseInput) :
    (s.modPulse a f).injectors = s.injectors := rfl
@[simp] theorem modPulse_permits (a : ArmNo) (f : PulseInput → PulseInput) :
    (s.modPulse a f).permits = s.permits := rfl
@[simp] theorem modPulse_orders (a : ArmNo) (f : PulseInput → PulseInput) :
    (s.modPulse a f).orders = s.orders := rfl
@[simp] theorem modPulse_bays (a : ArmNo) (f : PulseInput → PulseInput) :
    (s.modPulse a f).bays = s.bays := rfl
@[simp] theorem modPulse_sup (a : ArmNo) (f : PulseInput → PulseInput) :
    (s.modPulse a f).sup = s.sup := rfl
@[simp] theorem modPulse_trip (a : ArmNo) (f : PulseInput → PulseInput) :
    (s.modPulse a f).trip = s.trip := rfl
@[simp] theorem modPulse_notes (a : ArmNo) (f : PulseInput → PulseInput) :
    (s.modPulse a f).notes = s.notes := rfl
@[simp] theorem modPulse_setup (a : ArmNo) (f : PulseInput → PulseInput) :
    (s.modPulse a f).setup = s.setup := rfl
@[simp] theorem modPulse_line (a : ArmNo) (f : PulseInput → PulseInput) :
    (s.modPulse a f).line = s.line := rfl
@[simp] theorem modPulse_nv (a : ArmNo) (f : PulseInput → PulseInput) :
    (s.modPulse a f).nv = s.nv := rfl
@[simp] theorem modPulse_undo (a : ArmNo) (f : PulseInput → PulseInput) :
    (s.modPulse a f).undo = s.undo := rfl
@[simp] theorem modPulse_inbox (a : ArmNo) (f : PulseInput → PulseInput) :
    (s.modPulse a f).inbox = s.inbox := rfl

/-! ### modTemp -/

@[simp] theorem modTemp_pending (a : ArmNo) (f : TempReceiver → TempReceiver) :
    (s.modTemp a f).pending = s.pending := rfl
@[simp] theorem modTemp_phase (a : ArmNo) (f : TempReceiver → TempReceiver) :
    (s.modTemp a f).phase = s.phase := rfl
@[simp] theorem modTemp_mode (a : ArmNo) (f : TempReceiver → TempReceiver) :
    (s.modTemp a f).mode = s.mode := rfl
@[simp] theorem modTemp_relay (a : ArmNo) (f : TempReceiver → TempReceiver) :
    (s.modTemp a f).relay = s.relay := rfl
@[simp] theorem modTemp_pins (a : ArmNo) (f : TempReceiver → TempReceiver) :
    (s.modTemp a f).pins = s.pins := rfl
@[simp] theorem modTemp_pulses (a : ArmNo) (f : TempReceiver → TempReceiver) :
    (s.modTemp a f).pulses = s.pulses := rfl
@[simp] theorem modTemp_temps (a : ArmNo) (f : TempReceiver → TempReceiver) :
    (s.modTemp a f).temps = vmod s.temps a f := rfl
@[simp] theorem modTemp_meters (a : ArmNo) (f : TempReceiver → TempReceiver) :
    (s.modTemp a f).meters = s.meters := rfl
@[simp] theorem modTemp_arms (a : ArmNo) (f : TempReceiver → TempReceiver) :
    (s.modTemp a f).arms = s.arms := rfl
@[simp] theorem modTemp_pumps (a : ArmNo) (f : TempReceiver → TempReceiver) :
    (s.modTemp a f).pumps = s.pumps := rfl
@[simp] theorem modTemp_injectors (a : ArmNo) (f : TempReceiver → TempReceiver) :
    (s.modTemp a f).injectors = s.injectors := rfl
@[simp] theorem modTemp_permits (a : ArmNo) (f : TempReceiver → TempReceiver) :
    (s.modTemp a f).permits = s.permits := rfl
@[simp] theorem modTemp_orders (a : ArmNo) (f : TempReceiver → TempReceiver) :
    (s.modTemp a f).orders = s.orders := rfl
@[simp] theorem modTemp_bays (a : ArmNo) (f : TempReceiver → TempReceiver) :
    (s.modTemp a f).bays = s.bays := rfl
@[simp] theorem modTemp_sup (a : ArmNo) (f : TempReceiver → TempReceiver) :
    (s.modTemp a f).sup = s.sup := rfl
@[simp] theorem modTemp_trip (a : ArmNo) (f : TempReceiver → TempReceiver) :
    (s.modTemp a f).trip = s.trip := rfl
@[simp] theorem modTemp_notes (a : ArmNo) (f : TempReceiver → TempReceiver) :
    (s.modTemp a f).notes = s.notes := rfl
@[simp] theorem modTemp_setup (a : ArmNo) (f : TempReceiver → TempReceiver) :
    (s.modTemp a f).setup = s.setup := rfl
@[simp] theorem modTemp_line (a : ArmNo) (f : TempReceiver → TempReceiver) :
    (s.modTemp a f).line = s.line := rfl
@[simp] theorem modTemp_nv (a : ArmNo) (f : TempReceiver → TempReceiver) :
    (s.modTemp a f).nv = s.nv := rfl
@[simp] theorem modTemp_undo (a : ArmNo) (f : TempReceiver → TempReceiver) :
    (s.modTemp a f).undo = s.undo := rfl
@[simp] theorem modTemp_inbox (a : ArmNo) (f : TempReceiver → TempReceiver) :
    (s.modTemp a f).inbox = s.inbox := rfl

/-! ### modMeter -/

@[simp] theorem modMeter_pending (a : ArmNo) (f : MeterEngine → MeterEngine) :
    (s.modMeter a f).pending = s.pending := rfl
@[simp] theorem modMeter_phase (a : ArmNo) (f : MeterEngine → MeterEngine) :
    (s.modMeter a f).phase = s.phase := rfl
@[simp] theorem modMeter_mode (a : ArmNo) (f : MeterEngine → MeterEngine) :
    (s.modMeter a f).mode = s.mode := rfl
@[simp] theorem modMeter_relay (a : ArmNo) (f : MeterEngine → MeterEngine) :
    (s.modMeter a f).relay = s.relay := rfl
@[simp] theorem modMeter_pins (a : ArmNo) (f : MeterEngine → MeterEngine) :
    (s.modMeter a f).pins = s.pins := rfl
@[simp] theorem modMeter_pulses (a : ArmNo) (f : MeterEngine → MeterEngine) :
    (s.modMeter a f).pulses = s.pulses := rfl
@[simp] theorem modMeter_temps (a : ArmNo) (f : MeterEngine → MeterEngine) :
    (s.modMeter a f).temps = s.temps := rfl
@[simp] theorem modMeter_meters (a : ArmNo) (f : MeterEngine → MeterEngine) :
    (s.modMeter a f).meters = vmod s.meters a f := rfl
@[simp] theorem modMeter_arms (a : ArmNo) (f : MeterEngine → MeterEngine) :
    (s.modMeter a f).arms = s.arms := rfl
@[simp] theorem modMeter_pumps (a : ArmNo) (f : MeterEngine → MeterEngine) :
    (s.modMeter a f).pumps = s.pumps := rfl
@[simp] theorem modMeter_injectors (a : ArmNo) (f : MeterEngine → MeterEngine) :
    (s.modMeter a f).injectors = s.injectors := rfl
@[simp] theorem modMeter_permits (a : ArmNo) (f : MeterEngine → MeterEngine) :
    (s.modMeter a f).permits = s.permits := rfl
@[simp] theorem modMeter_orders (a : ArmNo) (f : MeterEngine → MeterEngine) :
    (s.modMeter a f).orders = s.orders := rfl
@[simp] theorem modMeter_bays (a : ArmNo) (f : MeterEngine → MeterEngine) :
    (s.modMeter a f).bays = s.bays := rfl
@[simp] theorem modMeter_sup (a : ArmNo) (f : MeterEngine → MeterEngine) :
    (s.modMeter a f).sup = s.sup := rfl
@[simp] theorem modMeter_trip (a : ArmNo) (f : MeterEngine → MeterEngine) :
    (s.modMeter a f).trip = s.trip := rfl
@[simp] theorem modMeter_notes (a : ArmNo) (f : MeterEngine → MeterEngine) :
    (s.modMeter a f).notes = s.notes := rfl
@[simp] theorem modMeter_setup (a : ArmNo) (f : MeterEngine → MeterEngine) :
    (s.modMeter a f).setup = s.setup := rfl
@[simp] theorem modMeter_line (a : ArmNo) (f : MeterEngine → MeterEngine) :
    (s.modMeter a f).line = s.line := rfl
@[simp] theorem modMeter_nv (a : ArmNo) (f : MeterEngine → MeterEngine) :
    (s.modMeter a f).nv = s.nv := rfl
@[simp] theorem modMeter_undo (a : ArmNo) (f : MeterEngine → MeterEngine) :
    (s.modMeter a f).undo = s.undo := rfl
@[simp] theorem modMeter_inbox (a : ArmNo) (f : MeterEngine → MeterEngine) :
    (s.modMeter a f).inbox = s.inbox := rfl

/-! ### modArm -/

@[simp] theorem modArm_pending (a : ArmNo) (f : Arm → Arm) :
    (s.modArm a f).pending = s.pending := rfl
@[simp] theorem modArm_phase (a : ArmNo) (f : Arm → Arm) :
    (s.modArm a f).phase = s.phase := rfl
@[simp] theorem modArm_mode (a : ArmNo) (f : Arm → Arm) :
    (s.modArm a f).mode = s.mode := rfl
@[simp] theorem modArm_relay (a : ArmNo) (f : Arm → Arm) :
    (s.modArm a f).relay = s.relay := rfl
@[simp] theorem modArm_pins (a : ArmNo) (f : Arm → Arm) :
    (s.modArm a f).pins = s.pins := rfl
@[simp] theorem modArm_pulses (a : ArmNo) (f : Arm → Arm) :
    (s.modArm a f).pulses = s.pulses := rfl
@[simp] theorem modArm_temps (a : ArmNo) (f : Arm → Arm) :
    (s.modArm a f).temps = s.temps := rfl
@[simp] theorem modArm_meters (a : ArmNo) (f : Arm → Arm) :
    (s.modArm a f).meters = s.meters := rfl
@[simp] theorem modArm_arms (a : ArmNo) (f : Arm → Arm) :
    (s.modArm a f).arms = vmod s.arms a f := rfl
@[simp] theorem modArm_pumps (a : ArmNo) (f : Arm → Arm) :
    (s.modArm a f).pumps = s.pumps := rfl
@[simp] theorem modArm_injectors (a : ArmNo) (f : Arm → Arm) :
    (s.modArm a f).injectors = s.injectors := rfl
@[simp] theorem modArm_permits (a : ArmNo) (f : Arm → Arm) :
    (s.modArm a f).permits = s.permits := rfl
@[simp] theorem modArm_orders (a : ArmNo) (f : Arm → Arm) :
    (s.modArm a f).orders = s.orders := rfl
@[simp] theorem modArm_bays (a : ArmNo) (f : Arm → Arm) :
    (s.modArm a f).bays = s.bays := rfl
@[simp] theorem modArm_sup (a : ArmNo) (f : Arm → Arm) :
    (s.modArm a f).sup = s.sup := rfl
@[simp] theorem modArm_trip (a : ArmNo) (f : Arm → Arm) :
    (s.modArm a f).trip = s.trip := rfl
@[simp] theorem modArm_notes (a : ArmNo) (f : Arm → Arm) :
    (s.modArm a f).notes = s.notes := rfl
@[simp] theorem modArm_setup (a : ArmNo) (f : Arm → Arm) :
    (s.modArm a f).setup = s.setup := rfl
@[simp] theorem modArm_line (a : ArmNo) (f : Arm → Arm) :
    (s.modArm a f).line = s.line := rfl
@[simp] theorem modArm_nv (a : ArmNo) (f : Arm → Arm) :
    (s.modArm a f).nv = s.nv := rfl
@[simp] theorem modArm_undo (a : ArmNo) (f : Arm → Arm) :
    (s.modArm a f).undo = s.undo := rfl
@[simp] theorem modArm_inbox (a : ArmNo) (f : Arm → Arm) :
    (s.modArm a f).inbox = s.inbox := rfl

/-! ### modPump -/

@[simp] theorem modPump_pending (p : PumpNo) (f : Pump → Pump) :
    (s.modPump p f).pending = s.pending := rfl
@[simp] theorem modPump_phase (p : PumpNo) (f : Pump → Pump) :
    (s.modPump p f).phase = s.phase := rfl
@[simp] theorem modPump_mode (p : PumpNo) (f : Pump → Pump) :
    (s.modPump p f).mode = s.mode := rfl
@[simp] theorem modPump_relay (p : PumpNo) (f : Pump → Pump) :
    (s.modPump p f).relay = s.relay := rfl
@[simp] theorem modPump_pins (p : PumpNo) (f : Pump → Pump) :
    (s.modPump p f).pins = s.pins := rfl
@[simp] theorem modPump_pulses (p : PumpNo) (f : Pump → Pump) :
    (s.modPump p f).pulses = s.pulses := rfl
@[simp] theorem modPump_temps (p : PumpNo) (f : Pump → Pump) :
    (s.modPump p f).temps = s.temps := rfl
@[simp] theorem modPump_meters (p : PumpNo) (f : Pump → Pump) :
    (s.modPump p f).meters = s.meters := rfl
@[simp] theorem modPump_arms (p : PumpNo) (f : Pump → Pump) :
    (s.modPump p f).arms = s.arms := rfl
@[simp] theorem modPump_pumps (p : PumpNo) (f : Pump → Pump) :
    (s.modPump p f).pumps = vmod s.pumps p f := rfl
@[simp] theorem modPump_injectors (p : PumpNo) (f : Pump → Pump) :
    (s.modPump p f).injectors = s.injectors := rfl
@[simp] theorem modPump_permits (p : PumpNo) (f : Pump → Pump) :
    (s.modPump p f).permits = s.permits := rfl
@[simp] theorem modPump_orders (p : PumpNo) (f : Pump → Pump) :
    (s.modPump p f).orders = s.orders := rfl
@[simp] theorem modPump_bays (p : PumpNo) (f : Pump → Pump) :
    (s.modPump p f).bays = s.bays := rfl
@[simp] theorem modPump_sup (p : PumpNo) (f : Pump → Pump) :
    (s.modPump p f).sup = s.sup := rfl
@[simp] theorem modPump_trip (p : PumpNo) (f : Pump → Pump) :
    (s.modPump p f).trip = s.trip := rfl
@[simp] theorem modPump_notes (p : PumpNo) (f : Pump → Pump) :
    (s.modPump p f).notes = s.notes := rfl
@[simp] theorem modPump_setup (p : PumpNo) (f : Pump → Pump) :
    (s.modPump p f).setup = s.setup := rfl
@[simp] theorem modPump_line (p : PumpNo) (f : Pump → Pump) :
    (s.modPump p f).line = s.line := rfl
@[simp] theorem modPump_nv (p : PumpNo) (f : Pump → Pump) :
    (s.modPump p f).nv = s.nv := rfl
@[simp] theorem modPump_undo (p : PumpNo) (f : Pump → Pump) :
    (s.modPump p f).undo = s.undo := rfl
@[simp] theorem modPump_inbox (p : PumpNo) (f : Pump → Pump) :
    (s.modPump p f).inbox = s.inbox := rfl

/-! ### modInj -/

@[simp] theorem modInj_pending (i : InjNo) (f : Injector → Injector) :
    (s.modInj i f).pending = s.pending := rfl
@[simp] theorem modInj_phase (i : InjNo) (f : Injector → Injector) :
    (s.modInj i f).phase = s.phase := rfl
@[simp] theorem modInj_mode (i : InjNo) (f : Injector → Injector) :
    (s.modInj i f).mode = s.mode := rfl
@[simp] theorem modInj_relay (i : InjNo) (f : Injector → Injector) :
    (s.modInj i f).relay = s.relay := rfl
@[simp] theorem modInj_pins (i : InjNo) (f : Injector → Injector) :
    (s.modInj i f).pins = s.pins := rfl
@[simp] theorem modInj_pulses (i : InjNo) (f : Injector → Injector) :
    (s.modInj i f).pulses = s.pulses := rfl
@[simp] theorem modInj_temps (i : InjNo) (f : Injector → Injector) :
    (s.modInj i f).temps = s.temps := rfl
@[simp] theorem modInj_meters (i : InjNo) (f : Injector → Injector) :
    (s.modInj i f).meters = s.meters := rfl
@[simp] theorem modInj_arms (i : InjNo) (f : Injector → Injector) :
    (s.modInj i f).arms = s.arms := rfl
@[simp] theorem modInj_pumps (i : InjNo) (f : Injector → Injector) :
    (s.modInj i f).pumps = s.pumps := rfl
@[simp] theorem modInj_injectors (i : InjNo) (f : Injector → Injector) :
    (s.modInj i f).injectors = vmod s.injectors i f := rfl
@[simp] theorem modInj_permits (i : InjNo) (f : Injector → Injector) :
    (s.modInj i f).permits = s.permits := rfl
@[simp] theorem modInj_orders (i : InjNo) (f : Injector → Injector) :
    (s.modInj i f).orders = s.orders := rfl
@[simp] theorem modInj_bays (i : InjNo) (f : Injector → Injector) :
    (s.modInj i f).bays = s.bays := rfl
@[simp] theorem modInj_sup (i : InjNo) (f : Injector → Injector) :
    (s.modInj i f).sup = s.sup := rfl
@[simp] theorem modInj_trip (i : InjNo) (f : Injector → Injector) :
    (s.modInj i f).trip = s.trip := rfl
@[simp] theorem modInj_notes (i : InjNo) (f : Injector → Injector) :
    (s.modInj i f).notes = s.notes := rfl
@[simp] theorem modInj_setup (i : InjNo) (f : Injector → Injector) :
    (s.modInj i f).setup = s.setup := rfl
@[simp] theorem modInj_line (i : InjNo) (f : Injector → Injector) :
    (s.modInj i f).line = s.line := rfl
@[simp] theorem modInj_nv (i : InjNo) (f : Injector → Injector) :
    (s.modInj i f).nv = s.nv := rfl
@[simp] theorem modInj_undo (i : InjNo) (f : Injector → Injector) :
    (s.modInj i f).undo = s.undo := rfl
@[simp] theorem modInj_inbox (i : InjNo) (f : Injector → Injector) :
    (s.modInj i f).inbox = s.inbox := rfl

/-! ### modBay -/

@[simp] theorem modBay_pending (b : BayNo) (f : Bay → Bay) :
    (s.modBay b f).pending = s.pending := rfl
@[simp] theorem modBay_phase (b : BayNo) (f : Bay → Bay) :
    (s.modBay b f).phase = s.phase := rfl
@[simp] theorem modBay_mode (b : BayNo) (f : Bay → Bay) :
    (s.modBay b f).mode = s.mode := rfl
@[simp] theorem modBay_relay (b : BayNo) (f : Bay → Bay) :
    (s.modBay b f).relay = s.relay := rfl
@[simp] theorem modBay_pins (b : BayNo) (f : Bay → Bay) :
    (s.modBay b f).pins = s.pins := rfl
@[simp] theorem modBay_pulses (b : BayNo) (f : Bay → Bay) :
    (s.modBay b f).pulses = s.pulses := rfl
@[simp] theorem modBay_temps (b : BayNo) (f : Bay → Bay) :
    (s.modBay b f).temps = s.temps := rfl
@[simp] theorem modBay_meters (b : BayNo) (f : Bay → Bay) :
    (s.modBay b f).meters = s.meters := rfl
@[simp] theorem modBay_arms (b : BayNo) (f : Bay → Bay) :
    (s.modBay b f).arms = s.arms := rfl
@[simp] theorem modBay_pumps (b : BayNo) (f : Bay → Bay) :
    (s.modBay b f).pumps = s.pumps := rfl
@[simp] theorem modBay_injectors (b : BayNo) (f : Bay → Bay) :
    (s.modBay b f).injectors = s.injectors := rfl
@[simp] theorem modBay_permits (b : BayNo) (f : Bay → Bay) :
    (s.modBay b f).permits = s.permits := rfl
@[simp] theorem modBay_orders (b : BayNo) (f : Bay → Bay) :
    (s.modBay b f).orders = s.orders := rfl
@[simp] theorem modBay_bays (b : BayNo) (f : Bay → Bay) :
    (s.modBay b f).bays = vmod s.bays b f := rfl
@[simp] theorem modBay_sup (b : BayNo) (f : Bay → Bay) :
    (s.modBay b f).sup = s.sup := rfl
@[simp] theorem modBay_trip (b : BayNo) (f : Bay → Bay) :
    (s.modBay b f).trip = s.trip := rfl
@[simp] theorem modBay_notes (b : BayNo) (f : Bay → Bay) :
    (s.modBay b f).notes = s.notes := rfl
@[simp] theorem modBay_setup (b : BayNo) (f : Bay → Bay) :
    (s.modBay b f).setup = s.setup := rfl
@[simp] theorem modBay_line (b : BayNo) (f : Bay → Bay) :
    (s.modBay b f).line = s.line := rfl
@[simp] theorem modBay_nv (b : BayNo) (f : Bay → Bay) :
    (s.modBay b f).nv = s.nv := rfl
@[simp] theorem modBay_undo (b : BayNo) (f : Bay → Bay) :
    (s.modBay b f).undo = s.undo := rfl
@[simp] theorem modBay_inbox (b : BayNo) (f : Bay → Bay) :
    (s.modBay b f).inbox = s.inbox := rfl

/-! ### modInst -/

@[simp] theorem modInst_pending (i : InstId) (f : Instance → Instance) :
    (s.modInst i f).pending = s.pending := rfl
@[simp] theorem modInst_phase (i : InstId) (f : Instance → Instance) :
    (s.modInst i f).phase = s.phase := rfl
@[simp] theorem modInst_mode (i : InstId) (f : Instance → Instance) :
    (s.modInst i f).mode = s.mode := rfl
@[simp] theorem modInst_relay (i : InstId) (f : Instance → Instance) :
    (s.modInst i f).relay = s.relay := rfl
@[simp] theorem modInst_pins (i : InstId) (f : Instance → Instance) :
    (s.modInst i f).pins = s.pins := rfl
@[simp] theorem modInst_pulses (i : InstId) (f : Instance → Instance) :
    (s.modInst i f).pulses = s.pulses := rfl
@[simp] theorem modInst_temps (i : InstId) (f : Instance → Instance) :
    (s.modInst i f).temps = s.temps := rfl
@[simp] theorem modInst_meters (i : InstId) (f : Instance → Instance) :
    (s.modInst i f).meters = s.meters := rfl
@[simp] theorem modInst_arms (i : InstId) (f : Instance → Instance) :
    (s.modInst i f).arms = s.arms := rfl
@[simp] theorem modInst_pumps (i : InstId) (f : Instance → Instance) :
    (s.modInst i f).pumps = s.pumps := rfl
@[simp] theorem modInst_injectors (i : InstId) (f : Instance → Instance) :
    (s.modInst i f).injectors = s.injectors := rfl
@[simp] theorem modInst_permits (i : InstId) (f : Instance → Instance) :
    (s.modInst i f).permits = s.permits := rfl
@[simp] theorem modInst_orders (i : InstId) (f : Instance → Instance) :
    (s.modInst i f).orders = s.orders := rfl
@[simp] theorem modInst_bays (i : InstId) (f : Instance → Instance) :
    (s.modInst i f).bays = s.bays := rfl
@[simp] theorem modInst_sup (i : InstId) (f : Instance → Instance) :
    (s.modInst i f).sup = vmod s.sup i.slot f := rfl
@[simp] theorem modInst_trip (i : InstId) (f : Instance → Instance) :
    (s.modInst i f).trip = s.trip := rfl
@[simp] theorem modInst_notes (i : InstId) (f : Instance → Instance) :
    (s.modInst i f).notes = s.notes := rfl
@[simp] theorem modInst_setup (i : InstId) (f : Instance → Instance) :
    (s.modInst i f).setup = s.setup := rfl
@[simp] theorem modInst_line (i : InstId) (f : Instance → Instance) :
    (s.modInst i f).line = s.line := rfl
@[simp] theorem modInst_nv (i : InstId) (f : Instance → Instance) :
    (s.modInst i f).nv = s.nv := rfl
@[simp] theorem modInst_undo (i : InstId) (f : Instance → Instance) :
    (s.modInst i f).undo = s.undo := rfl
@[simp] theorem modInst_inbox (i : InstId) (f : Instance → Instance) :
    (s.modInst i f).inbox = s.inbox := rfl

/-! ### modLine -/

@[simp] theorem modLine_pending (f : HostLine → HostLine) :
    (s.modLine f).pending = s.pending := rfl
@[simp] theorem modLine_phase (f : HostLine → HostLine) :
    (s.modLine f).phase = s.phase := rfl
@[simp] theorem modLine_mode (f : HostLine → HostLine) :
    (s.modLine f).mode = s.mode := rfl
@[simp] theorem modLine_relay (f : HostLine → HostLine) :
    (s.modLine f).relay = s.relay := rfl
@[simp] theorem modLine_pins (f : HostLine → HostLine) :
    (s.modLine f).pins = s.pins := rfl
@[simp] theorem modLine_pulses (f : HostLine → HostLine) :
    (s.modLine f).pulses = s.pulses := rfl
@[simp] theorem modLine_temps (f : HostLine → HostLine) :
    (s.modLine f).temps = s.temps := rfl
@[simp] theorem modLine_meters (f : HostLine → HostLine) :
    (s.modLine f).meters = s.meters := rfl
@[simp] theorem modLine_arms (f : HostLine → HostLine) :
    (s.modLine f).arms = s.arms := rfl
@[simp] theorem modLine_pumps (f : HostLine → HostLine) :
    (s.modLine f).pumps = s.pumps := rfl
@[simp] theorem modLine_injectors (f : HostLine → HostLine) :
    (s.modLine f).injectors = s.injectors := rfl
@[simp] theorem modLine_permits (f : HostLine → HostLine) :
    (s.modLine f).permits = s.permits := rfl
@[simp] theorem modLine_orders (f : HostLine → HostLine) :
    (s.modLine f).orders = s.orders := rfl
@[simp] theorem modLine_bays (f : HostLine → HostLine) :
    (s.modLine f).bays = s.bays := rfl
@[simp] theorem modLine_sup (f : HostLine → HostLine) :
    (s.modLine f).sup = s.sup := rfl
@[simp] theorem modLine_trip (f : HostLine → HostLine) :
    (s.modLine f).trip = s.trip := rfl
@[simp] theorem modLine_notes (f : HostLine → HostLine) :
    (s.modLine f).notes = s.notes := rfl
@[simp] theorem modLine_setup (f : HostLine → HostLine) :
    (s.modLine f).setup = s.setup := rfl
@[simp] theorem modLine_line (f : HostLine → HostLine) :
    (s.modLine f).line = f s.line := rfl
@[simp] theorem modLine_nv (f : HostLine → HostLine) :
    (s.modLine f).nv = s.nv := rfl
@[simp] theorem modLine_undo (f : HostLine → HostLine) :
    (s.modLine f).undo = s.undo := rfl
@[simp] theorem modLine_inbox (f : HostLine → HostLine) :
    (s.modLine f).inbox = s.inbox := rfl

/-! ### modSession -/

@[simp] theorem modSession_pending (b : BayNo) (f : Session → Session) :
    (s.modSession b f).pending = s.pending := rfl
@[simp] theorem modSession_phase (b : BayNo) (f : Session → Session) :
    (s.modSession b f).phase = s.phase := rfl
@[simp] theorem modSession_mode (b : BayNo) (f : Session → Session) :
    (s.modSession b f).mode = s.mode := rfl
@[simp] theorem modSession_relay (b : BayNo) (f : Session → Session) :
    (s.modSession b f).relay = s.relay := rfl
@[simp] theorem modSession_pins (b : BayNo) (f : Session → Session) :
    (s.modSession b f).pins = s.pins := rfl
@[simp] theorem modSession_pulses (b : BayNo) (f : Session → Session) :
    (s.modSession b f).pulses = s.pulses := rfl
@[simp] theorem modSession_temps (b : BayNo) (f : Session → Session) :
    (s.modSession b f).temps = s.temps := rfl
@[simp] theorem modSession_meters (b : BayNo) (f : Session → Session) :
    (s.modSession b f).meters = s.meters := rfl
@[simp] theorem modSession_arms (b : BayNo) (f : Session → Session) :
    (s.modSession b f).arms = s.arms := rfl
@[simp] theorem modSession_pumps (b : BayNo) (f : Session → Session) :
    (s.modSession b f).pumps = s.pumps := rfl
@[simp] theorem modSession_injectors (b : BayNo) (f : Session → Session) :
    (s.modSession b f).injectors = s.injectors := rfl
@[simp] theorem modSession_permits (b : BayNo) (f : Session → Session) :
    (s.modSession b f).permits = s.permits := rfl
@[simp] theorem modSession_orders (b : BayNo) (f : Session → Session) :
    (s.modSession b f).orders = s.orders := rfl
@[simp] theorem modSession_bays (b : BayNo) (f : Session → Session) :
    (s.modSession b f).bays = vmod s.bays b fun x => { x with session := x.session.map f } := rfl
@[simp] theorem modSession_sup (b : BayNo) (f : Session → Session) :
    (s.modSession b f).sup = s.sup := rfl
@[simp] theorem modSession_trip (b : BayNo) (f : Session → Session) :
    (s.modSession b f).trip = s.trip := rfl
@[simp] theorem modSession_notes (b : BayNo) (f : Session → Session) :
    (s.modSession b f).notes = s.notes := rfl
@[simp] theorem modSession_setup (b : BayNo) (f : Session → Session) :
    (s.modSession b f).setup = s.setup := rfl
@[simp] theorem modSession_line (b : BayNo) (f : Session → Session) :
    (s.modSession b f).line = s.line := rfl
@[simp] theorem modSession_nv (b : BayNo) (f : Session → Session) :
    (s.modSession b f).nv = s.nv := rfl
@[simp] theorem modSession_undo (b : BayNo) (f : Session → Session) :
    (s.modSession b f).undo = s.undo := rfl
@[simp] theorem modSession_inbox (b : BayNo) (f : Session → Session) :
    (s.modSession b f).inbox = s.inbox := rfl

/-! ### modComp -/

@[simp] theorem modComp_pending (b : BayNo) (c : CompNo) (f : CompRec → CompRec) :
    (s.modComp b c f).pending = s.pending := rfl
@[simp] theorem modComp_phase (b : BayNo) (c : CompNo) (f : CompRec → CompRec) :
    (s.modComp b c f).phase = s.phase := rfl
@[simp] theorem modComp_mode (b : BayNo) (c : CompNo) (f : CompRec → CompRec) :
    (s.modComp b c f).mode = s.mode := rfl
@[simp] theorem modComp_relay (b : BayNo) (c : CompNo) (f : CompRec → CompRec) :
    (s.modComp b c f).relay = s.relay := rfl
@[simp] theorem modComp_pins (b : BayNo) (c : CompNo) (f : CompRec → CompRec) :
    (s.modComp b c f).pins = s.pins := rfl
@[simp] theorem modComp_pulses (b : BayNo) (c : CompNo) (f : CompRec → CompRec) :
    (s.modComp b c f).pulses = s.pulses := rfl
@[simp] theorem modComp_temps (b : BayNo) (c : CompNo) (f : CompRec → CompRec) :
    (s.modComp b c f).temps = s.temps := rfl
@[simp] theorem modComp_meters (b : BayNo) (c : CompNo) (f : CompRec → CompRec) :
    (s.modComp b c f).meters = s.meters := rfl
@[simp] theorem modComp_arms (b : BayNo) (c : CompNo) (f : CompRec → CompRec) :
    (s.modComp b c f).arms = s.arms := rfl
@[simp] theorem modComp_pumps (b : BayNo) (c : CompNo) (f : CompRec → CompRec) :
    (s.modComp b c f).pumps = s.pumps := rfl
@[simp] theorem modComp_injectors (b : BayNo) (c : CompNo) (f : CompRec → CompRec) :
    (s.modComp b c f).injectors = s.injectors := rfl
@[simp] theorem modComp_permits (b : BayNo) (c : CompNo) (f : CompRec → CompRec) :
    (s.modComp b c f).permits = s.permits := rfl
@[simp] theorem modComp_orders (b : BayNo) (c : CompNo) (f : CompRec → CompRec) :
    (s.modComp b c f).orders = s.orders := rfl
@[simp] theorem modComp_bays (b : BayNo) (c : CompNo) (f : CompRec → CompRec) :
    (s.modComp b c f).bays = vmod s.bays b fun x => { x with session := x.session.map fun y => y.modComp c f } := rfl
@[simp] theorem modComp_sup (b : BayNo) (c : CompNo) (f : CompRec → CompRec) :
    (s.modComp b c f).sup = s.sup := rfl
@[simp] theorem modComp_trip (b : BayNo) (c : CompNo) (f : CompRec → CompRec) :
    (s.modComp b c f).trip = s.trip := rfl
@[simp] theorem modComp_notes (b : BayNo) (c : CompNo) (f : CompRec → CompRec) :
    (s.modComp b c f).notes = s.notes := rfl
@[simp] theorem modComp_setup (b : BayNo) (c : CompNo) (f : CompRec → CompRec) :
    (s.modComp b c f).setup = s.setup := rfl
@[simp] theorem modComp_line (b : BayNo) (c : CompNo) (f : CompRec → CompRec) :
    (s.modComp b c f).line = s.line := rfl
@[simp] theorem modComp_nv (b : BayNo) (c : CompNo) (f : CompRec → CompRec) :
    (s.modComp b c f).nv = s.nv := rfl
@[simp] theorem modComp_undo (b : BayNo) (c : CompNo) (f : CompRec → CompRec) :
    (s.modComp b c f).undo = s.undo := rfl
@[simp] theorem modComp_inbox (b : BayNo) (c : CompNo) (f : CompRec → CompRec) :
    (s.modComp b c f).inbox = s.inbox := rfl

/-! ### push -/

@[simp] theorem push_pending (n : Notice) :
    (s.push n).pending = s.pending := rfl
@[simp] theorem push_phase (n : Notice) :
    (s.push n).phase = s.phase := rfl
@[simp] theorem push_mode (n : Notice) :
    (s.push n).mode = s.mode := rfl
@[simp] theorem push_relay (n : Notice) :
    (s.push n).relay = s.relay := rfl
@[simp] theorem push_pins (n : Notice) :
    (s.push n).pins = s.pins := rfl
@[simp] theorem push_pulses (n : Notice) :
    (s.push n).pulses = s.pulses := rfl
@[simp] theorem push_temps (n : Notice) :
    (s.push n).temps = s.temps := rfl
@[simp] theorem push_meters (n : Notice) :
    (s.push n).meters = s.meters := rfl
@[simp] theorem push_arms (n : Notice) :
    (s.push n).arms = s.arms := rfl
@[simp] theorem push_pumps (n : Notice) :
    (s.push n).pumps = s.pumps := rfl
@[simp] theorem push_injectors (n : Notice) :
    (s.push n).injectors = s.injectors := rfl
@[simp] theorem push_permits (n : Notice) :
    (s.push n).permits = s.permits := rfl
@[simp] theorem push_orders (n : Notice) :
    (s.push n).orders = s.orders := rfl
@[simp] theorem push_bays (n : Notice) :
    (s.push n).bays = s.bays := rfl
@[simp] theorem push_sup (n : Notice) :
    (s.push n).sup = s.sup := rfl
@[simp] theorem push_trip (n : Notice) :
    (s.push n).trip = s.trip := rfl
@[simp] theorem push_notes (n : Notice) :
    (s.push n).notes = s.notes := rfl
@[simp] theorem push_setup (n : Notice) :
    (s.push n).setup = s.setup := rfl
@[simp] theorem push_line (n : Notice) :
    (s.push n).line = s.line := rfl
@[simp] theorem push_nv (n : Notice) :
    (s.push n).nv = s.nv := rfl
@[simp] theorem push_undo (n : Notice) :
    (s.push n).undo = s.undo := rfl
@[simp] theorem push_inbox (n : Notice) :
    (s.push n).inbox = s.inbox ++ [n] := rfl

/-! ### pushAll -/

@[simp] theorem pushAll_pending (l : List Notice) :
    (s.pushAll l).pending = s.pending := rfl
@[simp] theorem pushAll_phase (l : List Notice) :
    (s.pushAll l).phase = s.phase := rfl
@[simp] theorem pushAll_mode (l : List Notice) :
    (s.pushAll l).mode = s.mode := rfl
@[simp] theorem pushAll_relay (l : List Notice) :
    (s.pushAll l).relay = s.relay := rfl
@[simp] theorem pushAll_pins (l : List Notice) :
    (s.pushAll l).pins = s.pins := rfl
@[simp] theorem pushAll_pulses (l : List Notice) :
    (s.pushAll l).pulses = s.pulses := rfl
@[simp] theorem pushAll_temps (l : List Notice) :
    (s.pushAll l).temps = s.temps := rfl
@[simp] theorem pushAll_meters (l : List Notice) :
    (s.pushAll l).meters = s.meters := rfl
@[simp] theorem pushAll_arms (l : List Notice) :
    (s.pushAll l).arms = s.arms := rfl
@[simp] theorem pushAll_pumps (l : List Notice) :
    (s.pushAll l).pumps = s.pumps := rfl
@[simp] theorem pushAll_injectors (l : List Notice) :
    (s.pushAll l).injectors = s.injectors := rfl
@[simp] theorem pushAll_permits (l : List Notice) :
    (s.pushAll l).permits = s.permits := rfl
@[simp] theorem pushAll_orders (l : List Notice) :
    (s.pushAll l).orders = s.orders := rfl
@[simp] theorem pushAll_bays (l : List Notice) :
    (s.pushAll l).bays = s.bays := rfl
@[simp] theorem pushAll_sup (l : List Notice) :
    (s.pushAll l).sup = s.sup := rfl
@[simp] theorem pushAll_trip (l : List Notice) :
    (s.pushAll l).trip = s.trip := rfl
@[simp] theorem pushAll_notes (l : List Notice) :
    (s.pushAll l).notes = s.notes := rfl
@[simp] theorem pushAll_setup (l : List Notice) :
    (s.pushAll l).setup = s.setup := rfl
@[simp] theorem pushAll_line (l : List Notice) :
    (s.pushAll l).line = s.line := rfl
@[simp] theorem pushAll_nv (l : List Notice) :
    (s.pushAll l).nv = s.nv := rfl
@[simp] theorem pushAll_undo (l : List Notice) :
    (s.pushAll l).undo = s.undo := rfl
@[simp] theorem pushAll_inbox (l : List Notice) :
    (s.pushAll l).inbox = s.inbox ++ l := rfl

/-! ### pushFirst -/

@[simp] theorem pushFirst_pending (l : List Notice) :
    (s.pushFirst l).pending = s.pending := rfl
@[simp] theorem pushFirst_phase (l : List Notice) :
    (s.pushFirst l).phase = s.phase := rfl
@[simp] theorem pushFirst_mode (l : List Notice) :
    (s.pushFirst l).mode = s.mode := rfl
@[simp] theorem pushFirst_relay (l : List Notice) :
    (s.pushFirst l).relay = s.relay := rfl
@[simp] theorem pushFirst_pins (l : List Notice) :
    (s.pushFirst l).pins = s.pins := rfl
@[simp] theorem pushFirst_pulses (l : List Notice) :
    (s.pushFirst l).pulses = s.pulses := rfl
@[simp] theorem pushFirst_temps (l : List Notice) :
    (s.pushFirst l).temps = s.temps := rfl
@[simp] theorem pushFirst_meters (l : List Notice) :
    (s.pushFirst l).meters = s.meters := rfl
@[simp] theorem pushFirst_arms (l : List Notice) :
    (s.pushFirst l).arms = s.arms := rfl
@[simp] theorem pushFirst_pumps (l : List Notice) :
    (s.pushFirst l).pumps = s.pumps := rfl
@[simp] theorem pushFirst_injectors (l : List Notice) :
    (s.pushFirst l).injectors = s.injectors := rfl
@[simp] theorem pushFirst_permits (l : List Notice) :
    (s.pushFirst l).permits = s.permits := rfl
@[simp] theorem pushFirst_orders (l : List Notice) :
    (s.pushFirst l).orders = s.orders := rfl
@[simp] theorem pushFirst_bays (l : List Notice) :
    (s.pushFirst l).bays = s.bays := rfl
@[simp] theorem pushFirst_sup (l : List Notice) :
    (s.pushFirst l).sup = s.sup := rfl
@[simp] theorem pushFirst_trip (l : List Notice) :
    (s.pushFirst l).trip = s.trip := rfl
@[simp] theorem pushFirst_notes (l : List Notice) :
    (s.pushFirst l).notes = s.notes := rfl
@[simp] theorem pushFirst_setup (l : List Notice) :
    (s.pushFirst l).setup = s.setup := rfl
@[simp] theorem pushFirst_line (l : List Notice) :
    (s.pushFirst l).line = s.line := rfl
@[simp] theorem pushFirst_nv (l : List Notice) :
    (s.pushFirst l).nv = s.nv := rfl
@[simp] theorem pushFirst_undo (l : List Notice) :
    (s.pushFirst l).undo = s.undo := rfl
@[simp] theorem pushFirst_inbox (l : List Notice) :
    (s.pushFirst l).inbox = l ++ s.inbox := rfl

/-! ### sendShow -/

@[simp] theorem sendShow_pending (b : BayNo) (p : Prompt) (l : List Nat) :
    (s.sendShow b p l).pending = s.pending := rfl
@[simp] theorem sendShow_phase (b : BayNo) (p : Prompt) (l : List Nat) :
    (s.sendShow b p l).phase = s.phase := rfl
@[simp] theorem sendShow_mode (b : BayNo) (p : Prompt) (l : List Nat) :
    (s.sendShow b p l).mode = s.mode := rfl
@[simp] theorem sendShow_relay (b : BayNo) (p : Prompt) (l : List Nat) :
    (s.sendShow b p l).relay = s.relay := rfl
@[simp] theorem sendShow_pins (b : BayNo) (p : Prompt) (l : List Nat) :
    (s.sendShow b p l).pins = s.pins := rfl
@[simp] theorem sendShow_pulses (b : BayNo) (p : Prompt) (l : List Nat) :
    (s.sendShow b p l).pulses = s.pulses := rfl
@[simp] theorem sendShow_temps (b : BayNo) (p : Prompt) (l : List Nat) :
    (s.sendShow b p l).temps = s.temps := rfl
@[simp] theorem sendShow_meters (b : BayNo) (p : Prompt) (l : List Nat) :
    (s.sendShow b p l).meters = s.meters := rfl
@[simp] theorem sendShow_arms (b : BayNo) (p : Prompt) (l : List Nat) :
    (s.sendShow b p l).arms = s.arms := rfl
@[simp] theorem sendShow_pumps (b : BayNo) (p : Prompt) (l : List Nat) :
    (s.sendShow b p l).pumps = s.pumps := rfl
@[simp] theorem sendShow_injectors (b : BayNo) (p : Prompt) (l : List Nat) :
    (s.sendShow b p l).injectors = s.injectors := rfl
@[simp] theorem sendShow_permits (b : BayNo) (p : Prompt) (l : List Nat) :
    (s.sendShow b p l).permits = s.permits := rfl
@[simp] theorem sendShow_orders (b : BayNo) (p : Prompt) (l : List Nat) :
    (s.sendShow b p l).orders = s.orders := rfl
@[simp] theorem sendShow_bays (b : BayNo) (p : Prompt) (l : List Nat) :
    (s.sendShow b p l).bays = vmod s.bays b fun x => { x with lastPrompt := some ⟨p, l⟩, sent := x.sent ++ [⟨p, l⟩] } := rfl
@[simp] theorem sendShow_sup (b : BayNo) (p : Prompt) (l : List Nat) :
    (s.sendShow b p l).sup = s.sup := rfl
@[simp] theorem sendShow_trip (b : BayNo) (p : Prompt) (l : List Nat) :
    (s.sendShow b p l).trip = s.trip := rfl
@[simp] theorem sendShow_notes (b : BayNo) (p : Prompt) (l : List Nat) :
    (s.sendShow b p l).notes = s.notes := rfl
@[simp] theorem sendShow_setup (b : BayNo) (p : Prompt) (l : List Nat) :
    (s.sendShow b p l).setup = s.setup := rfl
@[simp] theorem sendShow_line (b : BayNo) (p : Prompt) (l : List Nat) :
    (s.sendShow b p l).line = s.line := rfl
@[simp] theorem sendShow_nv (b : BayNo) (p : Prompt) (l : List Nat) :
    (s.sendShow b p l).nv = s.nv := rfl
@[simp] theorem sendShow_undo (b : BayNo) (p : Prompt) (l : List Nat) :
    (s.sendShow b p l).undo = s.undo := rfl
@[simp] theorem sendShow_inbox (b : BayNo) (p : Prompt) (l : List Nat) :
    (s.sendShow b p l).inbox = s.inbox := rfl

/-! ### write -/

@[simp] theorem write_pending :
    (s.write).pending = s.pending := rfl
@[simp] theorem write_phase :
    (s.write).phase = s.phase := rfl
@[simp] theorem write_mode :
    (s.write).mode = s.mode := rfl
@[simp] theorem write_relay :
    (s.write).relay = s.relay := rfl
@[simp] theorem write_pins :
    (s.write).pins = s.pins := rfl
@[simp] theorem write_pulses :
    (s.write).pulses = s.pulses := rfl
@[simp] theorem write_temps :
    (s.write).temps = s.temps := rfl
@[simp] theorem write_meters :
    (s.write).meters = s.meters := rfl
@[simp] theorem write_arms :
    (s.write).arms = s.arms := rfl
@[simp] theorem write_pumps :
    (s.write).pumps = s.pumps := rfl
@[simp] theorem write_injectors :
    (s.write).injectors = s.injectors := rfl
@[simp] theorem write_permits :
    (s.write).permits = s.permits := rfl
@[simp] theorem write_orders :
    (s.write).orders = s.orders := rfl
@[simp] theorem write_bays :
    (s.write).bays = s.bays := rfl
@[simp] theorem write_sup :
    (s.write).sup = s.sup := rfl
@[simp] theorem write_trip :
    (s.write).trip = s.trip := rfl
@[simp] theorem write_notes :
    (s.write).notes = s.notes := rfl
@[simp] theorem write_setup :
    (s.write).setup = s.setup := rfl
@[simp] theorem write_line :
    (s.write).line = s.line := rfl
@[simp] theorem write_nv :
    (s.write).nv = s.image := rfl
@[simp] theorem write_undo :
    (s.write).undo = s.nv :: s.undo := rfl
@[simp] theorem write_inbox :
    (s.write).inbox = s.inbox := rfl

/-! ### fresh -/

@[simp] theorem fresh_pending :
    (s.fresh).pending = s.pending := rfl
@[simp] theorem fresh_phase :
    (s.fresh).phase = s.phase := rfl
@[simp] theorem fresh_mode :
    (s.fresh).mode = s.mode := rfl
@[simp] theorem fresh_relay :
    (s.fresh).relay = s.relay := rfl
@[simp] theorem fresh_pins :
    (s.fresh).pins = s.pins := rfl
@[simp] theorem fresh_pulses :
    (s.fresh).pulses = s.pulses := rfl
@[simp] theorem fresh_temps :
    (s.fresh).temps = s.temps := rfl
@[simp] theorem fresh_meters :
    (s.fresh).meters = s.meters := rfl
@[simp] theorem fresh_arms :
    (s.fresh).arms = s.arms := rfl
@[simp] theorem fresh_pumps :
    (s.fresh).pumps = s.pumps := rfl
@[simp] theorem fresh_injectors :
    (s.fresh).injectors = s.injectors := rfl
@[simp] theorem fresh_permits :
    (s.fresh).permits = s.permits := rfl
@[simp] theorem fresh_orders :
    (s.fresh).orders = s.orders := rfl
@[simp] theorem fresh_bays :
    (s.fresh).bays = vmap (fun (b : Bay) => { b with sent := [] }) s.bays := rfl
@[simp] theorem fresh_sup :
    (s.fresh).sup = s.sup := rfl
@[simp] theorem fresh_trip :
    (s.fresh).trip = s.trip := rfl
@[simp] theorem fresh_notes :
    (s.fresh).notes = s.notes := rfl
@[simp] theorem fresh_setup :
    (s.fresh).setup = s.setup := rfl
@[simp] theorem fresh_line :
    (s.fresh).line = s.line := rfl
@[simp] theorem fresh_nv :
    (s.fresh).nv = s.nv := rfl
@[simp] theorem fresh_undo :
    (s.fresh).undo = [] := rfl
@[simp] theorem fresh_inbox :
    (s.fresh).inbox = s.inbox := rfl

end Sys2Proof.Machine
end

