-- ==== Sys2Proof/Laws/Inputs.lean ====
section
/-! SUPPORT. What the notices in flight never change (`State.inputs`): one lemma for each internal operation, up to
the taking of a notice, the draining of what is in flight and the end of a command. -/

namespace Sys2Proof.Machine

/-! ### The updates -/

section Updates

variable (s : State)

@[simp] theorem modArm_inputs (a : ArmNo) (f : Arm → Arm) : (s.modArm a f).inputs = s.inputs := rfl
@[simp] theorem modPump_inputs (p : PumpNo) (f : Pump → Pump) : (s.modPump p f).inputs = s.inputs := rfl
@[simp] theorem modInj_inputs (i : InjNo) (f : Injector → Injector) : (s.modInj i f).inputs = s.inputs := rfl
@[simp] theorem modBay_inputs (b : BayNo) (f : Bay → Bay) : (s.modBay b f).inputs = s.inputs := rfl
@[simp] theorem modInst_inputs (i : InstId) (f : Instance → Instance) : (s.modInst i f).inputs = s.inputs := rfl
@[simp] theorem modSession_inputs (b : BayNo) (f : Session → Session) : (s.modSession b f).inputs = s.inputs := rfl
@[simp] theorem modComp_inputs (b : BayNo) (c : CompNo) (f : CompRec → CompRec) :
    (s.modComp b c f).inputs = s.inputs := rfl
@[simp] theorem modLineOf_inputs (q : ShotRequest) (f : AdditiveLine → AdditiveLine) :
    (s.modLineOf q f).inputs = s.inputs := rfl
@[simp] theorem push_inputs (n : Notice) : (s.push n).inputs = s.inputs := rfl
@[simp] theorem pushAll_inputs (l : List Notice) : (s.pushAll l).inputs = s.inputs := rfl
@[simp] theorem pushFirst_inputs (l : List Notice) : (s.pushFirst l).inputs = s.inputs := rfl
@[simp] theorem sendShow_inputs (b : BayNo) (p : Prompt) (l : List Nat) :
    (s.sendShow b p l).inputs = s.inputs := rfl
@[simp] theorem write_inputs : s.write.inputs = s.inputs := rfl
@[simp] theorem fresh_inputs : s.fresh.inputs = s.inputs := rfl

@[simp] theorem modArmComp_inputs (a : ArmNo) (f : CompRec → CompRec) : (s.modArmComp a f).inputs = s.inputs := by
  unfold State.modArmComp; split <;> simp

/-- A meter change that leaves what is counted. -/
theorem modMeter_inputs (a : ArmNo) (f : MeterEngine → MeterEngine) (h : ∀ m, (f m).counted = m.counted) :
    (s.modMeter a f).inputs = s.inputs := by
  have hv : vmap MeterEngine.counted (vmod s.meters a f) = vmap MeterEngine.counted s.meters := by
    apply vec_ext
    intro i
    rw [vmap_get, vmap_get, vmod_get]
    split
    · exact h _
    · rfl
  simp only [State.inputs, State.modMeter, hv]

@[simp] theorem modUnattended_inputs (a : ArmNo) (f : MeterEngine → Nat) :
    (s.modMeter a fun m => { m with unattended := f m }).inputs = s.inputs :=
  modMeter_inputs s a _ fun _ => rfl

@[simp] theorem modLeak_inputs (a : ArmNo) (f : MeterEngine → Nat) :
    (s.modMeter a fun m => { m with leak := f m }).inputs = s.inputs :=
  modMeter_inputs s a _ fun _ => rfl

/-- What each change of a list leaves, the whole list leaves. -/
theorem each_keeps {α β : Type} (g : State → β) (f : State → α → State) (h : ∀ s x, g (f s x) = g s)
    (l : List α) : ∀ s : State, g (s.each l f) = g s := by
  induction l with
  | nil => intro s; rfl
  | cons x l ih => intro s; exact (ih (f s x)).trans (h s x)

@[simp] theorem ite_inputs (c : Prop) [Decidable c] (x y : State) :
    (if c then x else y).inputs = if c then x.inputs else y.inputs := apply_ite State.inputs c x y

@[simp] theorem each_inputs {α : Type} (f : State → α → State) (l : List α) (h : ∀ s x, (f s x).inputs = s.inputs) :
    (s.each l f).inputs = s.inputs := each_keeps State.inputs f h l s

end Updates

/-! ### Valves -/

@[simp] theorem setValveCond_inputs (a : ArmNo) (p : Bool) (s : State) :
    (setValveCond a p s).inputs = s.inputs := by
  simp [setValveCond]

@[simp] theorem setNoFlowCond_inputs (a : ArmNo) (p : Bool) (s : State) :
    (setNoFlowCond a p s).inputs = s.inputs := by
  simp [setNoFlowCond]

@[simp] theorem restartTravel_inputs (a : ArmNo) (s : State) :
    (restartTravel a s).inputs = s.inputs := by
  simp [restartTravel]

@[simp] theorem refreshCommand_inputs (a : ArmNo) (s : State) :
    (refreshCommand a s).inputs = s.inputs := by
  simp [refreshCommand]

@[simp] theorem compareSwitches_inputs (a : ArmNo) (s : State) :
    (compareSwitches a s).inputs = s.inputs := by
  simp [compareSwitches]

@[simp] theorem startNoFlow_inputs (a : ArmNo) (s : State) :
    (startNoFlow a s).inputs = s.inputs := rfl

@[simp] theorem stopNoFlow_inputs (a : ArmNo) (s : State) :
    (stopNoFlow a s).inputs = s.inputs := by
  simp [stopNoFlow]

@[simp] theorem endPumpWait_inputs (a : ArmNo) (s : State) :
    (endPumpWait a s).inputs = s.inputs := by
  simp [endPumpWait]

/-! ### Pumps -/

@[simp] theorem addDemand_inputs (a : ArmNo) (s : State) :
    (addDemand a s).inputs = s.inputs := by
  unfold addDemand
  split <;> simp

@[simp] theorem removeDemand_inputs (a : ArmNo) (s : State) :
    (removeDemand a s).inputs = s.inputs := by
  unfold removeDemand
  split <;> simp

@[simp] theorem releaseIfReady_inputs (a : ArmNo) (s : State) :
    (releaseIfReady a s).inputs = s.inputs := by
  unfold releaseIfReady
  split <;> simp

@[simp] theorem forcePumpsOff_inputs (s : State) :
    (forcePumpsOff s).inputs = s.inputs := rfl

@[simp] theorem pumpsReturn_inputs (s : State) :
    (pumpsReturn s).inputs = s.inputs := by
  unfold pumpsReturn
  simp
  rfl

@[simp] theorem setMode_inputs (m : Mode) (s : State) :
    (setMode m s).inputs = s.inputs := by
  unfold setMode
  simp
  rfl

/-! ### Injectors -/

@[simp] theorem markAdditiveFault_inputs (i : InjNo) (s : State) :
    (markAdditiveFault i s).inputs = s.inputs := by
  unfold markAdditiveFault
  simp
  rfl

@[simp] theorem raiseInj_inputs (i : InjNo) (e : InstId) (s : State) :
    (raiseInj i e s).inputs = s.inputs := by
  simp [raiseInj]

@[simp] theorem raiseOnShot_inputs (i : InjNo) (e : InstId) (q : ShotRequest) (s : State) :
    (raiseOnShot i e q s).inputs = s.inputs := by
  simp [raiseOnShot]

@[simp] theorem shotJoined_inputs (q : ShotRequest) (s : State) :
    (shotJoined q s).inputs = s.inputs := rfl

@[simp] theorem shotLeft_inputs (q : ShotRequest) (s : State) :
    (shotLeft q s).inputs = s.inputs := by
  simp [shotLeft]

@[simp] theorem takeOldest_inputs (i : InjNo) (s : State) :
    (takeOldest i s).inputs = s.inputs := by
  unfold takeOldest
  simp only []
  split <;> simp

@[simp] theorem refuseShot_inputs (i : InjNo) (q : ShotRequest) (s : State) :
    (refuseShot i q s).inputs = s.inputs := rfl

@[simp] theorem postShot_inputs (i : InjNo) (q : ShotRequest) (s : State) :
    (postShot i q s).inputs = s.inputs := by
  simp [postShot]

@[simp] theorem endShot_inputs (i : InjNo) (e : ShotEnding) (s : State) :
    (endShot i e s).inputs = s.inputs := by
  unfold endShot
  split <;> simp

@[simp] theorem judgeShot_inputs (i : InjNo) (x : Shot) (m d : Nat) (s : State) :
    (judgeShot i x m d s).inputs = s.inputs := by
  simp [judgeShot]

@[simp] theorem finishShot_inputs (i : InjNo) (s : State) :
    (finishShot i s).inputs = s.inputs := by
  unfold finishShot
  split <;> simp

@[simp] theorem additivePulseAt_inputs (i : InjNo) (s : State) :
    (additivePulseAt i s).inputs = s.inputs := by
  unfold additivePulseAt
  simp only []
  split <;> simp

@[simp] theorem withdrawShots_inputs (a : ArmNo) (s : State) :
    (withdrawShots a s).inputs = s.inputs := by
  unfold withdrawShots
  split <;> simp

@[simp] theorem emptyQueue_inputs (i : InjNo) (s : State) :
    (emptyQueue i s).inputs = s.inputs := by
  simp [emptyQueue]

@[simp] theorem tripInjector_inputs (i : InjNo) (s : State) :
    (tripInjector i s).inputs = s.inputs := by
  simp [tripInjector]

@[simp] theorem stageTwoInjector_inputs (i : InjNo) (s : State) :
    (stageTwoInjector i s).inputs = s.inputs := by
  simp [stageTwoInjector]

/-! ### Arms -/

@[simp] theorem enterState_inputs (a : ArmNo) (st : ArmState) (s : State) :
    (enterState a st s).inputs = s.inputs := by
  simp [enterState]

@[simp] theorem startClosingLimit_inputs (a : ArmNo) (s : State) :
    (startClosingLimit a s).inputs = s.inputs := rfl

@[simp] theorem enterClosing_inputs (a : ArmNo) (s : State) :
    (enterClosing a s).inputs = s.inputs := by
  simp [enterClosing]

@[simp] theorem enterHalting_inputs (a : ArmNo) (c : StopCause) (s : State) :
    (enterHalting a c s).inputs = s.inputs := by
  simp [enterHalting]

@[simp] theorem stopArm_inputs (a : ArmNo) (c : StopCause) (s : State) :
    (stopArm a c s).inputs = s.inputs := by
  simp [stopArm]

@[simp] theorem enterHeld_inputs (a : ArmNo) (s : State) :
    (enterHeld a s).inputs = s.inputs := by
  simp [enterHeld]

@[simp] theorem markNotConfirmed_inputs (a : ArmNo) (s : State) :
    (markNotConfirmed a s).inputs = s.inputs := by
  simp [markNotConfirmed]

@[simp] theorem completeArm_inputs (a : ArmNo) (r : EndReason) (s : State) :
    (completeArm a r s).inputs = s.inputs := by
  unfold completeArm
  split <;> simp

@[simp] theorem testArm_inputs (a : ArmNo) (s : State) :
    (testArm a s).inputs = s.inputs := by
  unfold testArm
  simp only []
  split <;> simp

@[simp] theorem closingLimitAt_inputs (a : ArmNo) (s : State) :
    (closingLimitAt a s).inputs = s.inputs := by
  unfold closingLimitAt
  dsimp only
  repeat' split
  all_goals simp

@[simp] theorem forceArm_inputs (a : ArmNo) (s : State) :
    (forceArm a s).inputs = s.inputs := by
  unfold forceArm
  split <;> simp

@[simp] theorem finishArm_inputs (a : ArmNo) (s : State) :
    (finishArm a s).inputs = s.inputs := by
  unfold finishArm
  split <;> simp

@[simp] theorem releaseArm_inputs (a : ArmNo) (s : State) :
    (releaseArm a s).inputs = s.inputs := by
  unfold releaseArm
  split <;> simp

@[simp] theorem watchFlow_inputs (a : ArmNo) (q : Nat) (s : State) :
    (watchFlow a q s).inputs = s.inputs := by
  unfold watchFlow
  repeat' split
  all_goals simp

@[simp] theorem checkOverrun_inputs (a : ArmNo) (s : State) :
    (checkOverrun a s).inputs = s.inputs := by
  unfold checkOverrun
  split <;> simp

@[simp] theorem flowingReport_inputs (a : ArmNo) (q : Nat) (l : Bool) (s : State) :
    (flowingReport a q l s).inputs = s.inputs := by
  unfold flowingReport
  repeat' split
  all_goals simp

@[simp] theorem armReport_inputs (a : ArmNo) (q : Nat) (l : Bool) (s : State) :
    (armReport a q l s).inputs = s.inputs := by
  unfold armReport
  split <;> simp

/-! ### Supervision -/

@[simp] theorem markWarning_inputs (i : InstId) (s : State) :
    (markWarning i s).inputs = s.inputs := by
  unfold markWarning
  simp
  rfl

@[simp] theorem startTrip_inputs (c : TripCause) (s : State) :
    (startTrip c s).inputs = s.inputs := by
  unfold startTrip
  simp
  rfl

@[simp] theorem tripOn_inputs (i : InstId) (s : State) :
    (tripOn i s).inputs = s.inputs := by
  simp [tripOn]

@[simp] theorem countUp_inputs (i : InstId) (s : State) :
    (countUp i s).inputs = s.inputs := rfl

@[simp] theorem sendStops_inputs (i : InstId) (s : State) :
    (sendStops i s).inputs = s.inputs := by
  simp [sendStops]

@[simp] theorem enterActive_inputs (i : InstId) (r : Bool) (s : State) :
    (enterActive i r s).inputs = s.inputs := by
  simp [enterActive]

@[simp] theorem condition_inputs (i : InstId) (p : Bool) (s : State) :
    (condition i p s).inputs = s.inputs := by
  unfold condition
  dsimp only
  repeat' split
  all_goals simp

@[simp] theorem filterExpiry_inputs (i : InstId) (s : State) :
    (filterExpiry i s).inputs = s.inputs := by
  unfold filterExpiry
  repeat' split
  all_goals simp

@[simp] theorem markMeterFault_inputs (i : InstId) (s : State) :
    (markMeterFault i s).inputs = s.inputs := by
  unfold markMeterFault
  split <;> simp

@[simp] theorem eventAt_inputs (i : InstId) (s : State) :
    (eventAt i s).inputs = s.inputs := by
  simp [eventAt]

@[simp] theorem redeliver_inputs (a : ArmNo) (s : State) :
    (redeliver a s).inputs = s.inputs := by
  unfold redeliver
  repeat' split
  all_goals simp

@[simp] theorem secondStage_inputs (s : State) :
    (secondStage s).inputs = s.inputs := by
  unfold secondStage
  repeat' split
  all_goals first | rfl | (simp; done) | (simp; rfl)

@[simp] theorem bayReport_inputs (b : BayNo) (s : State) :
    (bayReport b s).inputs = s.inputs := by
  unfold bayReport
  repeat' split
  all_goals first | rfl | (simp; done) | (simp; rfl)

@[simp] theorem examineTrips_inputs (s : State) :
    (examineTrips s).inputs = s.inputs := by
  unfold examineTrips
  split <;> simp

/-! ### Permits -/

@[simp] theorem deletePermit_inputs (n : Nat) (s : State) :
    (deletePermit n s).inputs = s.inputs := rfl

@[simp] theorem closeRequest_inputs (n : Nat) (b : BayNo) (s : State) :
    (closeRequest n b s).1.inputs = s.inputs := by
  unfold closeRequest
  repeat' split
  all_goals first | rfl | (simp; done) | (simp; rfl)

@[simp] theorem settle_inputs (n p d : Nat) (s : State) :
    (settle n p d s).inputs = s.inputs := rfl

@[simp] theorem removeOrder_inputs (n : Nat) (s : State) :
    (removeOrder n s).inputs = s.inputs := rfl

/-! ### Bays -/

@[simp] theorem startIdleTimers_inputs (b : BayNo) (s : State) :
    (startIdleTimers b s).inputs = s.inputs := rfl

@[simp] theorem activity_inputs (b : BayNo) (k : Activity) (s : State) :
    (activity b k s).inputs = s.inputs := by
  simp [activity]

@[simp] theorem reportPermissives_inputs (b : BayNo) (s : State) :
    (reportPermissives b s).inputs = s.inputs := rfl

@[simp] theorem followDeadman_inputs (b : BayNo) (s : State) :
    (followDeadman b s).inputs = s.inputs := by
  unfold followDeadman
  repeat' split
  all_goals simp

@[simp] theorem restartDeadman_inputs (b : BayNo) (s : State) :
    (restartDeadman b s).inputs = s.inputs := rfl

@[simp] theorem deadmanViolation_inputs (b : BayNo) (p : Prompt) (s : State) :
    (deadmanViolation b p s).inputs = s.inputs := by
  simp [deadmanViolation]

@[simp] theorem enterEnding_inputs (b : BayNo) (c : EndCause) (s : State) :
    (enterEnding b c s).inputs = s.inputs := by
  simp [enterEnding]

@[simp] theorem endSession_inputs (b : BayNo) (c : EndCause) (s : State) :
    (endSession b c s).inputs = s.inputs := by
  simp [endSession]

@[simp] theorem fileSession_inputs (b : BayNo) (x : Session) (s : State) :
    (fileSession b x s).inputs = s.inputs := by
  unfold fileSession
  simp only [ite_inputs, push_inputs, sendShow_inputs, modBay_inputs, closeRequest_inputs, removeOrder_inputs]
  repeat' split
  all_goals rfl

@[simp] theorem filingTest_inputs (b : BayNo) (s : State) :
    (filingTest b s).inputs = s.inputs := by
  unfold filingTest
  split <;> simp

@[simp] theorem shotWritten_inputs (b : BayNo) (i : InjNo) (s : State) :
    (shotWritten b i s).inputs = s.inputs := by
  simp [shotWritten]

@[simp] theorem completed_inputs (b : BayNo) (c : CompNo) (s : State) :
    (completed b c s).inputs = s.inputs := by
  unfold completed
  repeat' split
  all_goals simp

@[simp] theorem armChanged_inputs (a : ArmNo) (s : State) :
    (armChanged a s).inputs = s.inputs := by
  unfold armChanged
  dsimp only
  repeat' split
  all_goals simp

@[simp] theorem stageTwoNotice_inputs (b : BayNo) (s : State) :
    (stageTwoNotice b s).inputs = s.inputs := by
  unfold stageTwoNotice
  split <;> simp

/-! ### Requests -/

@[simp] theorem take_inputs (n : Notice) (s : State) :
    (take n s).inputs = s.inputs := by
  cases n <;> simp [take]

/-! ### The end of a command -/

@[simp] theorem drain_inputs (fuel : Nat) (s : State) : (drain fuel s).inputs = s.inputs := by
  induction fuel generalizing s with
  | zero => rfl
  | succ fuel ih =>
    unfold drain
    split
    · rfl
    · rw [ih, take_inputs]; rfl

@[simp] theorem settleCommand_inputs (s : State) : (settleCommand s).inputs = s.inputs := by
  simp [settleCommand]

end Sys2Proof.Machine
end

