-- ==== Sys2Proof/Laws/BooksFrame.lean ====
section
/-! SUPPORT. The operations that leave the permit table, the order book and the note store alone
(`State.books`): one lemma for each. -/

namespace Sys2Proof.Machine

/-! ### The updates -/

section Updates

variable (s : State)

@[simp] theorem modArm_books (a : ArmNo) (f : Arm → Arm) : (s.modArm a f).books = s.books := rfl
@[simp] theorem modPump_books (p : PumpNo) (f : Pump → Pump) : (s.modPump p f).books = s.books := rfl
@[simp] theorem modInj_books (i : InjNo) (f : Injector → Injector) : (s.modInj i f).books = s.books := rfl
@[simp] theorem modBay_books (b : BayNo) (f : Bay → Bay) : (s.modBay b f).books = s.books := rfl
@[simp] theorem modInst_books (i : InstId) (f : Instance → Instance) : (s.modInst i f).books = s.books := rfl
@[simp] theorem modSession_books (b : BayNo) (f : Session → Session) : (s.modSession b f).books = s.books := rfl
@[simp] theorem modComp_books (b : BayNo) (c : CompNo) (f : CompRec → CompRec) :
    (s.modComp b c f).books = s.books := rfl
@[simp] theorem modLineOf_books (q : ShotRequest) (f : AdditiveLine → AdditiveLine) :
    (s.modLineOf q f).books = s.books := rfl
@[simp] theorem push_books (n : Notice) : (s.push n).books = s.books := rfl
@[simp] theorem pushAll_books (l : List Notice) : (s.pushAll l).books = s.books := rfl
@[simp] theorem pushFirst_books (l : List Notice) : (s.pushFirst l).books = s.books := rfl
@[simp] theorem sendShow_books (b : BayNo) (p : Prompt) (l : List Nat) :
    (s.sendShow b p l).books = s.books := rfl
@[simp] theorem write_books : s.write.books = s.books := rfl
@[simp] theorem fresh_books : s.fresh.books = s.books := rfl

@[simp] theorem modArmComp_books (a : ArmNo) (f : CompRec → CompRec) : (s.modArmComp a f).books = s.books := by
  unfold State.modArmComp; split <;> simp

@[simp] theorem modMeter_books (a : ArmNo) (f : MeterEngine → MeterEngine) :
    (s.modMeter a f).books = s.books := rfl
@[simp] theorem modPulse_books (a : ArmNo) (f : PulseInput → PulseInput) :
    (s.modPulse a f).books = s.books := rfl
@[simp] theorem modTemp_books (a : ArmNo) (f : TempReceiver → TempReceiver) :
    (s.modTemp a f).books = s.books := rfl

@[simp] theorem ite_books (c : Prop) [Decidable c] (x y : State) :
    (if c then x else y).books = if c then x.books else y.books := apply_ite State.books c x y

@[simp] theorem each_books {α : Type} (f : State → α → State) (l : List α) (h : ∀ s x, (f s x).books = s.books) :
    (s.each l f).books = s.books := each_keeps State.books f h l s

end Updates

/-! ### Valves -/

@[simp] theorem setValveCond_books (a : ArmNo) (p : Bool) (s : State) :
    (setValveCond a p s).books = s.books := by
  simp [setValveCond]

@[simp] theorem setNoFlowCond_books (a : ArmNo) (p : Bool) (s : State) :
    (setNoFlowCond a p s).books = s.books := by
  simp [setNoFlowCond]

@[simp] theorem restartTravel_books (a : ArmNo) (s : State) :
    (restartTravel a s).books = s.books := by
  simp [restartTravel]

@[simp] theorem refreshCommand_books (a : ArmNo) (s : State) :
    (refreshCommand a s).books = s.books := by
  simp [refreshCommand]

@[simp] theorem compareSwitches_books (a : ArmNo) (s : State) :
    (compareSwitches a s).books = s.books := by
  simp [compareSwitches]

@[simp] theorem startNoFlow_books (a : ArmNo) (s : State) :
    (startNoFlow a s).books = s.books := rfl

@[simp] theorem stopNoFlow_books (a : ArmNo) (s : State) :
    (stopNoFlow a s).books = s.books := by
  simp [stopNoFlow]

@[simp] theorem endPumpWait_books (a : ArmNo) (s : State) :
    (endPumpWait a s).books = s.books := by
  simp [endPumpWait]

/-! ### Pumps -/

@[simp] theorem addDemand_books (a : ArmNo) (s : State) :
    (addDemand a s).books = s.books := by
  unfold addDemand
  split <;> simp

@[simp] theorem removeDemand_books (a : ArmNo) (s : State) :
    (removeDemand a s).books = s.books := by
  unfold removeDemand
  split <;> simp

@[simp] theorem releaseIfReady_books (a : ArmNo) (s : State) :
    (releaseIfReady a s).books = s.books := by
  unfold releaseIfReady
  split <;> simp

@[simp] theorem forcePumpsOff_books (s : State) :
    (forcePumpsOff s).books = s.books := rfl

@[simp] theorem pumpsReturn_books (s : State) :
    (pumpsReturn s).books = s.books := by
  unfold pumpsReturn
  simp
  rfl

@[simp] theorem setMode_books (m : Mode) (s : State) :
    (setMode m s).books = s.books := by
  unfold setMode
  simp
  rfl

/-! ### Injectors -/

@[simp] theorem markAdditiveFault_books (i : InjNo) (s : State) :
    (markAdditiveFault i s).books = s.books := rfl

@[simp] theorem raiseInj_books (i : InjNo) (e : InstId) (s : State) :
    (raiseInj i e s).books = s.books := by
  simp [raiseInj]

@[simp] theorem raiseOnShot_books (i : InjNo) (e : InstId) (q : ShotRequest) (s : State) :
    (raiseOnShot i e q s).books = s.books := by
  simp [raiseOnShot]

@[simp] theorem shotJoined_books (q : ShotRequest) (s : State) :
    (shotJoined q s).books = s.books := rfl

@[simp] theorem shotLeft_books (q : ShotRequest) (s : State) :
    (shotLeft q s).books = s.books := by
  simp [shotLeft]

@[simp] theorem takeOldest_books (i : InjNo) (s : State) :
    (takeOldest i s).books = s.books := by
  unfold takeOldest
  simp only []
  split <;> simp

@[simp] theorem refuseShot_books (i : InjNo) (q : ShotRequest) (s : State) :
    (refuseShot i q s).books = s.books := rfl

@[simp] theorem postShot_books (i : InjNo) (q : ShotRequest) (s : State) :
    (postShot i q s).books = s.books := by
  simp [postShot]

@[simp] theorem endShot_books (i : InjNo) (e : ShotEnding) (s : State) :
    (endShot i e s).books = s.books := by
  unfold endShot
  split <;> simp

@[simp] theorem judgeShot_books (i : InjNo) (x : Shot) (m d : Nat) (s : State) :
    (judgeShot i x m d s).books = s.books := by
  simp [judgeShot]

@[simp] theorem finishShot_books (i : InjNo) (s : State) :
    (finishShot i s).books = s.books := by
  unfold finishShot
  split <;> simp

@[simp] theorem additivePulseAt_books (i : InjNo) (s : State) :
    (additivePulseAt i s).books = s.books := by
  unfold additivePulseAt
  simp only []
  split <;> simp

@[simp] theorem withdrawShots_books (a : ArmNo) (s : State) :
    (withdrawShots a s).books = s.books := by
  unfold withdrawShots
  split <;> simp

@[simp] theorem emptyQueue_books (i : InjNo) (s : State) :
    (emptyQueue i s).books = s.books := by
  simp [emptyQueue]

@[simp] theorem tripInjector_books (i : InjNo) (s : State) :
    (tripInjector i s).books = s.books := by
  simp [tripInjector]

@[simp] theorem stageTwoInjector_books (i : InjNo) (s : State) :
    (stageTwoInjector i s).books = s.books := by
  simp [stageTwoInjector]

/-! ### Arms -/

@[simp] theorem enterState_books (a : ArmNo) (st : ArmState) (s : State) :
    (enterState a st s).books = s.books := by
  simp [enterState]

@[simp] theorem startClosingLimit_books (a : ArmNo) (s : State) :
    (startClosingLimit a s).books = s.books := rfl

@[simp] theorem enterClosing_books (a : ArmNo) (s : State) :
    (enterClosing a s).books = s.books := by
  simp [enterClosing]

@[simp] theorem enterHalting_books (a : ArmNo) (c : StopCause) (s : State) :
    (enterHalting a c s).books = s.books := by
  simp [enterHalting]

@[simp] theorem stopArm_books (a : ArmNo) (c : StopCause) (s : State) :
    (stopArm a c s).books = s.books := by
  simp [stopArm]

@[simp] theorem enterHeld_books (a : ArmNo) (s : State) :
    (enterHeld a s).books = s.books := by
  simp [enterHeld]

@[simp] theorem markNotConfirmed_books (a : ArmNo) (s : State) :
    (markNotConfirmed a s).books = s.books := by
  simp [markNotConfirmed]

@[simp] theorem completeArm_books (a : ArmNo) (r : EndReason) (s : State) :
    (completeArm a r s).books = s.books := by
  unfold completeArm
  split <;> simp

@[simp] theorem testArm_books (a : ArmNo) (s : State) :
    (testArm a s).books = s.books := by
  unfold testArm
  simp only []
  split <;> simp

@[simp] theorem closingLimitAt_books (a : ArmNo) (s : State) :
    (closingLimitAt a s).books = s.books := by
  unfold closingLimitAt
  dsimp only
  repeat' split
  all_goals simp

@[simp] theorem forceArm_books (a : ArmNo) (s : State) :
    (forceArm a s).books = s.books := by
  unfold forceArm
  split <;> simp

@[simp] theorem finishArm_books (a : ArmNo) (s : State) :
    (finishArm a s).books = s.books := by
  unfold finishArm
  split <;> simp

@[simp] theorem releaseArm_books (a : ArmNo) (s : State) :
    (releaseArm a s).books = s.books := by
  unfold releaseArm
  split <;> simp

@[simp] theorem watchFlow_books (a : ArmNo) (q : Nat) (s : State) :
    (watchFlow a q s).books = s.books := by
  unfold watchFlow
  repeat' split
  all_goals simp

@[simp] theorem checkOverrun_books (a : ArmNo) (s : State) :
    (checkOverrun a s).books = s.books := by
  unfold checkOverrun
  split <;> simp

@[simp] theorem flowingReport_books (a : ArmNo) (q : Nat) (l : Bool) (s : State) :
    (flowingReport a q l s).books = s.books := by
  unfold flowingReport
  repeat' split
  all_goals simp

@[simp] theorem armReport_books (a : ArmNo) (q : Nat) (l : Bool) (s : State) :
    (armReport a q l s).books = s.books := by
  unfold armReport
  split <;> simp

/-! ### Supervision -/

@[simp] theorem markWarning_books (i : InstId) (s : State) :
    (markWarning i s).books = s.books := rfl

@[simp] theorem startTrip_books (c : TripCause) (s : State) :
    (startTrip c s).books = s.books := by
  unfold startTrip
  simp
  rfl

@[simp] theorem tripOn_books (i : InstId) (s : State) :
    (tripOn i s).books = s.books := by
  simp [tripOn]

@[simp] theorem countUp_books (i : InstId) (s : State) :
    (countUp i s).books = s.books := rfl

@[simp] theorem sendStops_books (i : InstId) (s : State) :
    (sendStops i s).books = s.books := by
  simp [sendStops]

@[simp] theorem enterActive_books (i : InstId) (r : Bool) (s : State) :
    (enterActive i r s).books = s.books := by
  simp [enterActive]

@[simp] theorem condition_books (i : InstId) (p : Bool) (s : State) :
    (condition i p s).books = s.books := by
  unfold condition
  dsimp only
  repeat' split
  all_goals simp

@[simp] theorem filterExpiry_books (i : InstId) (s : State) :
    (filterExpiry i s).books = s.books := by
  unfold filterExpiry
  repeat' split
  all_goals simp

@[simp] theorem markMeterFault_books (i : InstId) (s : State) :
    (markMeterFault i s).books = s.books := by
  unfold markMeterFault
  split <;> simp

@[simp] theorem eventAt_books (i : InstId) (s : State) :
    (eventAt i s).books = s.books := by
  simp [eventAt]

@[simp] theorem redeliver_books (a : ArmNo) (s : State) :
    (redeliver a s).books = s.books := by
  unfold redeliver
  repeat' split
  all_goals simp

@[simp] theorem secondStage_books (s : State) :
    (secondStage s).books = s.books := by
  unfold secondStage
  repeat' split
  all_goals first | rfl | (simp; done) | (simp; rfl)

@[simp] theorem bayReport_books (b : BayNo) (s : State) :
    (bayReport b s).books = s.books := by
  unfold bayReport
  repeat' split
  all_goals first | rfl | (simp; done) | (simp; rfl)

@[simp] theorem examineTrips_books (s : State) :
    (examineTrips s).books = s.books := by
  unfold examineTrips
  split <;> simp

/-! ### Permits -/

/-! ### Bays -/

@[simp] theorem startIdleTimers_books (b : BayNo) (s : State) :
    (startIdleTimers b s).books = s.books := rfl

@[simp] theorem activity_books (b : BayNo) (k : Activity) (s : State) :
    (activity b k s).books = s.books := by
  simp [activity]

@[simp] theorem reportPermissives_books (b : BayNo) (s : State) :
    (reportPermissives b s).books = s.books := rfl

@[simp] theorem followDeadman_books (b : BayNo) (s : State) :
    (followDeadman b s).books = s.books := by
  unfold followDeadman
  repeat' split
  all_goals simp

@[simp] theorem restartDeadman_books (b : BayNo) (s : State) :
    (restartDeadman b s).books = s.books := rfl

@[simp] theorem deadmanViolation_books (b : BayNo) (p : Prompt) (s : State) :
    (deadmanViolation b p s).books = s.books := by
  simp [deadmanViolation]

@[simp] theorem enterEnding_books (b : BayNo) (c : EndCause) (s : State) :
    (enterEnding b c s).books = s.books := by
  simp [enterEnding]

@[simp] theorem endSession_books (b : BayNo) (c : EndCause) (s : State) :
    (endSession b c s).books = s.books := by
  simp [endSession]

@[simp] theorem shotWritten_books (b : BayNo) (i : InjNo) (s : State) :
    (shotWritten b i s).books = s.books := by
  simp [shotWritten]

@[simp] theorem armChanged_books (a : ArmNo) (s : State) :
    (armChanged a s).books = s.books := by
  unfold armChanged
  dsimp only
  repeat' split
  all_goals simp

@[simp] theorem stageTwoNotice_books (b : BayNo) (s : State) :
    (stageTwoNotice b s).books = s.books := by
  unfold stageTwoNotice
  split <;> simp

/-! ### Requests -/

end Sys2Proof.Machine
end

