-- ==== Sys2Proof/Laws/RackFrame.lean ====
section
/-! SUPPORT. The operations that leave the rack mode, the SHUTDOWN relay and the trip control alone
(`State.rackState`): one lemma for each. -/

namespace Sys2Proof.Machine

/-! ### The updates -/

section Updates

variable (s : State)

@[simp] theorem modArm_rackState (a : ArmNo) (f : Arm → Arm) : (s.modArm a f).rackState = s.rackState := rfl
@[simp] theorem modPump_rackState (p : PumpNo) (f : Pump → Pump) : (s.modPump p f).rackState = s.rackState := rfl
@[simp] theorem modInj_rackState (i : InjNo) (f : Injector → Injector) : (s.modInj i f).rackState = s.rackState := rfl
@[simp] theorem modBay_rackState (b : BayNo) (f : Bay → Bay) : (s.modBay b f).rackState = s.rackState := rfl
@[simp] theorem modInst_rackState (i : InstId) (f : Instance → Instance) : (s.modInst i f).rackState = s.rackState := rfl
@[simp] theorem modSession_rackState (b : BayNo) (f : Session → Session) : (s.modSession b f).rackState = s.rackState := rfl
@[simp] theorem modComp_rackState (b : BayNo) (c : CompNo) (f : CompRec → CompRec) :
    (s.modComp b c f).rackState = s.rackState := rfl
@[simp] theorem modLineOf_rackState (q : ShotRequest) (f : AdditiveLine → AdditiveLine) :
    (s.modLineOf q f).rackState = s.rackState := rfl
@[simp] theorem push_rackState (n : Notice) : (s.push n).rackState = s.rackState := rfl
@[simp] theorem pushAll_rackState (l : List Notice) : (s.pushAll l).rackState = s.rackState := rfl
@[simp] theorem pushFirst_rackState (l : List Notice) : (s.pushFirst l).rackState = s.rackState := rfl
@[simp] theorem sendShow_rackState (b : BayNo) (p : Prompt) (l : List Nat) :
    (s.sendShow b p l).rackState = s.rackState := rfl
@[simp] theorem write_rackState : s.write.rackState = s.rackState := rfl
@[simp] theorem fresh_rackState : s.fresh.rackState = s.rackState := rfl

@[simp] theorem modArmComp_rackState (a : ArmNo) (f : CompRec → CompRec) : (s.modArmComp a f).rackState = s.rackState := by
  unfold State.modArmComp; split <;> simp

@[simp] theorem modMeter_rackState (a : ArmNo) (f : MeterEngine → MeterEngine) :
    (s.modMeter a f).rackState = s.rackState := rfl
@[simp] theorem modPulse_rackState (a : ArmNo) (f : PulseInput → PulseInput) :
    (s.modPulse a f).rackState = s.rackState := rfl
@[simp] theorem modTemp_rackState (a : ArmNo) (f : TempReceiver → TempReceiver) :
    (s.modTemp a f).rackState = s.rackState := rfl

@[simp] theorem ite_rackState (c : Prop) [Decidable c] (x y : State) :
    (if c then x else y).rackState = if c then x.rackState else y.rackState := apply_ite State.rackState c x y

@[simp] theorem each_rackState {α : Type} (f : State → α → State) (l : List α) (h : ∀ s x, (f s x).rackState = s.rackState) :
    (s.each l f).rackState = s.rackState := each_keeps State.rackState f h l s

end Updates

/-! ### Valves -/

@[simp] theorem setValveCond_rackState (a : ArmNo) (p : Bool) (s : State) :
    (setValveCond a p s).rackState = s.rackState := by
  simp [setValveCond]

@[simp] theorem setNoFlowCond_rackState (a : ArmNo) (p : Bool) (s : State) :
    (setNoFlowCond a p s).rackState = s.rackState := by
  simp [setNoFlowCond]

@[simp] theorem restartTravel_rackState (a : ArmNo) (s : State) :
    (restartTravel a s).rackState = s.rackState := by
  simp [restartTravel]

@[simp] theorem refreshCommand_rackState (a : ArmNo) (s : State) :
    (refreshCommand a s).rackState = s.rackState := by
  simp [refreshCommand]

@[simp] theorem compareSwitches_rackState (a : ArmNo) (s : State) :
    (compareSwitches a s).rackState = s.rackState := by
  simp [compareSwitches]

@[simp] theorem startNoFlow_rackState (a : ArmNo) (s : State) :
    (startNoFlow a s).rackState = s.rackState := rfl

@[simp] theorem stopNoFlow_rackState (a : ArmNo) (s : State) :
    (stopNoFlow a s).rackState = s.rackState := by
  simp [stopNoFlow]

@[simp] theorem endPumpWait_rackState (a : ArmNo) (s : State) :
    (endPumpWait a s).rackState = s.rackState := by
  simp [endPumpWait]

/-! ### Pumps -/

@[simp] theorem addDemand_rackState (a : ArmNo) (s : State) :
    (addDemand a s).rackState = s.rackState := by
  unfold addDemand
  split <;> simp

@[simp] theorem removeDemand_rackState (a : ArmNo) (s : State) :
    (removeDemand a s).rackState = s.rackState := by
  unfold removeDemand
  split <;> simp

@[simp] theorem releaseIfReady_rackState (a : ArmNo) (s : State) :
    (releaseIfReady a s).rackState = s.rackState := by
  unfold releaseIfReady
  split <;> simp

@[simp] theorem forcePumpsOff_rackState (s : State) :
    (forcePumpsOff s).rackState = s.rackState := rfl

@[simp] theorem pumpsReturn_rackState (s : State) :
    (pumpsReturn s).rackState = s.rackState := by
  unfold pumpsReturn
  simp
  rfl

/-! ### Injectors -/

@[simp] theorem markAdditiveFault_rackState (i : InjNo) (s : State) :
    (markAdditiveFault i s).rackState = s.rackState := rfl

@[simp] theorem raiseInj_rackState (i : InjNo) (e : InstId) (s : State) :
    (raiseInj i e s).rackState = s.rackState := by
  simp [raiseInj]

@[simp] theorem raiseOnShot_rackState (i : InjNo) (e : InstId) (q : ShotRequest) (s : State) :
    (raiseOnShot i e q s).rackState = s.rackState := by
  simp [raiseOnShot]

@[simp] theorem shotJoined_rackState (q : ShotRequest) (s : State) :
    (shotJoined q s).rackState = s.rackState := rfl

@[simp] theorem shotLeft_rackState (q : ShotRequest) (s : State) :
    (shotLeft q s).rackState = s.rackState := by
  simp [shotLeft]

@[simp] theorem takeOldest_rackState (i : InjNo) (s : State) :
    (takeOldest i s).rackState = s.rackState := by
  unfold takeOldest
  simp only []
  split <;> simp

@[simp] theorem refuseShot_rackState (i : InjNo) (q : ShotRequest) (s : State) :
    (refuseShot i q s).rackState = s.rackState := rfl

@[simp] theorem postShot_rackState (i : InjNo) (q : ShotRequest) (s : State) :
    (postShot i q s).rackState = s.rackState := by
  simp [postShot]

@[simp] theorem endShot_rackState (i : InjNo) (e : ShotEnding) (s : State) :
    (endShot i e s).rackState = s.rackState := by
  unfold endShot
  split <;> simp

@[simp] theorem judgeShot_rackState (i : InjNo) (x : Shot) (m d : Nat) (s : State) :
    (judgeShot i x m d s).rackState = s.rackState := by
  simp [judgeShot]

@[simp] theorem finishShot_rackState (i : InjNo) (s : State) :
    (finishShot i s).rackState = s.rackState := by
  unfold finishShot
  split <;> simp

@[simp] theorem additivePulseAt_rackState (i : InjNo) (s : State) :
    (additivePulseAt i s).rackState = s.rackState := by
  unfold additivePulseAt
  simp only []
  split <;> simp

@[simp] theorem withdrawShots_rackState (a : ArmNo) (s : State) :
    (withdrawShots a s).rackState = s.rackState := by
  unfold withdrawShots
  split <;> simp

@[simp] theorem emptyQueue_rackState (i : InjNo) (s : State) :
    (emptyQueue i s).rackState = s.rackState := by
  simp [emptyQueue]

@[simp] theorem tripInjector_rackState (i : InjNo) (s : State) :
    (tripInjector i s).rackState = s.rackState := by
  simp [tripInjector]

@[simp] theorem stageTwoInjector_rackState (i : InjNo) (s : State) :
    (stageTwoInjector i s).rackState = s.rackState := by
  simp [stageTwoInjector]

/-! ### Arms -/

@[simp] theorem enterState_rackState (a : ArmNo) (st : ArmState) (s : State) :
    (enterState a st s).rackState = s.rackState := by
  simp [enterState]

@[simp] theorem startClosingLimit_rackState (a : ArmNo) (s : State) :
    (startClosingLimit a s).rackState = s.rackState := rfl

@[simp] theorem enterClosing_rackState (a : ArmNo) (s : State) :
    (enterClosing a s).rackState = s.rackState := by
  simp [enterClosing]

@[simp] theorem enterHalting_rackState (a : ArmNo) (c : StopCause) (s : State) :
    (enterHalting a c s).rackState = s.rackState := by
  simp [enterHalting]

@[simp] theorem stopArm_rackState (a : ArmNo) (c : StopCause) (s : State) :
    (stopArm a c s).rackState = s.rackState := by
  simp [stopArm]

@[simp] theorem enterHeld_rackState (a : ArmNo) (s : State) :
    (enterHeld a s).rackState = s.rackState := by
  simp [enterHeld]

@[simp] theorem markNotConfirmed_rackState (a : ArmNo) (s : State) :
    (markNotConfirmed a s).rackState = s.rackState := by
  simp [markNotConfirmed]

@[simp] theorem completeArm_rackState (a : ArmNo) (r : EndReason) (s : State) :
    (completeArm a r s).rackState = s.rackState := by
  unfold completeArm
  split <;> simp

@[simp] theorem testArm_rackState (a : ArmNo) (s : State) :
    (testArm a s).rackState = s.rackState := by
  unfold testArm
  simp only []
  split <;> simp

@[simp] theorem closingLimitAt_rackState (a : ArmNo) (s : State) :
    (closingLimitAt a s).rackState = s.rackState := by
  unfold closingLimitAt
  dsimp only
  repeat' split
  all_goals simp

@[simp] theorem forceArm_rackState (a : ArmNo) (s : State) :
    (forceArm a s).rackState = s.rackState := by
  unfold forceArm
  split <;> simp

@[simp] theorem finishArm_rackState (a : ArmNo) (s : State) :
    (finishArm a s).rackState = s.rackState := by
  unfold finishArm
  split <;> simp

@[simp] theorem releaseArm_rackState (a : ArmNo) (s : State) :
    (releaseArm a s).rackState = s.rackState := by
  unfold releaseArm
  split <;> simp

@[simp] theorem watchFlow_rackState (a : ArmNo) (q : Nat) (s : State) :
    (watchFlow a q s).rackState = s.rackState := by
  unfold watchFlow
  repeat' split
  all_goals simp

@[simp] theorem checkOverrun_rackState (a : ArmNo) (s : State) :
    (checkOverrun a s).rackState = s.rackState := by
  unfold checkOverrun
  split <;> simp

@[simp] theorem flowingReport_rackState (a : ArmNo) (q : Nat) (l : Bool) (s : State) :
    (flowingReport a q l s).rackState = s.rackState := by
  unfold flowingReport
  repeat' split
  all_goals simp

@[simp] theorem armReport_rackState (a : ArmNo) (q : Nat) (l : Bool) (s : State) :
    (armReport a q l s).rackState = s.rackState := by
  unfold armReport
  split <;> simp

/-! ### Supervision -/

@[simp] theorem markWarning_rackState (i : InstId) (s : State) :
    (markWarning i s).rackState = s.rackState := rfl

@[simp] theorem countUp_rackState (i : InstId) (s : State) :
    (countUp i s).rackState = s.rackState := rfl

@[simp] theorem sendStops_rackState (i : InstId) (s : State) :
    (sendStops i s).rackState = s.rackState := by
  simp [sendStops]

@[simp] theorem markMeterFault_rackState (i : InstId) (s : State) :
    (markMeterFault i s).rackState = s.rackState := by
  unfold markMeterFault
  split <;> simp

@[simp] theorem redeliver_rackState (a : ArmNo) (s : State) :
    (redeliver a s).rackState = s.rackState := by
  unfold redeliver
  repeat' split
  all_goals simp

/-! ### Permits -/

@[simp] theorem deletePermit_rackState (n : Nat) (s : State) :
    (deletePermit n s).rackState = s.rackState := rfl

@[simp] theorem closeRequest_rackState (n : Nat) (b : BayNo) (s : State) :
    (closeRequest n b s).1.rackState = s.rackState := by
  unfold closeRequest
  repeat' split
  all_goals first | rfl | (simp; done) | (simp; rfl)

@[simp] theorem settle_rackState (n p d : Nat) (s : State) :
    (settle n p d s).rackState = s.rackState := rfl

@[simp] theorem removeOrder_rackState (n : Nat) (s : State) :
    (removeOrder n s).rackState = s.rackState := rfl

/-! ### Bays -/

@[simp] theorem startIdleTimers_rackState (b : BayNo) (s : State) :
    (startIdleTimers b s).rackState = s.rackState := rfl

@[simp] theorem activity_rackState (b : BayNo) (k : Activity) (s : State) :
    (activity b k s).rackState = s.rackState := by
  simp [activity]

@[simp] theorem reportPermissives_rackState (b : BayNo) (s : State) :
    (reportPermissives b s).rackState = s.rackState := rfl

@[simp] theorem followDeadman_rackState (b : BayNo) (s : State) :
    (followDeadman b s).rackState = s.rackState := by
  unfold followDeadman
  repeat' split
  all_goals simp

@[simp] theorem restartDeadman_rackState (b : BayNo) (s : State) :
    (restartDeadman b s).rackState = s.rackState := rfl

@[simp] theorem deadmanViolation_rackState (b : BayNo) (p : Prompt) (s : State) :
    (deadmanViolation b p s).rackState = s.rackState := by
  simp [deadmanViolation]

@[simp] theorem enterEnding_rackState (b : BayNo) (c : EndCause) (s : State) :
    (enterEnding b c s).rackState = s.rackState := by
  simp [enterEnding]

@[simp] theorem endSession_rackState (b : BayNo) (c : EndCause) (s : State) :
    (endSession b c s).rackState = s.rackState := by
  simp [endSession]

@[simp] theorem fileSession_rackState (b : BayNo) (x : Session) (s : State) :
    (fileSession b x s).rackState = s.rackState := by
  unfold fileSession
  dsimp only
  repeat' split
  all_goals first | rfl | (simp; done) | (simp; rfl) | (simp <;> split <;> simp)

@[simp] theorem filingTest_rackState (b : BayNo) (s : State) :
    (filingTest b s).rackState = s.rackState := by
  unfold filingTest
  split <;> simp

@[simp] theorem shotWritten_rackState (b : BayNo) (i : InjNo) (s : State) :
    (shotWritten b i s).rackState = s.rackState := by
  simp [shotWritten]

@[simp] theorem completed_rackState (b : BayNo) (c : CompNo) (s : State) :
    (completed b c s).rackState = s.rackState := by
  unfold completed
  repeat' split
  all_goals simp

@[simp] theorem armChanged_rackState (a : ArmNo) (s : State) :
    (armChanged a s).rackState = s.rackState := by
  unfold armChanged
  dsimp only
  repeat' split
  all_goals simp

@[simp] theorem stageTwoNotice_rackState (b : BayNo) (s : State) :
    (stageTwoNotice b s).rackState = s.rackState := by
  unfold stageTwoNotice
  split <;> simp

/-! ### Requests -/

end Sys2Proof.Machine
end

