-- ==== Sys2Proof/Laws/Blocks.lean ====
section
/-! SUPPORT. What the shared operations of the blocks do, each said once: the valve command and its checks, the change of
mode, the trip, a condition reported again, a shot taken, a completion, the permit table's lookups. -/

namespace Sys2Proof.Machine

/-! ### Valves -/

/-- A VALVE condition set (R58): the arms after it. -/
theorem setValveCond_arms (a : ArmNo) (p : Bool) (s : State) :
    (setValveCond a p s).arms = vmod s.arms a fun x => { x with valveCond := p } := by
  unfold setValveCond
  split
  · next h =>
    apply vec_ext
    intro i
    rw [vmod_get]
    split
    · next hi => subst hi; simp only [← h]; rfl
    · rfl
  · rfl

/-- A VALVE condition set (R58): what is sent. -/
theorem setValveCond_inbox (a : ArmNo) (p : Bool) (s : State) :
    (setValveCond a p s).inbox
      = s.inbox ++ if s.arms[a].valveCond = p then [] else [.condition (.valve a) p] := by
  unfold setValveCond
  split <;> simp_all

/-- A NO_FLOW condition set (R59): the arms after it. -/
theorem setNoFlowCond_arms (a : ArmNo) (p : Bool) (s : State) :
    (setNoFlowCond a p s).arms = vmod s.arms a fun x => { x with noFlowCond := p } := by
  unfold setNoFlowCond
  split
  · next h =>
    apply vec_ext
    intro i
    rw [vmod_get]
    split
    · next hi => subst hi; simp only [← h]; rfl
    · rfl
  · rfl

/-- An arm whose command is what its state calls for is left alone (R41). -/
theorem refreshCommand_same (a : ArmNo) (s : State)
    (h : s.arms[a].command = commandFor s.mode (s.armCfg a).used s.arms[a]) : refreshCommand a s = s := by
  simp only [refreshCommand, if_pos h]

/-- An arm whose command changes restarts its travel allowance with the VALVE condition absent (R41, R58). -/
theorem refreshCommand_arms (a : ArmNo) (s : State)
    (h : s.arms[a].command ≠ commandFor s.mode (s.armCfg a).used s.arms[a]) :
    (refreshCommand a s).arms = vmod s.arms a fun x =>
      { x with
          command := commandFor s.mode (s.armCfg a).used s.arms[a]
          travel := some (Timer.start ((s.armCfg a).valveTravel * ticksPerTenth)), valveCond := false } := by
  simp only [refreshCommand, if_neg h, restartTravel, setValveCond_arms]
  apply vec_ext
  intro i
  simp only [State.modArm, vmod_get]
  split <;> rfl

/-- The command an arm has after it has been refreshed (R41). -/
theorem refreshCommand_command (a : ArmNo) (s : State) :
    (refreshCommand a s).arms[a].command = commandFor s.mode (s.armCfg a).used s.arms[a] := by
  by_cases h : s.arms[a].command = commandFor s.mode (s.armCfg a).used s.arms[a]
  · rw [refreshCommand_same a s h]; exact h
  · simp only [Fin.getElem_fin, refreshCommand_arms a s h, vmod_self]

/-- The other arms stay as they are when one is refreshed. -/
theorem refreshCommand_other (a x : ArmNo) (s : State) (hx : x ≠ a) :
    (refreshCommand a s).arms[x] = s.arms[x] := by
  by_cases h : s.arms[a].command = commandFor s.mode (s.armCfg a).used s.arms[a]
  · rw [refreshCommand_same a s h]
  · simp only [Fin.getElem_fin, refreshCommand_arms a s h, vmod_other _ _ _ _ hx]

/-- In a mode other than RUN and TRIPPING every command is CLOSE (R41). -/
theorem commandFor_safe (m : Mode) (used : Bool) (x : Arm) (h : m.mayFlow = false) : commandFor m used x = .close := by
  simp [commandFor, h]

/-- A refresh leaves what an arm is doing. -/
theorem refreshCommand_keeps (a x : ArmNo) (s : State) :
    (refreshCommand a s).arms[x].state = s.arms[x].state ∧ (refreshCommand a s).arms[x].comp = s.arms[x].comp
      ∧ (refreshCommand a s).arms[x].waiting = s.arms[x].waiting
      ∧ (refreshCommand a s).arms[x].outstanding = s.arms[x].outstanding
      ∧ (refreshCommand a s).arms[x].closingLimit = s.arms[x].closingLimit
      ∧ (refreshCommand a s).arms[x].closeAhead = s.arms[x].closeAhead
      ∧ (refreshCommand a s).arms[x].lastStop = s.arms[x].lastStop := by
  by_cases h : s.arms[a].command = commandFor s.mode (s.armCfg a).used s.arms[a]
  · rw [refreshCommand_same a s h]; exact ⟨rfl, rfl, rfl, rfl, rfl, rfl, rfl⟩
  · simp only [Fin.getElem_fin, refreshCommand_arms a s h, vmod_get]
    split <;> exact ⟨rfl, rfl, rfl, rfl, rfl, rfl, rfl⟩

/-- An arm that has entered a state is in it (R41). -/
theorem enterState_state (a : ArmNo) (st : ArmState) (s : State) : (enterState a st s).arms[a].state = st :=
  (refreshCommand_keeps a a (s.modArm a fun x => { x with state := st })).1.trans (by simp [State.modArm])

/-! ### The rack mode -/

theorem rackState_mode (s : State) : s.rackState.mode = s.mode := rfl
theorem rackState_relay (s : State) : s.rackState.relay = s.relay := rfl
theorem rackState_trip (s : State) : s.rackState.trip = s.trip := rfl

/-- What the refreshing of all arms leaves. -/
theorem refreshAll_rackState (s : State) :
    (s.each allArms fun s a => refreshCommand a s).rackState = s.rackState :=
  each_keeps State.rackState _ (fun s a => refreshCommand_rackState a s) _ s

/-- The mode, the relay and the trip control after a change of mode (R158). -/
theorem setMode_rackState (m : Mode) (s : State) :
    (setMode m s).rackState
      = { mode := m, relay := relayAfter m s.relay
          trip := { s.trip with stageTwo := s.trip.stageTwo && m = .tripping
                                delay := if m = .tripping then s.trip.delay else none } } := by
  simp only [setMode, refreshAll_rackState, ite_rackState, forcePumpsOff_rackState, pumpsReturn_rackState, ite_self]
  rfl

/-- The mode after a change of mode. -/
theorem setMode_mode (m : Mode) (s : State) : (setMode m s).mode = m := by
  rw [← rackState_mode, setMode_rackState]

/-- The relay after a change of mode (R140, R142, R143, R158). -/
theorem setMode_relay (m : Mode) (s : State) : (setMode m s).relay = relayAfter m s.relay := by
  rw [← rackState_relay, setMode_rackState]

/-- The first stage of a trip (R140): mode, cause and stage. -/
theorem startTrip_rackState (cause : TripCause) (s : State) :
    (startTrip cause s).mode = .tripping ∧ (startTrip cause s).relay = s.relay
      ∧ (startTrip cause s).trip.cause = cause ∧ (startTrip cause s).trip.stageTwo = false := by
  rw [← rackState_mode, ← rackState_relay, ← rackState_trip]
  simp only [startTrip, ite_rackState, push_rackState, pushAll_rackState, setMode_rackState, ite_self, relayAfter,
    Bool.false_and, and_self]

/-! ### Supervision -/

/-- A condition reported as it already stands changes nothing (R130). -/
theorem condition_same (i : InstId) (p : Bool) (s : State) (h : (s.inst i).cond = p) : condition i p s = s := by
  simp [condition, h]

/-- A change of one instance leaves the others, whose places differ. -/
theorem slot_injective (i j : InstId) (h : i.slot = j.slot) : i = j := by
  have h' : i.index = j.index := congrArg Fin.val h
  cases i <;> cases j <;> simp [InstId.index] at h' <;> first | rfl | (congr 1; apply Fin.ext; omega) | omega

/-- The instance changed. -/
theorem modInst_self (i : InstId) (f : Instance → Instance) (s : State) : (s.modInst i f).inst i = f (s.inst i) := by
  simp [State.inst, State.modInst]

/-- The instances not changed. -/
theorem modInst_other (i j : InstId) (f : Instance → Instance) (s : State) (h : j ≠ i) :
    (s.modInst i f).inst j = s.inst j := by
  have hs : j.slot ≠ i.slot := fun e => h (slot_injective j i e)
  simp [State.inst, State.modInst, vmod_other _ _ _ _ hs]

/-! ### Injectors -/

/-- An IDLE injector with a waiting request takes it into SHOT (R71). -/
theorem takeOldest_idle (i : InjNo) (s : State) (q : ShotRequest) (rest : List ShotRequest)
    (hs : s.injectors[i].state = .idle) (hq : s.injectors[i].queue = q :: rest) :
    (takeOldest i s).injectors[i].state = .shot ∧ (takeOldest i s).injectors[i].queue = rest
      ∧ (takeOldest i s).injectors[i].current.map Shot.req = some q := by
  simp only [Fin.getElem_fin] at hs hq
  simp [takeOldest, hs, hq]

/-- An injector that is not IDLE, or has no request, takes none (R71). -/
theorem takeOldest_none (i : InjNo) (s : State) (h : s.injectors[i].state ≠ .idle ∨ s.injectors[i].queue = []) :
    takeOldest i s = s := by
  unfold takeOldest
  simp only
  split
  · next hs hq => rcases h with h | h
                  · exact absurd hs h
                  · rw [h] at hq; cases hq
  · rfl

/-! ### Supervision instances -/

/-- Every instance is among the 83. -/
theorem mem_allInsts (i : InstId) : i ∈ allInsts := by
  cases i <;> first | decide | (rename_i x; revert x; decide)

/-- The 83 stand in ascending kind code and, within one kind, ascending unit number (R135). -/
theorem allInsts_sorted :
    allInsts.Pairwise fun i j => i.kind.val < j.kind.val ∨ (i.kind = j.kind ∧ i.unit < j.unit) := by
  decide +kernel

/-- A trip clear is refused while ESTOP is not NORMAL or a trip-flagged instance is ACTIVE or LATCHED (R143). -/
theorem tripBlocked_iff (s : State) :
    tripBlocked s = true ↔ (s.inst .estop).state ≠ .normal ∨
      ∃ i, (s.supCfg i).trip = true ∧ ((s.inst i).state = .active ∨ (s.inst i).state = .latched) := by
  simp [tripBlocked, mem_allInsts]

/-! ### Metering -/

/-- On a used arm an expiry's gross side is the engine's formula for the count handed over (R21 to R23). -/
theorem expiryGross_used (cfg : Configuration) (s : State) (a : ArmNo) (h : cfg.arms[a].used = true) :
    expiryGross cfg s a = intervalGross cfg.arms[a] s.pulses[a].count s.meters[a].rG := by
  simp only [expiryGross, handedCount, h, if_true]

/-- On an unused arm an expiry adds no volume and leaves the carry (R19). -/
theorem expiryGross_unused (cfg : Configuration) (s : State) (a : ArmNo) (h : cfg.arms[a].used = false) :
    (expiryGross cfg s a).dg = 0 ∧ (expiryGross cfg s a).rG = s.meters[a].rG := by
  have hn : ¬cfg.arms[a].used = true := by rw [h]; exact Bool.false_ne_true
  simp only [expiryGross, if_neg hn, and_self]

/-- An interval that adds nothing leaves the leak volume and sends nothing (R39). -/
theorem leakWatch_zero (cfg : Configuration) (a : ArmNo) (s : State) : leakWatch cfg a 0 s = s := by
  simp [leakWatch]

/-! ### The permit table -/

/-- The entry found has the number. -/
theorem findPermit_number (ps : List Permit) (n : Nat) (p : Permit) (h : findPermit ps n = some p) : p.number = n := by
  simpa [findPermit] using List.find?_some h

/-- What a close request can do (R94): NOT_FOUND and NOT_OPEN change nothing; OK deletes a RETIRING entry, its orders
orphaned, and ends the open session of any other. -/
theorem closeRequest_cases (n : Nat) (b : BayNo) (s : State) :
    (findPermit s.permits n = none ∧ closeRequest n b s = (s, .notFound)) ∨
    (∃ p, findPermit s.permits n = some p ∧ p.openSession ≠ some b ∧ closeRequest n b s = (s, .notOpen)) ∨
    (∃ p, findPermit s.permits n = some p ∧ p.openSession = some b ∧ p.state = .retiring
      ∧ closeRequest n b s = (deletePermit n s, .ok)) ∨
    (∃ p, findPermit s.permits n = some p ∧ p.openSession = some b ∧ p.state ≠ .retiring
      ∧ closeRequest n b s
        = ({ s with permits := modPermit s.permits n fun p => { p with openSession := none } }, .ok)) := by
  unfold closeRequest
  split
  · next h => exact .inl ⟨h, rfl⟩
  · next p h =>
    by_cases ho : p.openSession = some b
    · by_cases hr : p.state = .retiring
      · exact .inr (.inr (.inl ⟨p, h, ho, hr, by simp [ho, hr]⟩))
      · exact .inr (.inr (.inr ⟨p, h, ho, hr, by simp [ho, hr]⟩))
    · exact .inr (.inl ⟨p, h, ho, by simp [ho]⟩)

/-- A change that keeps numbers and tokens keeps the table lawful (R86). -/
theorem modPermit_lawful (ps : List Permit) (n : Nat) (f : Permit → Permit) (hn : ∀ p, (f p).number = p.number)
    (ht : ∀ p, (f p).token = p.token) (h : TableLawful ps) : TableLawful (modPermit ps n f) := by
  have h1 : (modPermit ps n f).map Permit.number = ps.map Permit.number := by
    simp only [modPermit, List.map_map]
    refine List.map_congr_left fun p _ => ?_
    simp only [Function.comp]; split <;> simp [hn]
  have h2 : (modPermit ps n f).map Permit.token = ps.map Permit.token := by
    simp only [modPermit, List.map_map]
    refine List.map_congr_left fun p _ => ?_
    simp only [Function.comp]; split <;> simp [ht]
  refine ⟨?_, ?_, ?_⟩
  · rw [h1]; exact h.1
  · rw [h2]; exact h.2.1
  · simpa [modPermit] using h.2.2

/-- A lawful table stays lawful when entries are taken out (R86). -/
theorem filter_lawful (ps : List Permit) (keep : Permit → Bool) (h : TableLawful ps) : TableLawful (ps.filter keep) :=
  ⟨(List.filter_sublist.map _).nodup h.1, (List.filter_sublist.map _).nodup h.2.1,
    (List.length_filter_le _ _).trans h.2.2⟩

end Sys2Proof.Machine
end

