-- ==== Sys2Proof/Laws/Fields.lean ====
section
/-! SUPPORT. Big-endian fields: what is written by `be` is read back by `fld`, alone and inside a longer body. -/

namespace Sys2Proof.Machine

/-- A field takes its width. -/
@[simp] theorem digits_length (w n : Nat) : (digits w n).length = w := by
  induction w generalizing n with
  | zero => rfl
  | succ w ih => simp [digits, ih]

/-- A field takes its width, whatever the number. -/
@[simp] theorem be_length (w n : Nat) : (be w n).length = w := by
  unfold be; split <;> simp

/-- A yes/no field takes one byte. -/
@[simp] theorem boolByte_length (b : Bool) : (boolByte b).length = 1 := by simp [boolByte]

/-- Reading bytes from a running value. -/
theorem foldl_beNat (l : List Byte) (acc : Nat) :
    l.foldl (fun acc b => acc * 256 + b.toNat) acc = acc * 256 ^ l.length + beNat l := by
  induction l generalizing acc with
  | nil => simp [beNat]
  | cons x l ih =>
    simp only [beNat, List.foldl_cons, List.length_cons] at ih ⊢
    rw [ih, ih (0 * 256 + x.toNat)]
    ring

/-- The bytes of a number spell its low bytes. -/
theorem beNat_digits (w n : Nat) : beNat (digits w n) = n % 256 ^ w := by
  induction w with
  | zero => simp [digits, beNat, Nat.mod_one]
  | succ w ih =>
    have h := foldl_beNat (digits w n) (0 * 256 + (BitVec.ofNat 8 (n / 256 ^ w)).toNat)
    have hd : beNat (digits (w + 1) n) = (digits w n).foldl (fun acc b => acc * 256 + b.toNat)
        (0 * 256 + (BitVec.ofNat 8 (n / 256 ^ w)).toNat) := rfl
    rw [hd, h, ih, digits_length, BitVec.toNat_ofNat]
    have hp : 256 ^ (w + 1) = 256 ^ w * 256 := pow_succ 256 w
    rw [hp, Nat.mod_mul]
    norm_num
    ring

/-- A number that fits is read back. -/
theorem beNat_be (w n : Nat) (h : n < 256 ^ w) : beNat (be w n) = n := by
  rw [be, if_pos h, beNat_digits, Nat.mod_eq_of_lt h]

/-- The field a body begins with. -/
theorem fld_be_append (w n : Nat) (l : List Byte) (h : n < 256 ^ w) : fld (be w n ++ l) 0 w = n := by
  simp [fld, beNat_be w n h]

/-- A body that is one field. -/
theorem fld_be (w n : Nat) (h : n < 256 ^ w) : fld (be w n) 0 w = n := by
  simpa using fld_be_append w n [] h

/-- A field behind a prefix. -/
theorem fld_append (p l : List Byte) (off w : Nat) : fld (p ++ l) (p.length + off) w = fld l off w := by
  have : List.drop (p.length + off) p = [] := List.drop_eq_nil_of_le (by omega)
  simp [fld, List.drop_append, this]

/-- A field behind one field. -/
theorem fld_be_skip (v m : Nat) (l : List Byte) (off w : Nat) : fld (be v m ++ l) (v + off) w = fld l off w := by
  simpa using fld_append (be v m) l off w

/-- A unit's number names the unit. -/
@[simp] theorem unitOf_unitNo {n : Nat} (i : Fin n) : unitOf n (unitNo i) = some i := by
  have : 1 ≤ unitNo i ∧ unitNo i ≤ n := ⟨by simp [unitNo], by simp [unitNo]⟩
  simp [unitOf, unitNo]

/-- A yes/no field is read back. -/
theorem boolOf_boolByte (b : Bool) : boolOf (fld (boolByte b) 0 1) = some b := by
  cases b <;> simp [boolByte, fld_be, boolOf]

end Sys2Proof.Machine
end

