-- ==== Sys2Proof/Laws/Lines.lean ====
section
/-! SUPPORT. The frame every command runs in: what a command answers when no notice is in flight, and how a request reaches
its owner and is answered. -/

namespace Sys2Proof.Machine

/-- With nothing in flight nothing is taken. -/
theorem drain_nil (n : Nat) (s : State) (h : s.inbox = []) : drain n s = s := by
  cases n <;> simp [drain, h]

/-- With nothing in flight the end of a command is the retained write alone. -/
theorem settleCommand_nil (s : State) (h : s.inbox = []) : settleCommand s = s.write := by
  simp [settleCommand, drain_nil _ _ h]

/-- In service a command is its operation and the end of the command. -/
theorem inService_ready (f : State → State) (s : State) (h : Ready s) :
    inService f s = .next (settleCommand (f s.fresh)) := by
  simp [inService, h.1]

/-- In service a pin command is its level, its operation and the end of the command. -/
theorem onPin_ready (level f : State → State) (s : State) (h : Ready s) :
    onPin level f s = .next (settleCommand (f (level s.fresh))) := by
  simp [onPin, h.1]

/-- A frame taken in service is handled in the state `heard s`. -/
theorem receiveFrame_ready (handle : State → State) (s : State) (h : Ready s) (hl : LineFree s) :
    receiveFrame handle s = settleCommand (handle (heard s)) := by
  have h1 : ¬ s.line.receiver = .skipping := hl.1
  have h2 : s.line.reply = none := hl.2
  simp [receiveFrame, h.1, h1, h2, heard]

/-- A frame taken in START_UP is handled with the link as it was. -/
theorem receiveFrame_starting (handle : State → State) (s : State) (cause : StartCause)
    (h : s.phase = .starting cause) (hl : LineFree s) :
    receiveFrame handle s = handle (setReceiver .hunt s.fresh) := by
  have h1 : ¬ s.line.receiver = .skipping := hl.1
  have h2 : s.line.reply = none := hl.2
  simp [receiveFrame, h, h1, h2]

/-- A request the mode takes is answered with the code and body its owner gives. -/
theorem request_taken (kind : Byte) (owner : State → State × Answer) (s : State) (h : Taken kind s) :
    request kind owner s = .next (settleCommand (sendReply kind (owner (heard s)).2 (owner (heard s)).1)) := by
  obtain ⟨hr, hl, hm⟩ := h
  have hm' : modeTakes (heard s).mode kind.toNat = true := hm
  simp only [request, receiveFrame_ready _ s hr hl, addressed, hm', if_true]

/-- A request whose owner sends nothing is answered in the next state. -/
theorem request_quiet (kind : Byte) (owner : State → State × Answer) (s t : State) (x : Answer) (h : Taken kind s)
    (ho : owner (heard s) = (t, x)) (hi : t.inbox = []) :
    request kind owner s = .next (sendReply kind x t).write := by
  rw [request_taken kind owner s h, ho]
  exact congrArg Host.Outcome.next (settleCommand_nil _ (by simpa [sendReply] using hi))

section Heard

variable (s : State)

@[simp] theorem heard_inbox : (heard s).inbox = s.inbox := rfl
@[simp] theorem heard_mode : (heard s).mode = s.mode := rfl
@[simp] theorem heard_phase : (heard s).phase = s.phase := rfl
@[simp] theorem heard_setup : (heard s).setup = s.setup := rfl
@[simp] theorem heard_cfg : (heard s).cfg = s.cfg := rfl
@[simp] theorem heard_permits : (heard s).permits = s.permits := rfl
@[simp] theorem heard_orders : (heard s).orders = s.orders := rfl
@[simp] theorem heard_notes : (heard s).notes = s.notes := rfl
@[simp] theorem heard_meters : (heard s).meters = s.meters := rfl
@[simp] theorem heard_sup : (heard s).sup = s.sup := rfl
@[simp] theorem heard_clock : (heard s).line.clock = s.line.clock := rfl

end Heard

end Sys2Proof.Machine
end

