-- ==== Sys2Proof/Laws/PerInstr.lean ====
section
/-! SUPPORT. The families of statements made command by command. -/

namespace Sys2Proof.Laws.FitsItsFrame

open Sys2Proof Sys2Proof.Machine

/-- The bytes a host line command carries: a message's body, or the whole of a frame that is discarded. -/
def carried : Instr → Option (List Byte)
  | .powerUp => none
  | .startUp _ => none
  | .acceptedRisingEdge _ _ => none
  | .acceptedFallingEdge _ => none
  | .pulsePinChange _ _ => none
  | .readingRecord _ _ => none
  | .recordTimerExpiry _ => none
  | .intervalExpiry _ => none
  | .valveSwitchChange _ _ _ => none
  | .travelAllowanceExpiry _ => none
  | .quietTimerExpiry _ => none
  | .closingLimitExpiry _ => none
  | .noFlowTimerExpiry _ => none
  | .compartmentCompletion _ => none
  | .pumpStartDelayReached _ => none
  | .stopDelayExpiry _ => none
  | .additivePulse _ => none
  | .shotTimeLimit _ => none
  | .settleTimeExpiry _ => none
  | .bayPermitChange _ _ _ => none
  | .deadmanPress _ _ => none
  | .deadmanWindowOpens _ => none
  | .deadmanLate _ => none
  | .attentionTimerExpiry _ => none
  | .abandonTimerExpiry _ => none
  | .noteFiling _ => none
  | .card _ _ => none
  | .select _ _ _ => none
  | .start _ _ => none
  | .resume _ _ => none
  | .stop _ _ => none
  | .finish _ _ => none
  | .endKey _ => none
  | .resetKey _ => none
  | .malformedRecord _ _ => none
  | .estopInputChange _ => none
  | .rackReset _ => none
  | .filterTimerExpiry _ => none
  | .tripDelayExpiry => none
  | .setupTimerExpiry => none
  | .setupOpenDecision => none
  | .linkTimeout => none
  | .clockSecond => none
  | .interByteGap => none
  | .lineIdle => none
  | .frameDiscarded bytes => some bytes
  | .replyComplete => none
  | .unknownKind _ body => some body
  | .rackStatus body => some body
  | .bayStatus body => some body
  | .armStatus body => some body
  | .injectorStatus body => some body
  | .supervisionList body => some body
  | .totaliserRead body => some body
  | .clockSet _ body => some body
  | .setupOpen body => some body
  | .configPut body => some body
  | .configRead body => some body
  | .setupClose body => some body
  | .setupAbandon body => some body
  | .permitPut body => some body
  | .permitRead body => some body
  | .permitSuspend body => some body
  | .permitReinstate body => some body
  | .permitRemove body => some body
  | .quotaSet body => some body
  | .orderPut body => some body
  | .orderRead body => some body
  | .orderCancel body => some body
  | .sessionEnd body => some body
  | .noteIndex body => some body
  | .noteRead body => some body
  | .noteRelease body => some body
  | .supervisionClear body => some body
  | .tripRequest _ body => some body
  | .tripClear body => some body
  | .restart body => some body
  | .powerLoss _ => none
  | .startByte => none
  | .lengthAbove1024 => none

/-- A well-formed command of the host line carries no more than the longest frame after its start byte: 1024 bytes of
body, and the address, the length, the kind and the CRC (spec/10, Frames). -/
def Statement (i : Instr) : Prop := i.WF → ∀ l, carried i = some l → l.length ≤ 1030

/-- A body that fits is within the bound. -/
theorem fits (body : List Byte) (h : bodyFits body = true) : ∀ l, some body = some l → l.length ≤ 1030 := by
  intro l hl
  obtain rfl : body = l := Option.some.inj hl
  have hw : body.length ≤ 1024 := of_decide_eq_true h
  omega

theorem powerUp : Statement (.powerUp) := fun _ _ h => nomatch h

theorem startUp (damaged : List RetainedCopy) : Statement (.startUp damaged) := fun _ _ h => nomatch h

theorem acceptedRisingEdge (arm : ArmNo) (channel : Channel) : Statement (.acceptedRisingEdge arm channel) := fun _ _ h => nomatch h

theorem acceptedFallingEdge (pin : PulsePin) : Statement (.acceptedFallingEdge pin) := fun _ _ h => nomatch h

theorem pulsePinChange (pin : PulsePin) (level : Bool) : Statement (.pulsePinChange pin level) := fun _ _ h => nomatch h

theorem readingRecord (arm : ArmNo) (record : Option ReadingRecord) : Statement (.readingRecord arm record) := fun _ _ h => nomatch h

theorem recordTimerExpiry (arm : ArmNo) : Statement (.recordTimerExpiry arm) := fun _ _ h => nomatch h

theorem intervalExpiry (arm : ArmNo) : Statement (.intervalExpiry arm) := fun _ _ h => nomatch h

theorem valveSwitchChange (arm : ArmNo) (switch : ValveSwitch) (level : Bool) : Statement (.valveSwitchChange arm switch level) := fun _ _ h => nomatch h

theorem travelAllowanceExpiry (arm : ArmNo) : Statement (.travelAllowanceExpiry arm) := fun _ _ h => nomatch h

theorem quietTimerExpiry (arm : ArmNo) : Statement (.quietTimerExpiry arm) := fun _ _ h => nomatch h

theorem closingLimitExpiry (arm : ArmNo) : Statement (.closingLimitExpiry arm) := fun _ _ h => nomatch h

theorem noFlowTimerExpiry (arm : ArmNo) : Statement (.noFlowTimerExpiry arm) := fun _ _ h => nomatch h

theorem compartmentCompletion (arm : ArmNo) : Statement (.compartmentCompletion arm) := fun _ _ h => nomatch h

theorem pumpStartDelayReached (arm : ArmNo) : Statement (.pumpStartDelayReached arm) := fun _ _ h => nomatch h

theorem stopDelayExpiry (pump : PumpNo) : Statement (.stopDelayExpiry pump) := fun _ _ h => nomatch h

theorem additivePulse (inj : InjNo) : Statement (.additivePulse inj) := fun _ _ h => nomatch h

theorem shotTimeLimit (inj : InjNo) : Statement (.shotTimeLimit inj) := fun _ _ h => nomatch h

theorem settleTimeExpiry (inj : InjNo) : Statement (.settleTimeExpiry inj) := fun _ _ h => nomatch h

theorem bayPermitChange (bay : BayNo) (permit : PermitInput) (level : Bool) : Statement (.bayPermitChange bay permit level) := fun _ _ h => nomatch h

theorem deadmanPress (bay : BayNo) (held : Bool) : Statement (.deadmanPress bay held) := fun _ _ h => nomatch h

theorem deadmanWindowOpens (bay : BayNo) : Statement (.deadmanWindowOpens bay) := fun _ _ h => nomatch h

theorem deadmanLate (bay : BayNo) : Statement (.deadmanLate bay) := fun _ _ h => nomatch h

theorem attentionTimerExpiry (bay : BayNo) : Statement (.attentionTimerExpiry bay) := fun _ _ h => nomatch h

theorem abandonTimerExpiry (bay : BayNo) : Statement (.abandonTimerExpiry bay) := fun _ _ h => nomatch h

theorem noteFiling (bay : BayNo) : Statement (.noteFiling bay) := fun _ _ h => nomatch h

theorem card (bay : BayNo) (token : BitVec 64) : Statement (.card bay token) := fun _ _ h => nomatch h

theorem select (bay : BayNo) (comp : CompNo) (arm : ArmNo) : Statement (.select bay comp arm) := fun _ _ h => nomatch h

theorem start (bay : BayNo) (arm : ArmNo) : Statement (.start bay arm) := fun _ _ h => nomatch h

theorem resume (bay : BayNo) (arm : ArmNo) : Statement (.resume bay arm) := fun _ _ h => nomatch h

theorem stop (bay : BayNo) (arm : ArmNo) : Statement (.stop bay arm) := fun _ _ h => nomatch h

theorem finish (bay : BayNo) (arm : ArmNo) : Statement (.finish bay arm) := fun _ _ h => nomatch h

theorem endKey (bay : BayNo) : Statement (.endKey bay) := fun _ _ h => nomatch h

theorem resetKey (bay : BayNo) : Statement (.resetKey bay) := fun _ _ h => nomatch h

theorem malformedRecord (bay : BayNo) (bytes : List Byte) : Statement (.malformedRecord bay bytes) := fun _ _ h => nomatch h

theorem estopInputChange (level : Bool) : Statement (.estopInputChange level) := fun _ _ h => nomatch h

theorem rackReset (held : Bool) : Statement (.rackReset held) := fun _ _ h => nomatch h

theorem filterTimerExpiry (inst : InstId) : Statement (.filterTimerExpiry inst) := fun _ _ h => nomatch h

theorem tripDelayExpiry : Statement (.tripDelayExpiry) := fun _ _ h => nomatch h

theorem setupTimerExpiry : Statement (.setupTimerExpiry) := fun _ _ h => nomatch h

theorem setupOpenDecision : Statement (.setupOpenDecision) := fun _ _ h => nomatch h

theorem linkTimeout : Statement (.linkTimeout) := fun _ _ h => nomatch h

theorem clockSecond : Statement (.clockSecond) := fun _ _ h => nomatch h

theorem interByteGap : Statement (.interByteGap) := fun _ _ h => nomatch h

theorem lineIdle : Statement (.lineIdle) := fun _ _ h => nomatch h

theorem frameDiscarded (bytes : List Byte) : Statement (.frameDiscarded bytes) := by
  intro h l hl
  obtain rfl : bytes = l := Option.some.inj hl
  have hw : frameWhole bytes = true := h
  simp only [frameWhole, Bool.and_eq_true, decide_eq_true_eq] at hw
  omega

theorem replyComplete : Statement (.replyComplete) := fun _ _ h => nomatch h

theorem unknownKind (kind : Byte) (body : List Byte) : Statement (.unknownKind kind body) := by
  intro h
  have hw : (decide (1 ≤ kind.toNat) && decide (kind.toNat < 0x80) && !knownKind kind.toNat && bodyFits body) = true := h
  exact fits body (Bool.and_eq_true_iff.1 hw).2

theorem rackStatus (body : List Byte) : Statement (.rackStatus body) := fun h => fits body h

theorem bayStatus (body : List Byte) : Statement (.bayStatus body) := fun h => fits body h

theorem armStatus (body : List Byte) : Statement (.armStatus body) := fun h => fits body h

theorem injectorStatus (body : List Byte) : Statement (.injectorStatus body) := fun h => fits body h

theorem supervisionList (body : List Byte) : Statement (.supervisionList body) := fun h => fits body h

theorem totaliserRead (body : List Byte) : Statement (.totaliserRead body) := fun h => fits body h

theorem clockSet (dest : Dest) (body : List Byte) : Statement (.clockSet dest body) := fun h => fits body h

theorem setupOpen (body : List Byte) : Statement (.setupOpen body) := fun h => fits body h

theorem configPut (body : List Byte) : Statement (.configPut body) := fun h => fits body h

theorem configRead (body : List Byte) : Statement (.configRead body) := fun h => fits body h

theorem setupClose (body : List Byte) : Statement (.setupClose body) := fun h => fits body h

theorem setupAbandon (body : List Byte) : Statement (.setupAbandon body) := fun h => fits body h

theorem permitPut (body : List Byte) : Statement (.permitPut body) := fun h => fits body h

theorem permitRead (body : List Byte) : Statement (.permitRead body) := fun h => fits body h

theorem permitSuspend (body : List Byte) : Statement (.permitSuspend body) := fun h => fits body h

theorem permitReinstate (body : List Byte) : Statement (.permitReinstate body) := fun h => fits body h

theorem permitRemove (body : List Byte) : Statement (.permitRemove body) := fun h => fits body h

theorem quotaSet (body : List Byte) : Statement (.quotaSet body) := fun h => fits body h

theorem orderPut (body : List Byte) : Statement (.orderPut body) := fun h => fits body h

theorem orderRead (body : List Byte) : Statement (.orderRead body) := fun h => fits body h

theorem orderCancel (body : List Byte) : Statement (.orderCancel body) := fun h => fits body h

theorem sessionEnd (body : List Byte) : Statement (.sessionEnd body) := fun h => fits body h

theorem noteIndex (body : List Byte) : Statement (.noteIndex body) := fun h => fits body h

theorem noteRead (body : List Byte) : Statement (.noteRead body) := fun h => fits body h

theorem noteRelease (body : List Byte) : Statement (.noteRelease body) := fun h => fits body h

theorem supervisionClear (body : List Byte) : Statement (.supervisionClear body) := fun h => fits body h

theorem tripRequest (dest : Dest) (body : List Byte) : Statement (.tripRequest dest body) := fun h => fits body h

theorem tripClear (body : List Byte) : Statement (.tripClear body) := fun h => fits body h

theorem restart (body : List Byte) : Statement (.restart body) := fun h => fits body h

theorem powerLoss (lost : Nat) : Statement (.powerLoss lost) := fun _ _ h => nomatch h

theorem startByte : Statement (.startByte) := fun _ _ h => nomatch h

theorem lengthAbove1024 : Statement (.lengthAbove1024) := fun _ _ h => nomatch h

end Sys2Proof.Laws.FitsItsFrame
end

