-- ==== Sys2Proof/Tests/Slice0.lean ====
section
/-! SUPPORT. Tests. First the operands WellFormed refuses; then figures the manual's worked sequences and tables state, each
test naming its source; last, for every statement of Certificates/Slice0/Obligations.lean that has hypotheses, a concrete
state and operands that meet them, clause by clause. -/

namespace Sys2Proof.Tests

open Sys2Proof Sys2Proof.Machine

-- One theorem after the other: the kernel evaluations of this file are many, and each would hold a thread.
set_option Elab.async false

/-! ### WellFormed smoke -/

theorem test_wf_startUp_twice : ¬ (Instr.startUp [.notes, .notes]).WF := by decide

theorem test_wf_startUp : (Instr.startUp [.notes, .permits]).WF := by decide

/-- A SELECT record with a good check is no malformed record: kind 2, key 1, compartment 1, arm 1. -/
def selectRecord : List Byte :=
  let covered : List Byte := [0, 3, 2, 1, 1, 1]
  covered ++ be 2 (crc16 covered).toNat

theorem test_wf_malformed_refused : ¬ (Instr.malformedRecord 0 selectRecord).WF := by decide +kernel

theorem test_wf_malformed : (Instr.malformedRecord 0 [1, 2, 3]).WF := by decide

theorem test_wf_filter_event_kind : ¬ (Instr.filterTimerExpiry (.leak 0)).WF := by decide

theorem test_wf_filter : (Instr.filterTimerExpiry .estop).WF := by decide

theorem test_wf_frame_short : ¬ (Instr.frameDiscarded [1, 0, 0]).WF := by decide

theorem test_wf_frame : (Instr.frameDiscarded [1, 0, 0, 1, 0, 0]).WF := by decide

theorem test_wf_unknown_known : ¬ (Instr.unknownKind 0x10 []).WF := by decide

theorem test_wf_unknown_reply : ¬ (Instr.unknownKind 0x80 []).WF := by decide

theorem test_wf_unknown_zero : ¬ (Instr.unknownKind 0 []).WF := by decide

theorem test_wf_unknown : (Instr.unknownKind 0x6F []).WF := by decide

theorem test_wf_body : ¬ (Instr.rackStatus (List.replicate 1025 0)).WF := by
  decide +kernel

/-- The table gives no row a bit, so no word spells a command. -/
theorem test_decode_none : decodeTableWord 8 0 = none := rfl

/-! ### The rack of the tests -/

/-- The arm of the worked sequence of spec/02 (K 120,000; three points), staged as that of spec/03. -/
def testArm1 : ArmCfg :=
  { bay := some 0, productMask := 1, k := 120000, pointCount := 3
    points := #v[⟨200, 100250⟩, ⟨500, 100120⟩, ⟨800, 100040⟩, ⟨0, 0⟩, ⟨0, 0⟩]
    dual := true, minPulse := 2, startVolume := 500, tripDownVolume := 1500, closeAheadInitial := 60
    closeAheadMax := 200, overrunLimit := 20, unattendedLimit := 50, valveTravel := 30, noFlowTime := 50
    minFlow := 300, tempOffset := 30 }

/-- The product of the worked sequence of spec/02, with the recipe of spec/04 through injector 2 and pump 3. -/
def testProduct : ProductCfg :=
  { enabled := true, code := 11, basis := .standard, alpha := 1200, gamma := -300, pump := some 2, startDelay := 30
    stopDelay := 20, entry1 := ⟨some 1, 400, 250⟩, entry2 := ⟨none, 1, 10⟩ }

/-- The injector of the worked sequence of spec/04. -/
def testInj : InjCfg :=
  { armMask := 3, kAdd := 4000, shotLimit := 30, tolerance := 10, badLimit := 3, leakLimit := 50, settle := 5 }

/-- Two arms at bay 1, the second single-channel; one product; injector 2; a deadman window of 50 s at bay 1. -/
def rackCfg : Configuration :=
  { Configuration.factory with
    bays := vset Configuration.factory.bays 0 { BayCfg.factory with deadmanPeriod := 500 }
    arms := vset (vset Configuration.factory.arms 0 testArm1) 1 { testArm1 with dual := false }
    products := vset Configuration.factory.products 0 testProduct
    injectors := vset Configuration.factory.injectors 1 testInj }

/-- The rack in RUN, nothing loading. -/
def rack : State :=
  { State.reset with
    phase := .service, mode := .run, relay := true
    setup := { State.reset.setup with active := some rackCfg, digest := 0x7E4C }
    pins := { Pins.atRest with ground := vset Pins.atRest.ground 0 true, overfill := vset Pins.atRest.overfill 0 true
                               vapour := vset Pins.atRest.vapour 0 true }
    temps := vmod State.reset.temps 0 fun t => { t with lastGood := some 2437 } }

/-- An order for 30,000 dL of the product in compartment 2, as in spec/03. -/
def order1 : Order :=
  { number := 80217, permit := 4102, vehicle := 5, entries := [⟨1, 0, 30000⟩], active := false, sessionBay := none
    orphaned := false }

/-- The permit of the worked sequence of spec/05. -/
def permit1 : Permit :=
  { number := 4102, token := 77, carrier := 9, expiry := 0, bayMask := 15, productMask := 1, standalone := true
    quota := 200000, used := 150000, reserved := 0, state := .active, openSession := none }

/-- The rack with a permit and its order. -/
def stocked : State := { rack with permits := [permit1], orders := [order1] }

/-- The compartment record of the order on arm 1. -/
def comp1 : CompRec :=
  { formRecord rack ⟨1, 0, 30000⟩ with
    state := .onArm, arm := some 0, started := true, active := true, lines := formLines testProduct 30000 }

/-- The session at bay 1. -/
def session1 (st : SessionState) : Session :=
  { state := st, permit := 4102, carrier := 9, order := 80217, vehicle := 5, comps := [comp1], slotReserved := true
    start := none, digest := 0x7E4C, endCause := none }

/-- The compartment as arm 1 carries it. -/
def onArm1 : OnArm := onArmOf testArm1 60 0 comp1

/-- Bay 1 has the session, in a state. -/
def withSession (st : SessionState) : State :=
  { (stocked.modBay 0 fun x => { x with session := some (session1 st) }) with
      permits := [{ permit1 with openSession := some 0, reserved := 30000 }]
      notes := { stocked.notes with reserved := 1 } }

/-- Arm 1 carries the session's compartment, in a state. -/
def loading (st : ArmState) : State :=
  (withSession .loading).modArm 0 fun x => { x with state := st, comp := some onArm1, closeAhead := 60 }

/-- The same with a change of arm 1. -/
def loadingArm (st : ArmState) (f : Arm → Arm) : State := (loading st).modArm 0 f

/-- The rack in another mode. -/
def inMode (m : Mode) : State := { rack with mode := m, relay := relayAfter m true }

/-- The rack in START_UP. -/
def starting (cause : StartCause) : State := { rack with phase := .starting cause, mode := .startUp, relay := false }

/-- A shot of the additive line on arm 1. -/
def shot1 : Shot := { req := ⟨0, 0, 1, 1, 0⟩, pulses := 102, target := 100, ending := some .complete }

/-- Injector 2 with a shot of the loading compartment. -/
def dosing (st : InjState) (shot : Shot) : State :=
  (loading .lowStart).modInj 1 fun x => { x with state := st, current := some shot }

/-- The next state, for tests of one step. -/
def after (c : Instr) (s : State) : Option State :=
  match exec c s with
  | .next t => some t
  | _ => none

/-! ### Figures of the manual -/

/-- R167: the check value over "123456789". -/
theorem test_crc_check_value :
    crc16 [0x31, 0x32, 0x33, 0x34, 0x35, 0x36, 0x37, 0x38, 0x39] = 0x29B1#16 := by decide +kernel

/-- spec/02, two intervals of one compartment, first interval: flow rate and meter factor. -/
theorem test_interval_gross :
    intervalGross testArm1 3000 0 = { q := 600, mf := 100094, dg := 2502350, rG := 0 } := by decide +kernel

/-- spec/02, second interval. -/
theorem test_interval_gross_carry :
    intervalGross testArm1 2999 0 = { q := 599, mf := 100094, dg := 2501515, rG := 106000 } := by decide +kernel

/-- spec/02, a drip on an idle arm: the first point's factor below its flow rate. -/
theorem test_interval_drip :
    intervalGross testArm1 12 0 = { q := 2, mf := 100250, dg := 10025, rG := 0 } := by decide +kernel

/-- spec/02: the VCF at 24.37 °C. -/
theorem test_vcf : vcfClamped (vcfRaw 1200 (-300) 2437 1500) = 98873 := by decide +kernel

/-- spec/02: the standard division of the second interval, with the carry of the first. -/
theorem test_standard :
    standardNumerator 2501515 98873 51550 = 247332344145 ∧ 247332344145 / 100000 = 2473323
      ∧ 247332344145 % 100000 = 44145 := by decide +kernel

/-- spec/02: the result of the compartment after the second interval. -/
theorem test_result :
    deciOf 5003865 = 50 ∧ deciOf 4947471 = 49 ∧ averageTemp 5003865 12194419005 none = 2437
      ∧ meanVcf 5003865 4947471 = 98873 := by decide +kernel

/-- spec/02: the totaliser wraps in the second interval. -/
theorem test_totaliser_wraps : addModulo 999999999502350 2501515 = 2003865 := by decide +kernel

/-- spec/02: one expiry of the flowing arm as a command. -/
theorem test_interval_expiry :
    (after (.intervalExpiry 0) { loading .highFlow with
      pulses := vmod rack.pulses 0 fun p => { p with count := 3000 }
      meters := vmod rack.meters 0 fun m => { m with totaliser := 999999997000000 } }).map
      (fun t => ((t.meters[0]).totaliser, (t.meters[0]).rS, (t.armComp 0).map fun r => (r.acc.g, r.acc.s, r.acc.tempSum)))
      = some (999999999502350, 51550, some (2502350, 2474148, 6098226950)) := by decide +kernel

/-- spec/03, the compare points. -/
theorem test_compare_points :
    (onArm1.startPoint, onArm1.tripDownPoint, onArm1.closePoint) = (50000000, 2850000000, 2994000000) := by
  decide +kernel

/-- spec/03, the closing limit 3 × 3.0 + 2.0 = 11.0 s, at a STOP. -/
theorem test_stop_closing_limit :
    (after (.stop 0 0) (loading .highFlow)).map (fun t => ((t.arms[0]).state, (t.arms[0]).closingLimit))
      = some (.halting, some ⟨0, 1100000⟩) := by decide +kernel

/-- spec/04: 48 shots due, and the points of k = 1, 23, 47, 48. -/
theorem test_schedule :
    shotsDue 3000000000 250 400 = 48 ∧ shotPoint 1 250 400 = 62500000 ∧ shotPoint 23 250 400 = 1437500000
      ∧ shotPoint 47 250 400 = 2937500000 ∧ shotPoint 48 250 400 = 3000000000 := by decide +kernel

/-- spec/04: the target of a shot is 100 pulses, taken by the first request. -/
theorem test_shot_target :
    ((postShot 1 ⟨0, 0, 1, 1, 0⟩ (loading .lowStart)).injectors[1]).current.map Shot.target = some 100 := by
  decide +kernel

/-- spec/04: 102 pulses measure 25,500 µL with no carry. -/
theorem test_shot_measured : measureShot 102 0 4000 = (25500, 0) := by decide +kernel

/-- spec/04: 25,500 µL is a good shot; spec/04, settings: 22,499 µL is a bad one. -/
theorem test_shot_judged : shotIsBad 25500 250 10 102 = false ∧ shotIsBad 22499 250 10 90 = true := by decide +kernel

/-- spec/04: the settle time writes the shot to its line. -/
theorem test_settle_writes :
    (after (.settleTimeExpiry 1) (dosing .after shot1)).map
      (fun t => ((t.lineOf shot1.req).map fun l => (l.delivered, l.measured), (t.injectors[1]).state))
      = some (some (1, 25500), .idle) := by decide +kernel

/-- spec/01, lock and error score, step 131: a lost B edge costs 16 and the lock. -/
theorem test_pattern_violation :
    (PulseInput.pattern { PulseInput.blank with last := .a, cleanPairs := 64 } .a).1
      = { PulseInput.blank with last := .a, cleanPairs := 0, score := 16, locked := false } := by decide +kernel

/-- spec/01, step 132: the clean pair after it. -/
theorem test_pattern_clean_pair :
    (PulseInput.pattern { PulseInput.blank with last := .a, score := 16, locked := false } .b).1
      = { PulseInput.blank with last := .b, cleanPairs := 1, score := 15, locked := false } := by decide +kernel

/-- spec/01, step 129: the 64th clean pair locks. -/
theorem test_pattern_locks :
    (PulseInput.pattern { PulseInput.blank with last := .a, cleanPairs := 63, locked := false } .b).1.locked = true := by
  decide +kernel

/-- spec/01, step 1: the start-of-flow request. -/
theorem test_start_of_flow :
    PulseInput.startOfFlow { PulseInput.blank with last := .b, cleanPairs := 64, score := 3 } true
      = { PulseInput.blank with last := .b, cleanPairs := 0, score := 0, locked := false } := by decide +kernel

/-- spec/01, held temperature: 9000 with the offset 30 is above 9000 and not good. -/
theorem test_reading_too_high : (correct 30 ⟨9000, .good⟩).good = false := by decide +kernel

/-- spec/01: 2410 GOOD gives 2440. -/
theorem test_reading_good :
    (after (.readingRecord 0 (some ⟨2410, .good⟩)) rack).map (fun t => (t.temps[0]).lastGood) = some (some 2440) := by
  decide +kernel

/-- spec/05: START is refused above the quota and changes no figure. -/
theorem test_quota_refused :
    reserve 4102 25000 { rack with permits := [{ permit1 with reserved := 30000 }] }
      = ({ rack with permits := [{ permit1 with reserved := 30000 }] }, .quota) := by decide +kernel

/-- spec/05: the settlement of 29,702 dL. -/
theorem test_settlement :
    Permit.settled { permit1 with reserved := 30000 } 30000 29702 = { permit1 with used := 179702, reserved := 0 } := by
  decide +kernel

/-- spec/05, removing a permit during a session: PERMIT REMOVE makes the entry RETIRING. -/
theorem test_permit_retiring :
    (after (.permitRemove (be 2 4102)) (withSession .loading)).map (fun t => t.permits.map Permit.state)
      = some [.retiring] := by decide +kernel

/-- spec/08, a number wrap: the second filing skips 1. -/
theorem test_number_wrap :
    let held := [999997, 999998, 1].map fun n =>
      { buildNote 0 (session1 .ending) 0 none .complete false with number := n }
    (({ held := held, reserved := 3, next := 999999 } : NoteStore).file
      (buildNote 0 (session1 .ending) 0 none .complete false)).numberFor = 2 := by decide +kernel

/-- spec/09, changing a meter factor table: flows 200, 500, 480 fail check 4 at kind 3, index 2. -/
theorem test_validation_check4 :
    validation { Configuration.factory with
      arms := vset Configuration.factory.arms 1 { testArm1 with
        points := #v[⟨200, 100210⟩, ⟨500, 100105⟩, ⟨480, 100050⟩, ⟨0, 0⟩, ⟨0, 0⟩], productMask := 0 }
      bays := .replicate 4 { BayCfg.factory with enabled := false } } = some (3, 2, 4) := by decide +kernel

/-- spec/10, a poll lost: a frame while a reply is pending is discarded. -/
theorem test_frame_lost :
    exec (.noteRead (be 4 418)) { rack with line := { rack.line with reply := bytesReply 0x60 .ok [] } }
      = .next { rack with line := { rack.line with reply := bytesReply 0x60 .ok [] } } := by rfl

/-- spec/10, a link lost: kind 6F hex is answered UNKNOWN and brings the link ONLINE. -/
theorem test_unknown_brings_link :
    (after (.unknownKind 0x6F []) rack).map (fun t => (t.line.link, t.line.reply))
      = some (.online, some (.sending ⟨0x6F, .unknown, .bytes []⟩)) := by decide +kernel

/-- R169: a new part starts in SETUP with the factory defaults as its working copy. -/
theorem test_start_new_part :
    (after (.startUp []) State.reset).map (fun t => (t.mode, t.relay, t.setup.working))
      = some (.setup, false, some Configuration.factory) := by decide +kernel

/-- R181: the key codes, the keys with one argument carrying the arm first and 0 second. -/
theorem test_key_codes :
    (List.range 9).map (fun code => keyCommand 2 code 3 0)
        = [none, none, some (.start 2 2), some (.stop 2 2), some (.resume 2 2), some (.finish 2 2), none, none, none]
      ∧ keyCommand 2 1 3 4 = some (.select 2 2 3) ∧ keyCommand 2 6 0 0 = some (.endKey 2)
      ∧ keyCommand 2 7 0 0 = some (.resetKey 2) := by decide +kernel

/-- R181: the record of `selectRecord` is SELECT of compartment 1 and arm 1. -/
theorem test_select_record : bayCommand 0 selectRecord = some (.select 0 0 0) := by decide +kernel

/-- R19: an expiry of an unused arm changes no volume, even with a carry above the K in force. -/
theorem test_unused_arm_keeps_volume :
    (after (.intervalExpiry 7) (rack.modMeter 7 fun m => { m with rG := 1700 })).map
      (fun t => ((t.meters[7]).totaliser, (t.meters[7]).unattended, (t.meters[7]).leak, (t.meters[7]).rG))
      = some (0, 0, 0, 1700) := by decide +kernel

/-- R39: a leak volume above the limit raises no LEAK at an expiry that adds nothing. -/
theorem test_leak_waits_for_an_addition :
    (after (.intervalExpiry 0) (rack.modMeter 0 fun m => { m with leak := 9000000 })).map
      (fun t => ((t.meters[0]).leak, (t.inst (.leak 0)).count)) = some (9000000, 0) := by decide +kernel

/-- R144: an instance LATCHED under class LATCHED is a stop effect whatever its kind's class has become. -/
theorem test_latched_keeps_its_class :
    (rack.modInst (.injDose 1) fun x => { x with state := .latched, cls := .latched }).cls (.injDose 1) = .warning
      ∧ isStopEffect (rack.modInst (.injDose 1) fun x => { x with state := .latched, cls := .latched }) (.injDose 1)
        = true := by decide +kernel

/-! ### Witnesses of the statements' hypotheses -/

/-- A state in service with nothing in flight, for the hypotheses that ask no more. -/
theorem rack_ready : Ready rack := ⟨rfl, rfl⟩

theorem withSession_ready (st : SessionState) : Ready (withSession st) := ⟨rfl, rfl⟩

theorem loading_ready (st : ArmState) : Ready (loading st) := ⟨rfl, rfl⟩

theorem dosing_ready (st : InjState) (x : Shot) : Ready (dosing st x) := ⟨rfl, rfl⟩

theorem inMode_ready (m : Mode) : Ready (inMode m) := ⟨rfl, rfl⟩

theorem inMode_free (m : Mode) : LineFree (inMode m) := ⟨nofun, rfl⟩

theorem starting_free (c : StartCause) : LineFree (starting c) := ⟨nofun, rfl⟩

/-- In RUN every kind is handled by its owner. -/
theorem rack_taken (kind : Byte) : Taken kind rack := ⟨rack_ready, ⟨nofun, rfl⟩, rfl⟩

theorem stocked_taken (kind : Byte) : Taken kind stocked := ⟨⟨rfl, rfl⟩, ⟨nofun, rfl⟩, rfl⟩

theorem withSession_taken (kind : Byte) (st : SessionState) : Taken kind (withSession st) :=
  ⟨⟨rfl, rfl⟩, ⟨nofun, rfl⟩, rfl⟩

theorem tripping_taken (kind : Byte) : Taken kind (inMode .tripping) := ⟨⟨rfl, rfl⟩, ⟨nofun, rfl⟩, rfl⟩

theorem tripped_taken (kind : Byte) : Taken kind (inMode .tripped) := ⟨⟨rfl, rfl⟩, ⟨nofun, rfl⟩, rfl⟩

theorem setup_taken (kind : Byte) : Taken kind (inMode .setup) := ⟨⟨rfl, rfl⟩, ⟨nofun, rfl⟩, rfl⟩

/-- A command waits. -/
def queued (s : State) : State := { s with pending := [.startByte] }

theorem witness_StepPerformsTheFrontCommand : (queued rack).pending = [.startByte] := rfl

theorem witness_IdleStepLetsTimePass :
    ({ rack with phase := .off } : State).pending = [] ∧ (starting .power).pending = []
      ∧ (starting .power).phase = .starting .power ∧ rack.pending = [] ∧ rack.phase = .service ∧ due rack = [] := by
  decide +kernel

theorem witness_SettlingKeepsTheInputs : rack.inbox = [] := rfl

/-- Arm 1 in HIGH_FLOW with its command. -/
def flowing : State := loadingArm .highFlow fun x => { x with command := .high }

theorem witness_OutOfServiceStaysSafe :
    OutOfServiceIsSafe (queued (inMode .setup)) ∧ (queued (inMode .setup)).mode.mayFlow = false
      ∧ (∃ t, step (queued (inMode .setup)) = .next t) ∧ StagesFollow (queued flowing)
      ∧ (∃ t, step (queued flowing) = .next t) ∧ (inMode .setup).mode ≠ .run ∧ InjectorsAtRest (inMode .setup)
      ∧ ∃ t, exec (.intervalExpiry 0) (inMode .setup) = .next t :=
  ⟨fun _ => ⟨by decide +kernel, by decide +kernel, rfl⟩, rfl, ⟨_, rfl⟩, fun a => by revert a; decide +kernel, ⟨_, rfl⟩,
    by decide, fun i => by revert i; decide +kernel, _, rfl⟩

theorem witness_PulseInputsStayBounded : PulsesBounded (queued rack) ∧ ∃ t, step (queued rack) = .next t :=
  ⟨fun a => by revert a; simp only [PulseInput.Bounded]; decide +kernel, _, rfl⟩

theorem witness_PermitTableStaysLawful : PermitsLawful (queued stocked) ∧ ∃ t, step (queued stocked) = .next t :=
  ⟨⟨by simp only [TableLawful]; decide +kernel, fun ps h => (nomatch (h : (none : Option (List Permit)) = some ps)),
    fun x h => (nomatch (h : x ∈ ([] : List Retained)))⟩, _, rfl⟩

theorem witness_InjectorQueuesStayBounded :
    QueuesBounded (queued (dosing .shot shot1)) ∧ ∃ t, step (queued (dosing .shot shot1)) = .next t :=
  ⟨fun i => by revert i; decide +kernel, _, rfl⟩

theorem witness_StageOutputsCodeTheCommand :
    ((loadingArm .idle fun x => { x with command := .close }).arms[0]).command = .close
      ∧ ((loadingArm .lowStart fun x => { x with command := .low }).arms[0]).command = .low
      ∧ ((loadingArm .highFlow fun x => { x with command := .high }).arms[0]).command = .high := by decide +kernel

theorem witness_StartUpBeginsInTheSafeState :
    ({ rack with line := { rack.line with reply := bytesReply 0x7F .ok [] } } : State).line.reply
      = some (.sending ⟨0x7F, .ok, .bytes []⟩) ∧ rack.phase ≠ .off := by decide +kernel

theorem witness_PowerLossKeepsRetainedMemory :
    ({ rack with undo := [Retained.newPart] } : State).undo = [Retained.newPart] := rfl

/-- A part that was cut off while loading at bay 1, its permit and its note store in retained memory. -/
def cutOff (cause : StartCause) : State :=
  { starting cause with
    nv := { Retained.newPart with
      permits := some (withSession .loading).permits, notes := some ([], 7)
      sessions := vset (.replicate 4 none) 0 (some (session1 .loading))
      totals := vset (.replicate 8 none) 0 (some ⟨5, 6, 0, 0⟩) } }

/-- Its notes and its permit once it has started. -/
theorem test_start_files_the_session :
    ((after (.startUp []) (cutOff .restart)).map fun t => t.notes.held.map fun n => (n.number, n.cause))
        = some [(7, .restart)]
      ∧ ((after (.startUp []) (cutOff .restart)).map fun t => t.notes.held.flatMap fun n => n.lines.map NoteLine.endReason)
        = some [some .stopped]
      ∧ ((after (.startUp []) (cutOff .restart)).map fun t => t.permits.map fun p => (p.used, p.reserved))
        = some [(150000, 0)] := by decide +kernel

theorem witness_StartUpEndsClean :
    (cutOff .power).phase = .starting .power ∧ (cutOff .power).inbox = [] ∧ (cutOff .power).pins.estop = true
      ∧ (cutOff .power).nv.sessions[0] = some (session1 .loading) ∧ ((session1 .loading).comps.map CompRec.no).Nodup
      ∧ (comp1.state = .onArm ∧ comp1.started = true ∧ comp1.arm ≠ none)
      ∧ (cutOff .power).nv.permits = some (withSession .loading).permits ∧ TableLawful (withSession .loading).permits
      ∧ ∀ p ∈ (withSession .loading).permits, p.state ≠ .retiring ∧ p.used ≤ 4294967295 := by
  simp only [TableLawful]; decide +kernel

theorem witness_RestartIsTakenInEveryMode :
    LineFree rack ∧ Ready rack ∧ LineFree (starting .restart) ∧ (starting .restart).phase = .starting .restart
      ∧ (⟨0x01, .ok, .bytes []⟩ : Reply).kind ≠ 0x7F :=
  ⟨inMode_free .run, rack_ready, starting_free _, rfl, by decide⟩

theorem witness_PulsePinStartsItsFilter :
    Ready rack ∧ (rack.armCfg 0).used = true ∧ (rack.armCfg 0).dual = true ∧ (rack.armCfg 7).used = false
      ∧ (rack.armCfg 1).used = true ∧ (rack.armCfg 1).dual = false ∧ (rack.injCfg 1).used = true
      ∧ (rack.injCfg 0).used = false := ⟨rack_ready, by decide +kernel⟩

theorem witness_FallingEdgeOnlyLowersTheLevel :
    Ready rack ∧ (rack.armCfg 0).used = true ∧ (rack.armCfg 0).dual = true ∧ (rack.injCfg 1).used = true :=
  ⟨rack_ready, by decide +kernel⟩

/-- Arm 1's pulse input changed. -/
def pulsing (f : PulseInput → PulseInput) : State := rack.modPulse 0 f

theorem witness_EdgesOnChannelAAreCounted :
    Ready (pulsing id) ∧ ((pulsing id).armCfg 0).used = true ∧ ((pulsing id).armCfg 0).dual = true
      ∧ ((pulsing fun x => { x with count := 65535, saturated := true }).pulses[0]).saturated = true
      ∧ ((pulsing fun x => { x with count := 65533 }).pulses[0]).saturated = false
      ∧ ((pulsing fun x => { x with count := 65533 }).pulses[0]).count < 65534
      ∧ ((pulsing fun x => { x with count := 65534 }).pulses[0]).saturated = false
      ∧ 65534 ≤ ((pulsing fun x => { x with count := 65534 }).pulses[0]).count
      ∧ ((pulsing id).armCfg 1).dual = false ∧ ((pulsing id).armCfg 7).used = false := ⟨⟨rfl, rfl⟩, by decide +kernel⟩

theorem witness_PatternCheckerFollowsTheTable :
    Ready (pulsing id) ∧ ((pulsing id).armCfg 0).used = true ∧ ((pulsing id).armCfg 0).dual = true
      ∧ ((pulsing id).pulses[0]).last = .none
      ∧ ((pulsing fun x => { x with last := .b }).pulses[0]).last = .b
      ∧ ((pulsing fun x => { x with last := .a, cleanPairs := 63 }).pulses[0]).last = .a
      ∧ ((pulsing fun x => { x with last := .a, score := 239 }).pulses[0]).score + 16 < 256
      ∧ 256 ≤ ((pulsing fun x => { x with last := .a, score := 240 }).pulses[0]).score + 16 :=
  ⟨⟨rfl, rfl⟩, by decide +kernel⟩

theorem witness_ReadingsAreJudgedAndTimed :
    Ready rack ∧ (rack.armCfg 0).used = true ∧ isRunning (rack.temps[0]).recordTimer = true
      ∧ (correct 30 ⟨8970, .good⟩).good = true ∧ (correct 30 ⟨8971, .good⟩).good = false :=
  ⟨rack_ready, by decide +kernel⟩

theorem witness_FlowRateIsClamped :
    Ready rack ∧ (rack.armCfg 0).used = true ∧ ∃ t, exec (.intervalExpiry 0) rack = .next t :=
  ⟨rack_ready, by decide +kernel, _, rfl⟩

theorem witness_IntervalLosesNoVolume : Ready rack ∧ (rack.armCfg 0).used = true ∧ 0 < (rack.armCfg 0).k :=
  ⟨rack_ready, by decide +kernel⟩

theorem witness_IntervalPlacesItsVolume :
    Ready rack ∧ Ready (loading .highFlow) ∧ (rack.armCfg 0).used = true ∧ (rack.arms[0]).state = .idle
      ∧ (rack.arms[0]).state.leakWatched = true ∧ (intervalGross (rack.armCfg 0) 0 0).dg = 0
      ∧ 0 < (intervalGross (rack.armCfg 0) 12 0).dg
      ∧ ((loading .highFlow).armCfg 0).used = true ∧ ((loading .highFlow).arms[0]).state ≠ .idle
      ∧ ((loading .highFlow).arms[0]).state.leakWatched = false
      ∧ ((loading .highFlow).armComp 0).map (fun r => r.acc.g) = some 0
      ∧ ((loading .highFlow).arms[0]).comp = some onArm1
      ∧ (loading .highFlow).compRec onArm1.bay onArm1.comp = some comp1
      ∧ comp1.acc.s + 2474148 < 18446744073709551616 ∧ comp1.acc.tempSum + 2502350 * 2437 < 9223372036854775808
      ∧ (intervalGross (rack.armCfg 0) 12 0).dg + 4989975 = (rack.armCfg 0).unattendedLimit * 100000 :=
  ⟨rack_ready, loading_ready _, by decide +kernel⟩

theorem witness_ReportsMoveTheArmForward :
    Ready (loading .lowStart) ∧ ((loading .lowStart).armCfg 0).used = true
      ∧ ((loading .lowStart).arms[0]).state.flowing = true ∧ ((loading .lowStart).arms[0]).comp = some onArm1
      ∧ ((loading .lowStart).armComp 0).isSome = true := ⟨loading_ready _, by decide +kernel⟩

theorem witness_SwitchesAreComparedAfterTravel :
    Ready rack ∧ Ready (loadingArm .armed fun x => { x with travel := some ⟨0, 300000⟩ })
      ∧ (rack.armCfg 0).used = true ∧ (rack.arms[0]).travel = none
      ∧ ((loadingArm .armed fun x => { x with travel := some ⟨0, 300000⟩ }).arms[0]).travel ≠ none
      ∧ isRunning ((loadingArm .armed fun x => { x with travel := some ⟨0, 300000⟩ }).arms[0]).travel = true :=
  ⟨rack_ready, ⟨rfl, rfl⟩, by decide +kernel⟩

/-- Arm 1 closing or halting with its limit timer running. -/
def limited (st : ArmState) (shots : Nat) : State :=
  loadingArm st fun x => { x with closingLimit := some ⟨0, 1100000⟩, outstanding := shots }

theorem witness_ArmTimersAndTheSettledTest :
    Ready (loadingArm .highFlow fun x => { x with noFlowTimer := some ⟨499999, 500000⟩ })
      ∧ ((loadingArm .highFlow fun x => { x with noFlowTimer := some ⟨499999, 500000⟩ }).arms[0]).quiet < 200000
      ∧ ((loadingArm .highFlow fun x => { x with noFlowTimer := some ⟨499999, 500000⟩ }).arms[0]).noFlowTimer
          = some ⟨499999, 500000⟩
      ∧ ((loadingArm .highFlow fun x => { x with noFlowTimer := some ⟨499999, 500000⟩ }).arms[0]).noFlowCond = false
      ∧ valveSettled (loadingArm .halting fun x => { x with quiet := 200000 }) 0 = true
      ∧ valveSettled (loadingArm .halting fun x => { x with quiet := 199999 }) 0 = false
      ∧ valveSettled (limited .closing 0) 0 = false
      ∧ hasRunOut ((limited .closing 0).arms[0]).closingLimit = false
      ∧ ((limited .closing 1).arms[0]).outstanding ≠ 0
      ∧ hasRunOut ((loadingArm .closing fun x => { x with closingLimit := some ⟨5, 5⟩ }).arms[0]).closingLimit = true
      ∧ valveSettled (loadingArm .closing fun x => { x with quiet := 200000 }) 0 = true
      ∧ ((loading .closing).arms[0]).outstanding = 0 ∧ ((loading .closing).arms[0]).comp = some onArm1
      ∧ (loading .closing).compRec onArm1.bay onArm1.comp = some comp1
      ∧ ((loading .held).arms[0]).state ≠ .closing ∧ ((loading .held).arms[0]).state ≠ .halting :=
  ⟨⟨rfl, rfl⟩, by decide +kernel⟩

theorem witness_ClosingLimitEndsTheWait :
    Ready (limited .closing 0) ∧ ((limited .closing 0).armCfg 0).used = true
      ∧ isRunning ((limited .closing 0).arms[0]).closingLimit = true
      ∧ ((limited .closing 0).arms[0]).comp = some onArm1
      ∧ (limited .closing 0).compRec onArm1.bay onArm1.comp = some comp1
      ∧ ((limited .closing 0).arms[0]).outstanding = 0 ∧ 0 < ((limited .closing 1).arms[0]).outstanding
      ∧ ((limited .halting 0).arms[0]).state = .halting := ⟨⟨rfl, rfl⟩, by decide +kernel⟩

/-- Arm 1 HELD in an ending session. -/
def heldEnding : State :=
  (withSession .ending).modArm 0 fun x => { x with state := .held, comp := some onArm1 }

theorem witness_CompletionClosesTheCompartment :
    Ready (loadingArm .closing fun x => { x with quiet := 200000 }) ∧ Ready heldEnding
      ∧ SessionIn heldEnding onArm1.bay .ending
      ∧ ((loadingArm .closing fun x => { x with quiet := 200000 }).arms[0]).comp = some onArm1
      ∧ valveSettled (loadingArm .closing fun x => { x with quiet := 200000 }) 0 = true
      ∧ ((loadingArm .closing fun x => { x with quiet := 200000 }).arms[0]).outstanding = 0
      ∧ (loadingArm .closing fun x => { x with quiet := 200000 }).compRec 0 1 = some comp1
      ∧ (heldEnding.arms[0]).state = .held ∧ heldEnding.compRec 0 1 = some comp1 :=
  ⟨⟨rfl, rfl⟩, ⟨rfl, rfl⟩, by simp only [SessionIn]; decide +kernel, by decide +kernel⟩

/-- Arm 1 waiting for pump 3. -/
def waitingArm : State :=
  (loadingArm .lowStart fun x => { x with waiting := true }).modPump 2 fun u =>
    { u with state := .running, demand := 1, run := some 299999, waiting := [0] }

theorem witness_PumpDelaysEnd :
    Ready waitingArm ∧ Ready (rack.modPump 2 fun u => { u with state := .runDown })
      ∧ (waitingArm.armCfg 0).used = true ∧ waitingArm.mode.mayFlow = true
      ∧ (waitingArm.arms[0]).state = .lowStart ∧ (waitingArm.arms[0]).waiting = true
      ∧ (waitingArm.arms[0]).command = .close ∧ pumpOf waitingArm 0 = some 2 ∧ 0 ∈ (waitingArm.pumps[2]).waiting
      ∧ (waitingArm.pumps[2]).run.isSome = true
      ∧ ((rack.modPump 2 fun u => { u with state := .runDown }).pumps[2]).state = .runDown :=
  ⟨⟨rfl, rfl⟩, ⟨rfl, rfl⟩, by decide +kernel⟩

theorem witness_AdditivePulsesCountByState :
    Ready (dosing .shot { shot1 with pulses := 98 }) ∧ ((dosing .shot shot1).injCfg 1).used = true
      ∧ ((dosing .shot { shot1 with pulses := 98 }).injectors[1]).state = .shot
      ∧ ({ shot1 with pulses := 98 } : Shot).pulses + 1 < shot1.target
      ∧ shot1.target ≤ ({ shot1 with pulses := 99 } : Shot).pulses + 1
      ∧ ((dosing .after shot1).injectors[1]).state = .after
      ∧ ((dosing .after shot1).injectors[1]).current = some shot1 ∧ (rack.injectors[1]).state = .idle
      ∧ (19 + 1) * 1000000 / (rack.injCfg 1).kAdd ≤ (rack.injCfg 1).leakLimit * 100
      ∧ (rack.injCfg 1).leakLimit * 100 < (20 + 1) * 1000000 / (rack.injCfg 1).kAdd
      ∧ (rack.injCfg 0).used = false := ⟨⟨rfl, rfl⟩, by decide +kernel⟩

/-- Injector 2 with a shot and a full queue. -/
def fullQueue (st : InjState) : State :=
  (dosing st shot1).modInj 1 fun x => { x with queue := [1, 2, 3, 4].map fun k => { shot1.req with k := k } }

theorem witness_ShotEndsAndIsJudged :
    Ready (dosing .shot shot1) ∧ ((dosing .shot shot1).injectors[1]).state = .shot
      ∧ ((dosing .shot shot1).injectors[1]).current = some shot1
      ∧ ({ shot1 with ending := some .trip } : Shot).ending = some .trip ∧ shot1.ending ≠ some .trip
      ∧ shotIsBad 27500 250 (rack.injCfg 1).tolerance 110 = false
      ∧ shotIsBad 27501 250 (rack.injCfg 1).tolerance 110 = true
      ∧ ((dosing .after shot1).injectors[1]).badCount + 1 < ((dosing .after shot1).injCfg 1).badLimit
      ∧ ((dosing .after shot1).injCfg 1).badLimit
          ≤ (((dosing .after shot1).modInj 1 fun x => { x with badCount := 2 }).injectors[1]).badCount + 1
      ∧ ((loading .lowStart).lineOf shot1.req).isSome = true ∧ (loading .lowStart).mode = .run
      ∧ ((loading .lowStart).injectors[1]).queue.length < 4 ∧ ((loading .lowStart).injectors[1]).queue = []
      ∧ ((loading .lowStart).injectors[1]).state = .idle ∧ (inMode .tripping).mode ≠ .run
      ∧ 4 ≤ ((fullQueue .after).injectors[1]).queue.length ∧ ((fullQueue .after).injectors[1]).state ≠ .idle
      ∧ ArmState.lowStart.flowingOrClosing = true ∧ ArmState.held.flowingOrClosing = false
      ∧ ((loading .lowStart).arms[0]).comp = some onArm1
      ∧ (loading .lowStart).compRec onArm1.bay onArm1.comp = some comp1
      ∧ ((loading .lowStart).lineOf ⟨0, onArm1.bay, onArm1.comp, 1, 0⟩).isSome = true
      ∧ (loading .lowStart).armComp 0 = some comp1 ∧ comp1.names 1 = true
      ∧ ((fullQueue .shot).injCfg 1).used = true ∧ ((fullQueue .shot).injectors[1]).state = .shot
      ∧ ((fullQueue .shot).injectors[1]).current.isSome = true := ⟨⟨rfl, rfl⟩, by decide +kernel⟩

theorem witness_SettledShotIsMeasured :
    Ready (dosing .after shot1) ∧ 0 < ((dosing .after shot1).injCfg 1).kAdd
      ∧ ((dosing .after shot1).injectors[1]).state = .after
      ∧ ((dosing .after shot1).injectors[1]).current = some shot1
      ∧ (dosing .after shot1).lineOf shot1.req = (formLines testProduct 30000).head?
      ∧ 0 + (shot1.pulses * 1000000 + ((dosing .after shot1).injectors[1]).carry) / 4000 < 18446744073709551616
      ∧ ((dosing .after shot1).injectors[1]).queue = []
      ∧ (((dosing .after shot1).modInj 1 fun x => { x with queue := [shot1.req] }).injectors[1]).queue
          = shot1.req :: [] := ⟨⟨rfl, rfl⟩, by decide +kernel⟩

theorem witness_PermitInputsAreReported :
    Ready rack ∧ permitLevel rack 0 .ground ≠ false ∧ permitLevel rack 0 .ground = true :=
  ⟨rack_ready, by decide +kernel⟩

/-- Bay 1's deadman timer at a time, with a violation count. -/
def watched (elapsed count : Nat) : State :=
  (loading .highFlow).modBay 0 fun x => { x with deadman := some ⟨elapsed, 5000000⟩, violations := count }

theorem witness_DeadmanPressesAreJudged :
    Ready (watched 0 0) ∧ ((watched 0 0).bays[0]).deadman = some ⟨0, 5000000⟩
      ∧ windowTicks ((watched 0 0).bayCfg 0) ≤ 3750000 ∧ 3749999 < windowTicks ((watched 0 0).bayCfg 0)
      ∧ ((watched 0 1).bays[0]).violations + 1 < ((watched 0 1).bayCfg 0).deadmanLimit
      ∧ ((watched 0 2).bayCfg 0).deadmanLimit ≤ ((watched 0 2).bays[0]).violations + 1
      ∧ ((loading .held).bays[0]).deadman = none ∧ sessionRuns (loading .held) 0 = true
      ∧ maskHas ((loading .held).bayCfg 0).activity (2 : Fin 5) = true := ⟨⟨rfl, rfl⟩, by decide +kernel⟩

/-- Bay 1's idle timers at a time. -/
def idling (elapsed : Nat) : State :=
  (withSession .loading).modBay 0 fun x =>
    { x with attention := some ⟨elapsed, 12000000⟩, abandon := some ⟨elapsed, 60000000⟩ }

theorem witness_IdleTimersAct :
    Ready (idling 11999999) ∧ sessionRuns (idling 11999999) 0 = true
      ∧ ((idling 11999999).bays[0]).attention = some ⟨11999999, 12000000⟩
      ∧ isRunning ((idling 11999999).bays[0]).abandon = true := ⟨⟨rfl, rfl⟩, by decide +kernel⟩

/-- Bay 1's session ending in the second stage of a trip. -/
def tripping2 : State :=
  { withSession .ending with
    mode := .tripping, relay := false
    trip := { cause := .host, delay := none, stageTwo := true, awaiting := [0] } }

theorem witness_FilingLeavesTheBayVacant :
    Ready (withSession .ending) ∧ TableLawful (withSession .ending).permits
      ∧ (withSession .ending).session 0 = some (session1 .ending)
      ∧ bayIdle (withSession .ending) 0 = true
      ∧ (∀ i ∈ (session1 .ending).injs, holdsShotOf (withSession .ending) 0 i = false)
      ∧ (withSession .ending).mode ≠ .tripping ∧ (withSession .ending).notes.held.length ≤ 64
      ∧ 1 ≤ (withSession .ending).notes.next ∧ (withSession .ending).notes.next ≤ 999999
      ∧ (tripping2.mode = .tripping ∧ tripping2.trip.stageTwo = true ∧ bayIdle tripping2 0 = true) :=
  ⟨⟨rfl, rfl⟩, by simp only [TableLawful]; decide +kernel, by decide +kernel⟩

theorem witness_CardOpensASession :
    Ready stocked ∧ cardBayCheck stocked 0 = none ∧ findToken stocked.permits 77 = some permit1
      ∧ findPermit stocked.permits permit1.number = some permit1 ∧ cardPermitCheck stocked 0 permit1 = none
      ∧ oldestUsable stocked permit1.number 0 permit1.productMask = some order1 ∧ 0 < stocked.notes.free :=
  ⟨⟨rfl, rfl⟩, by decide +kernel⟩

/-- The stocked rack with every note slot reserved. -/
def fullStore : State := { stocked with notes := { stocked.notes with reserved := 64 } }

/-- The permit table of the stocked rack is lawful, whatever its orders and notes. -/
theorem stocked_lawful {orders : List Order} (notes : NoteStore) :
    PermitsLawful { stocked with orders := orders, notes := notes } :=
  ⟨by simp only [TableLawful]; decide +kernel, fun ps h => (nomatch (h : (none : Option (List Permit)) = some ps)),
    fun x h => (nomatch (h : x ∈ ([] : List Retained)))⟩

theorem witness_RefusedInputChangesNoRecord :
    Ready (inMode .tripped) ∧ Ready (withSession .loading) ∧ PermitsLawful { stocked with orders := [] }
      ∧ PermitsLawful fullStore
      ∧ ((withSession .loading).session 0).isSome = true ∧ (inMode .tripped).session 0 = none
      ∧ cardBayCheck (inMode .tripped) 0 = some .rackNotReady ∧ cardBayCheck rack 0 = none
      ∧ findToken rack.permits 77 = none ∧ findToken stocked.permits 77 = some permit1
      ∧ cardPermitCheck stocked 0 { permit1 with state := .suspended } = some .permitSuspended
      ∧ cardPermitCheck { stocked with orders := [] } 0 permit1 = none
      ∧ oldestUsable { stocked with orders := [] } permit1.number 0 permit1.productMask = none
      ∧ cardBayCheck fullStore 0 = none ∧ findToken fullStore.permits 77 = some permit1
      ∧ cardPermitCheck fullStore 0 permit1 = none
      ∧ oldestUsable fullStore permit1.number 0 permit1.productMask = some order1
      ∧ (∀ y ∈ fullStore.orders, y.number = order1.number → y.active = false ∧ y.sessionBay = none)
      ∧ fullStore.notes.free = 0 :=
  ⟨inMode_ready _, ⟨rfl, rfl⟩, stocked_lawful _, stocked_lawful _, by decide +kernel⟩

/-- The session with its compartment not yet selected. -/
def connecting : State :=
  (withSession .connecting).modComp 0 1 fun r => { r with state := .notStarted, arm := none, started := false }

theorem witness_SelectAssignsTheCompartment :
    Ready connecting ∧ sessionRuns connecting 0 = true ∧ (connecting.compRec 0 1).map CompRec.state = some .notStarted
      ∧ (connecting.armCfg 0).bay = some 0 ∧ (connecting.arms[0]).state = .idle
      ∧ ((connecting.compRec 0 1).map fun r => maskHas (connecting.armCfg 0).productMask r.product) = some true
      ∧ Ready rack ∧ rack.session 0 = none ∧ Ready (withSession .ending) ∧ SessionIn (withSession .ending) 0 .ending
      ∧ connecting.compRec 0 2 = none ∧ Ready (loading .held)
      ∧ ((loading .held).compRec 0 1).map CompRec.state = some .onArm ∧ (connecting.armCfg 7).bay ≠ some 0
      ∧ (connecting.modComp 0 1 fun r => { r with product := 5 }).compRec 0 1
          = (connecting.compRec 0 1).map (fun r => { r with product := 5 })
      ∧ maskHas (connecting.armCfg 0).productMask (5 : Fin 12) = false :=
  ⟨⟨rfl, rfl⟩, by simp only [SessionIn, Ready]; decide +kernel⟩

/-- Arm 1 ARMED, its preset not yet reserved. -/
def armed : State := { loading .armed with permits := [{ permit1 with openSession := some 0 }] }

/-- The same with a product that no pump feeds. -/
def unpumped : State :=
  { armed with
    setup := { armed.setup with
      active := some { rackCfg with products := vset rackCfg.products 0 { testProduct with pump := none } } } }

/-- A rack whose instances are all NORMAL has no stop effect. -/
theorem normal_stops {s : State} (h : ∀ i, s.inst i = Instance.blank) (a : ArmNo) (b : BayNo) (i : InstId) :
    ¬StopsAt s a b i := by
  rintro ⟨_, h', _⟩
  simp [h i, Instance.blank] at h'

theorem armed_normal (i : InstId) : armed.inst i = Instance.blank :=
  (Vector.getElem_replicate (i := i.slot.val) i.slot.isLt : (Vector.replicate 83 Instance.blank)[i.slot.val] = _)

theorem unpumped_normal (i : InstId) : unpumped.inst i = Instance.blank := armed_normal i

/-- Arm 1 ARMED, with a change of its bay's permit inputs. -/
def armedPins (ground overfill vapour : Bool) : State :=
  { armed with pins := { armed.pins with
      ground := vset armed.pins.ground 0 ground, overfill := vset armed.pins.overfill 0 overfill
      vapour := vset armed.pins.vapour 0 vapour } }

/-- Arm 1 ARMED at a bay that uses vapour recovery, with its vapour input off. -/
def vapourOff : State :=
  { armedPins true true false with
    setup := { armed.setup with
      active := some { rackCfg with bays := vset rackCfg.bays 0 { rackCfg.bays[0] with vapourUsed := true } } } }

/-- Arm 1 ARMED while ESTOP, of class LATCHED, is ACTIVE. -/
def armedStopped : State := armed.modInst .estop fun x => { x with state := .active, cls := .latched }

theorem armedStopped_first : FirstStop armedStopped 0 0 .estop :=
  ⟨⟨by decide +kernel, by decide +kernel, trivial⟩, fun j _ => by cases j <;> simp [InstId.kind, InstId.unit]⟩

theorem armed_passes : FlowChecksPass armed 0 0 .armed :=
  ⟨by decide +kernel, by decide +kernel, by decide +kernel, by decide +kernel, by simp only [PresentAt]; decide +kernel,
    by simp only [PresentAt]; decide +kernel, by simp only [PresentAt]; decide +kernel,
    normal_stops armed_normal _ _, by decide +kernel⟩

theorem witness_StartBeginsTheLoad :
    Ready armed ∧ FlowChecksPass armed 0 0 .armed ∧ (armed.arms[0]).comp = some onArm1 ∧ onArm1.bay = 0
      ∧ armed.compRec 0 onArm1.comp = some comp1
      ∧ findPermit armed.permits (sessionPermit armed 0) = some { permit1 with openSession := some 0 }
      ∧ permit1.state = .active ∧ permit1.used + permit1.reserved + onArm1.preset ≤ permit1.quota
      ∧ pumpOf armed 0 = some 2 ∧ armed.trip.stageTwo = false ∧ Pump.blank.demanded.runReached 300000 = false
      ∧ ({ Pump.blank with state := .running, run := some 300000 } : Pump).runReached (startDelayOf armed 0) = true
      ∧ pumpOf unpumped 0 = none ∧ flowRefusal unpumped 0 0 .armed = none ∧ flowRefusal armed 0 0 .armed = none :=
  ⟨⟨rfl, rfl⟩, armed_passes, by decide +kernel⟩

/-- The checks of R112 one by one, each state failing one and passing those before it. -/
theorem witness_StartBeginsTheLoad_refusals :
    FirstStop armedStopped 0 0 .estop ∧ (∀ i, ¬StopsAt { armed with temps := State.reset.temps } 0 0 i)
      ∧ ({ armed with temps := State.reset.temps } : State).temps[0].lastGood = none
      ∧ flowRefusal rack 0 0 .armed = some (.notOpen, [])
      ∧ flowRefusal (withSession .ending) 0 0 .armed = some (.alreadyEnding, [])
      ∧ flowRefusal armed 0 7 .armed = some (.armBusy, [8]) ∧ flowRefusal armed 0 1 .armed = some (.notReady, [2])
      ∧ flowRefusal { armed with mode := .tripping } 0 0 .armed = some (.rackNotReady, [])
      ∧ flowRefusal (armedPins false false false) 0 0 .armed = some (.permissive, [1])
      ∧ flowRefusal (armedPins true false false) 0 0 .armed = some (.permissive, [2])
      ∧ flowRefusal vapourOff 0 0 .armed = some (.permissive, [3])
      ∧ flowRefusal armedStopped 0 0 .armed = some (.supervision, [1, 1])
      ∧ flowRefusal { armed with temps := State.reset.temps } 0 0 .armed = some (.probe, [1])
      ∧ ({ permit1 with quota := 150000 } : Permit).quota < permit1.used + permit1.reserved + onArm1.preset :=
  ⟨armedStopped_first, normal_stops armed_normal _ _, by decide +kernel⟩

/-- Arm 1 HELD, its permit in a state. -/
def heldUnder (st : PermitState) : State :=
  { loading .held with permits := [{ permit1 with openSession := some 0, reserved := 30000, state := st }] }

theorem heldUnder_passes (st : PermitState) : FlowChecksPass (heldUnder st) 0 0 .held :=
  ⟨by cases st <;> decide +kernel, by cases st <;> decide +kernel, by cases st <;> decide +kernel,
    by cases st <;> decide +kernel, armed_passes.2.2.2.2.1, armed_passes.2.2.2.2.2.1, armed_passes.2.2.2.2.2.2.1,
    normal_stops armed_normal _ _, by cases st <;> decide +kernel⟩

theorem witness_ResumeContinuesTheLoad :
    Ready (heldUnder .active) ∧ FlowChecksPass (heldUnder .active) 0 0 .held
      ∧ FlowChecksPass (heldUnder .retiring) 0 0 .held ∧ ((heldUnder .active).arms[0]).comp = some onArm1
      ∧ (findPermit (heldUnder .active).permits (sessionPermit (heldUnder .active) 0)).map Permit.state = some .active
      ∧ (findPermit (heldUnder .retiring).permits (sessionPermit (heldUnder .retiring) 0)).map Permit.state
          = some .retiring ∧ ((loading .halting).arms[0]).state ≠ .held :=
  ⟨⟨rfl, rfl⟩, heldUnder_passes _, heldUnder_passes _, by decide +kernel⟩

theorem witness_StopHaltsAndFinishCompletes :
    Ready (loading .lowFinish) ∧ ((loading .lowFinish).session 0).isSome = true
      ∧ (loading .lowFinish).armOfBay 0 0 = true ∧ ((loading .lowFinish).arms[0]).state.flowing = true
      ∧ ((loading .closing).arms[0]).state.flowing = false ∧ ((loading .held).arms[0]).state = .held
      ∧ ((loading .held).arms[0]).comp = some onArm1 ∧ (loading .held).compRec onArm1.bay onArm1.comp = some comp1
      ∧ ((loading .closing).arms[0]).state ≠ .held := ⟨⟨rfl, rfl⟩, by decide +kernel⟩

/-- The session's one compartment is COMPLETE, its bay not yet told. -/
def finished : State :=
  (withSession .loading).modComp 0 1 fun r =>
    { r with state := .complete, result := some (compResult r.acc 0 none false false), endReason := some .preset }

theorem witness_EndingIsEnteredOnce :
    Ready (withSession .loading) ∧ SessionIn (withSession .ending) 0 .ending ∧ SessionIn heldEnding 0 .ending
      ∧ Taken 0x50 (withSession .loading) ∧ Taken 0x50 (withSession .ending) ∧ Taken 0x50 rack
      ∧ sessionRuns (withSession .loading) 0 = true ∧ rack.session 0 = none
      ∧ ((loading .lowStart).arms[0]).state.flowing = true ∧ ((loading .armed).arms[0]).state = .armed
      ∧ ((loading .armed).arms[0]).comp = some onArm1
      ∧ (loading .armed).compRec onArm1.bay onArm1.comp = some comp1 ∧ ((loading .held).arms[0]).state ≠ .armed
      ∧ (heldEnding.armCfg 0).bay = some 0 ∧ (heldEnding.arms[0]).state = .held
      ∧ ((finished.session 0).bind fun x => x.comp 1).isSome = true
      ∧ ((finished.compRec 0 1).map fun r => (r.state, r.result.isSome)) = some (.complete, true) :=
  ⟨⟨rfl, rfl⟩, by simp only [SessionIn]; decide +kernel, by simp only [SessionIn]; decide +kernel,
    withSession_taken _ _, withSession_taken _ _, rack_taken _, by decide +kernel⟩

/-- An instance in a state, with its condition. -/
def withInst (i : InstId) (st : InstState) (cond : Bool) : State :=
  rack.modInst i fun x => { x with state := st, cond := cond, timer := some ⟨9999, 10000⟩, cls := rack.cls i }

theorem witness_LevelInstancesFollowTheirTable :
    Ready rack ∧ (rack.inst .estop).state = .normal ∧ (rack.inst .estop).cond = false
      ∧ 0 < (rack.supCfg .estop).filter ∧ ((withInst .estop .active true).inst .estop).cond = true
      ∧ (rack.inst (.valve 0)).state = .normal ∧ (rack.inst (.valve 0)).cond = false ∧ (rack.supCfg (.valve 0)).filter = 0
      ∧ ((withInst (.noFlow 0) .active true).inst (.noFlow 0)).state = .active ∧ rack.cls (.noFlow 0) ≠ .latched
      ∧ (rack.supCfg (.noFlow 0)).filter = 0
      ∧ isRunning ((withInst .estop .filtering true).inst .estop).timer = true
      ∧ ((withInst .estop .filtering true).inst .estop).state = .filtering
      ∧ ((withInst .estop .recovering false).inst .estop).state = .recovering
      ∧ ((withInst .estop .latched false).inst .estop).state = .latched
      ∧ ((withInst .estop .active true).inst .estop).state = .active ∧ rack.cls .estop = .latched
      ∧ rack.cls (.ground 0) ≠ .latched ∧ 0 < (rack.supCfg (.ground 0)).filter
      ∧ rack.mode = .run ∧ (rack.supCfg .estop).trip = true ∧ (rack.supCfg (.ground 0)).trip = false
      ∧ (rack.inst (.leak 0)).state = .normal ∧ rack.cls (.leak 0) = .latched
      ∧ rack.cls (.injDose 1) = .warning ∧ (rack.supCfg (.leak 0)).trip = true
      ∧ ((withInst (.leak 0) .latched false).inst (.leak 0)).cls ≠ .warning := ⟨rack_ready, by decide +kernel⟩

theorem witness_ClearsReachLatchedInstances :
    Ready (withInst .estop .latched false) ∧ Taken 0x70 (withInst .estop .latched true)
      ∧ (withInst .estop .latched false).mode ≠ .tripped
      ∧ clearable ((withInst .estop .latched false).inst .estop) = true
      ∧ clearable ((withInst (.leak 0) .latched false).inst (.leak 0)) = true
      ∧ holdsOut ((withInst (.leak 0) .latched false).inst (.leak 0)) = false
      ∧ holdsOut ((withInst .estop .latched true).inst .estop) = true
      ∧ clearable ((withInst .estop .active true).inst .estop) = false ∧ 14 < (15 : Byte).toNat :=
  ⟨⟨rfl, rfl⟩, ⟨⟨rfl, rfl⟩, ⟨nofun, rfl⟩, rfl⟩, by decide +kernel⟩

theorem witness_TripRequestStartsTheFirstStage :
    Taken 0x71 rack ∧ rack.mode = .run ∧ Taken 0x71 (inMode .tripping)
      ∧ Taken 0x71 (inMode .tripped) ∧ Taken 0x71 (inMode .setup) ∧ Ready (inMode .setupLocked)
      ∧ LineFree (inMode .setupLocked) ∧ (inMode .setupLocked).mode ≠ .run :=
  ⟨rack_taken _, rfl, tripping_taken _, tripped_taken _, setup_taken _, inMode_ready _, inMode_free _,
    by decide +kernel⟩

theorem witness_TripDelayBeginsTheSecondStage :
    Ready (inMode .tripping) ∧ SessionIn tripping2 0 .ending ∧ (inMode .tripping).mode = .tripping
      ∧ (inMode .tripping).trip.stageTwo = false
      ∧ tripping2.trip.stageTwo = true ∧ rack.mode ≠ .tripping ∧ ((loading .halting).arms[0]).state = .halting
      ∧ ((loading .closing).arms[0]).state = .closing ∧ ((loading .closing).arms[0]).comp = some onArm1
      ∧ (loading .closing).compRec onArm1.bay onArm1.comp = some comp1 ∧ ((loading .held).arms[0]).state ≠ .closing
      ∧ ((loading .held).arms[0]).state ≠ .halting ∧ sessionRuns (loading .halting) 0 = true ∧ rack.session 0 = none
      ∧ tripping2.mode = .tripping ∧ (0 : BayNo) ∈ tripping2.trip.awaiting
      ∧ tripping2.trip.awaiting.filter (fun x => x ≠ 0) = [] ∧ (1 : BayNo) ∉ tripping2.trip.awaiting
      ∧ (allBays.filter fun x => x ≠ 0) ≠ [] :=
  ⟨inMode_ready _, by simp only [SessionIn]; decide +kernel⟩

/-- R142: the last report makes the rack TRIPPED; R50: a halting arm told to force completion is STOPPED with the
mark. -/
theorem test_trip_ends :
    (take (.bayReport 0) tripping2).mode = .tripped
      ∧ ((take (.forceArm 0) (loading .halting)).compRec 0 1).map (fun r => (r.endReason, r.valveNotConfirmed))
          = some (some .stopped, true) := by decide +kernel

/-- A tripped rack whose ESTOP instance is in a state. -/
def trippedWith (st : InstState) : State :=
  { withInst .estop st false with mode := .tripped, relay := false }

theorem witness_TripClearRestoresTheRack :
    Taken 0x72 (trippedWith .latched) ∧ Taken 0x72 (inMode .tripped) ∧ Taken 0x72 rack ∧ Taken 0x72 (inMode .tripping)
      ∧ Ready (trippedWith .latched) ∧ ((trippedWith .latched).inst .estop).state = .latched
      ∧ (∀ i, (inMode .tripped).inst i = Instance.blank) ∧ rack.mode = .run
      ∧ ((trippedWith .filtering).inst .estop).state ≠ .normal ∧ ((trippedWith .filtering).inst .estop).state ≠ .latched
      ∧ ((trippedWith .latched).inst .estop).cond = false ∧ tripBlocked (trippedWith .latched) = true
      ∧ tripBlocked (clearAll allInsts (trippedWith .latched)).1 = false :=
  ⟨⟨⟨rfl, rfl⟩, ⟨nofun, rfl⟩, rfl⟩, tripped_taken _, rack_taken _, tripping_taken _, ⟨rfl, rfl⟩, by decide +kernel,
    armed_normal, by decide +kernel⟩

/-- A SETUP OPEN waits for its decision, the bays having answered. -/
def queried (open1 : Bool) : State :=
  { rack with
    setup := { rack.setup with query := some (vset (.replicate 4 false) 0 open1) }
    line := { rack.line with reply := some .awaitingDecision } }

theorem witness_SetupOpensOnAnIdleRack :
    Taken 0x20 rack ∧ rack.mode = .run ∧ Taken 0x20 (inMode .tripping) ∧ Taken 0x20 (inMode .setup)
      ∧ Ready (queried true) ∧ (queried true).setup.query = some (vset (.replicate 4 false) 0 true)
      ∧ (vset (.replicate 4 false) (0 : Fin 4) true).toList.any id = true
      ∧ (vset (.replicate 4 false) (0 : Fin 4) false).toList.any id = false ∧ (queried false).mode = .run
      ∧ ({ queried false with mode := .tripping } : State).mode ≠ .run :=
  ⟨rack_taken _, rfl, tripping_taken _, setup_taken _, ⟨rfl, rfl⟩, by decide +kernel⟩

/-- A rack in SETUP with a working copy, its setup timer at a time. -/
def editing (timer : Option Timer) : State :=
  { inMode .setup with
    setup := { rack.setup with working := some Configuration.factory, timer := timer } }

theorem editing_taken (kind : Byte) (timer : Option Timer) : Taken kind (editing timer) :=
  ⟨⟨rfl, rfl⟩, ⟨nofun, rfl⟩, rfl⟩

/-- A RACK record: id 7, 15.00 °C, link timeout 10 s, trip delay 2.0 s. -/
def rackRecord (link : Nat) : List Byte := [1, 1, 0, 7] ++ be 2 1500 ++ be 1 link ++ be 1 20

theorem witness_ConfigPutEditsWithinTheSetupTime :
    Taken 0x21 (editing none) ∧ Ready (editing (some ⟨0, 90000000⟩)) ∧ (editing none).mode = .setup
      ∧ (editing none).setup.working = some Configuration.factory ∧ recordLengthWrong (rackRecord 10) = false
      ∧ (parseRecord (rackRecord 10)).isSome = true
      ∧ recordLengthWrong (rackRecord 121) = false ∧ parseRecord (rackRecord 121) = none ∧ rack.mode ≠ .setup
      ∧ isRunning (editing (some ⟨89999999, 90000000⟩)).setup.timer = true :=
  ⟨editing_taken _ _, ⟨rfl, rfl⟩, rfl, rfl, by decide +kernel⟩

/-- A configuration that passes R164: every bay disabled, no arm in use. -/
def plainCfg : Configuration :=
  { Configuration.factory with bays := .replicate 4 { BayCfg.factory with enabled := false } }

/-- A digest other than a given one. -/
def otherThan (d : Nat) : Nat := if d = 0 then 1 else 0

theorem carried_differs (d : Nat) : d ≠ fld (be 2 (otherThan d)) 0 2 := by
  rw [fld_be 2 _ (by unfold otherThan; split <;> decide)]
  unfold otherThan
  split <;> omega

/-- The factory defaults fail first at BAY 1, enabled with no arm. -/
theorem factory_fails_first : FirstFailure Configuration.factory 2 1 3 := by
  refine ⟨Or.inl ⟨rfl, 0, rfl, Or.inr (Or.inr ⟨rfl, by decide +kernel⟩)⟩, ?_⟩
  have h : Configuration.factory.bays[(0 : BayNo)].attention < Configuration.factory.bays[(0 : BayNo)].abandon
      ∧ (allArms.filter fun a => Configuration.factory.arms[a].bay = some (0 : BayNo)).length = 0 := by decide +kernel
  rintro k i n (⟨rfl, b, rfl, hb⟩ | ⟨rfl, _⟩ | ⟨rfl, _⟩)
  · refine Or.inr ⟨rfl, ?_⟩
    by_cases hz : b = 0
    · subst hz
      rcases hb with ⟨_, hb⟩ | ⟨_, hb⟩ | ⟨rfl, _⟩
      · omega
      · omega
      · exact Or.inr ⟨rfl, le_rfl⟩
    · have : b.val ≠ 0 := fun e => hz (Fin.ext e)
      exact Or.inl (by simp only [unitNo]; omega)
  · exact Or.inl (by decide)
  · exact Or.inl (by decide)

/-- The plain configuration fails nowhere. -/
theorem plain_passes (k i n : Nat) : ¬CheckFails plainCfg k i n := by
  have hb : ∀ b : BayNo, plainCfg.bays[b].attention < plainCfg.bays[b].abandon ∧ plainCfg.bays[b].enabled = false
      ∧ (allArms.filter fun a => plainCfg.arms[a].bay = some b).length = 0 := by decide +kernel
  have ha : ∀ a : ArmNo, plainCfg.arms[a].bay = none
      ∧ plainCfg.arms[a].closeAheadInitial ≤ plainCfg.arms[a].closeAheadMax := by decide +kernel
  rintro (⟨_, b, _, h⟩ | ⟨_, a, _, h⟩ | ⟨_, p, _, _, _, _, a, _, h, _⟩)
  · have := hb b
    rcases h with ⟨_, h⟩ | ⟨_, h⟩ | ⟨_, h, _⟩
    · omega
    · omega
    · rw [this.2.1] at h; exact Bool.false_ne_true h
  · rcases h with ⟨_, h, _⟩ | ⟨_, h⟩ | ⟨_, h, _⟩
    · exact h (ha a).1
    · have := (ha a).2; omega
    · exact h (ha a).1
  · exact h (ha a).1

theorem witness_SetupCloseCommitsOnTheDigest :
    Taken 0x23 (editing none) ∧ (editing none).mode = .setup ∧ (be 2 0).length = 2
      ∧ FirstFailure Configuration.factory 2 1 3 ∧ (∀ k i n, ¬CheckFails plainCfg k i n)
      ∧ validation Configuration.factory = some (2, 1, 3) ∧ validation plainCfg = none
      ∧ plainCfg.digestOf.toNat = fld (be 2 plainCfg.digestOf.toNat) 0 2
      ∧ plainCfg.digestOf.toNat ≠ fld (be 2 (otherThan plainCfg.digestOf.toNat)) 0 2
      ∧ armRecordChanged (editing none).setup.active plainCfg 0 = true
      ∧ armRecordChanged (editing none).setup.active plainCfg 7 = false :=
  ⟨editing_taken _ _, rfl, by decide +kernel, factory_fails_first, plain_passes, by decide +kernel, by decide +kernel,
    (fld_be 2 _ plainCfg.digestOf.isLt).symm, carried_differs _, by decide +kernel, by decide +kernel⟩

theorem witness_SetupAbandonKeepsTheConfiguration :
    Ready (editing none) ∧ LineFree (editing none) ∧ (editing none).mode = .setup ∧ (editing none).setup.active.isSome = true
      ∧ (∀ i ∈ allInsts, ((editing none).supCfg i).trip = true →
          ((editing none).inst i).state ≠ .active ∧ ((editing none).inst i).state ≠ .latched)
      ∧ ((editing none).supCfg .estop).trip = true
      ∧ (((editing none).modInst .estop fun x => { x with state := .latched }).inst .estop).state = .latched
      ∧ ({ (editing none) with setup := { (editing none).setup with active := none } } : State).setup.active = none
      ∧ Ready rack ∧ LineFree rack ∧ rack.mode ≠ .setup ∧ (inMode .setupLocked).mode ≠ .setup :=
  ⟨⟨rfl, rfl⟩, ⟨nofun, rfl⟩, rfl, by decide +kernel, by decide +kernel, by decide +kernel, by decide +kernel, rfl,
    rack_ready, inMode_free .run, by decide +kernel, by decide +kernel⟩

/-- The host line's receiver in a state. -/
def receiving (r : Receiver) : State := { rack with line := { rack.line with receiver := r } }

theorem witness_ReceiverFollowsTheLine :
    rack.phase ≠ .off ∧ (receiving .hunt).line.receiver = .hunt ∧ (receiving .receiving).line.receiver ≠ .hunt
      ∧ (receiving .receiving).line.receiver ≠ .skipping ∧ (receiving .skipping).line.receiver = .skipping
      ∧ frameDiscards rack.line.address rack.line.reply.isSome [12, 0, 0, 2, 0, 0] = true := by decide +kernel

theorem witness_EveryFrameIsTakenOrLost :
    isFrame (.noteRead []) = true ∧ (Instr.noteRead []).WF ∧ (receiving .skipping).phase ≠ .off
      ∧ (receiving .skipping).line.receiver = .skipping ∧ (queried true).line.receiver ≠ .skipping
      ∧ (queried true).line.reply.isSome = true ∧ Ready rack ∧ LineFree rack
      ∧ (starting .power).phase = .starting .power ∧ LineFree (starting .power) :=
  ⟨rfl, by decide, by decide +kernel, rfl, by decide +kernel, rfl, rack_ready, inMode_free .run, rfl, starting_free _⟩

theorem witness_UnsuitedRequestsOnlyGetTheirCode :
    LineFree rack ∧ (Instr.unknownKind 0x6F []).WF ∧ Ready rack ∧ LineFree (starting .power)
      ∧ (starting .power).mode = .startUp ∧ (starting .power).phase = .starting .power ∧ LineFree (inMode .setupLocked)
      ∧ Ready (inMode .setupLocked) ∧ messageOf (.sessionEnd []) = some (0x50, .addressed)
      ∧ ¬ModeAdmits (inMode .setupLocked).mode 0x50 ∧ ModeAdmits rack.mode 0x50 ∧ ¬LengthRight (.sessionEnd [])
      ∧ ¬LengthRight (.supervisionList [0]) ∧ ¬LengthRight (.orderPut (List.replicate 15 0))
      ∧ ¬LengthRight (.configPut [6, 1, 0]) ∧ messageOf (.clockSet .allCall []) = some (0x10, .allCall)
      ∧ ¬ModeAdmits (inMode .setupLocked).mode 0x10 ∧ ¬LengthRight (.clockSet .allCall []) :=
  ⟨inMode_free .run, by decide, rack_ready, starting_free _, rfl, rfl, inMode_free _, inMode_ready _, rfl,
    (by decide : (0x50 : Byte) ∉ _), trivial, nofun, nofun, fun ⟨_, h, h'⟩ => by cases h; revert h'; decide,
    fun h => absurd (h.2 (6, 6) (by decide) rfl) (by decide), rfl, (by decide : (0x10 : Byte) ∉ _), nofun⟩

/-- The rack with its clock set. -/
def clocked (t : Stamp) : State :=
  { rack with line := { rack.line with clock := some t, linkTimer := some ⟨0, 1000000⟩ } }

theorem witness_ClockAndLinkKeepTime :
    Ready (clocked ⟨65535, 86399⟩) ∧ isRunning (clocked ⟨65535, 86399⟩).line.linkTimer = true
      ∧ rack.line.clock = none ∧ (86398 : Nat) + 1 < 86400 ∧ 86400 ≤ (86399 : Nat) + 1
      ∧ (clocked ⟨65535, 86399⟩).line.clock = some ⟨65535, 86399⟩ ∧ Taken 0x10 rack
      ∧ (be 2 5 ++ be 4 86399).length = 6 ∧ fld (be 2 5 ++ be 4 86399) 2 4 ≤ 86399
      ∧ 86399 < fld (be 2 5 ++ be 4 86400) 2 4 :=
  ⟨⟨rfl, rfl⟩, by decide +kernel, rfl, by decide, by decide, rfl, rack_taken _, by decide +kernel, by decide +kernel,
    by decide +kernel⟩

theorem witness_StatusMessagesOnlyRead :
    Taken 0x01 rack ∧ Taken 0x02 rack ∧ Taken 0x03 rack ∧ Taken 0x04 rack ∧ Taken 0x05 rack ∧ Taken 0x06 rack
      ∧ ((4 : Nat) < 5 ∧ (5 : Nat) < 256) :=
  ⟨rack_taken _, rack_taken _, rack_taken _, rack_taken _, rack_taken _, rack_taken _, by decide⟩

theorem witness_RecordMessagesOnlyRead :
    Taken 0x31 stocked ∧ (0 : Nat) < 65536 ∧ Taken 0x41 stocked ∧ 1 ≤ order1.number ∧ order1.number < 2147483648
      ∧ Taken 0x60 rack ∧ Taken 0x61 rack ∧ Taken 0x22 rack ∧ rack.mode ≠ .setup
      ∧ (if rack.mode = .setup then rack.setup.working else rack.setup.active) = some rackCfg
      ∧ rackCfg.record 1 1 = some (.rack rackCfg.rack)
      ∧ Taken 0x22 { rack with setup := { rack.setup with active := none } } :=
  ⟨stocked_taken _, by decide, stocked_taken _, by decide +kernel, by decide +kernel, rack_taken _, rack_taken _,
    rack_taken _, by decide +kernel, by decide +kernel, rfl, ⟨⟨rfl, rfl⟩, ⟨nofun, rfl⟩, rfl⟩⟩

/-- A PERMIT PUT body. -/
def permitBody (number token : Nat) : List Byte :=
  be 2 number ++ be 8 token ++ be 2 9 ++ be 2 0 ++ be 1 15 ++ be 2 1 ++ be 1 1 ++ be 4 200000

/-- A full permit table; its entries need not differ for the hypotheses. -/
def fullTable : State := { rack with permits := List.replicate 512 permit1 }

theorem full_none (n k : Nat) (h : permit1.number ≠ k) : findPermit (List.replicate n permit1) k = none := by
  simp [findPermit, h]

theorem full_any (n : Nat) (t : BitVec 64) (h : permit1.token ≠ t) :
    (List.replicate n permit1).any (fun p => p.token = t && p.number ≠ 5) = false := by
  simp [h]

theorem full_length : 512 ≤ fullTable.permits.length := (List.length_replicate (n := 512) (a := permit1)).ge

theorem witness_PermitPutAddsOrReplaces :
    Taken 0x30 stocked ∧ findPermit fullTable.permits 5 = none ∧ 512 ≤ fullTable.permits.length
      ∧ fullTable.permits.any (fun p => p.token = 78 && p.number ≠ 5) = false
      ∧ parsePermit (permitBody 4102 77) = some { permit1 with used := 0 } ∧ parsePermit (permitBody 0 77) = none
      ∧ (findPermit (withSession .loading).permits 4102).any (fun p => p.openSession.isSome) = true
      ∧ (findPermit stocked.permits 4102).any (fun p => p.openSession.isSome) = false
      ∧ (findPermit stocked.permits 4102).isSome = true ∧ findPermit stocked.permits 5 = none
      ∧ stocked.permits.any (fun p => p.token = 77 && p.number ≠ 5) = true
      ∧ stocked.permits.any (fun p => p.token = 78 && p.number ≠ 5) = false :=
  ⟨stocked_taken _, full_none _ _ (by decide), full_length, full_any _ _ (by decide), by decide +kernel⟩

theorem witness_PermitMessagesActOnTheEntryNamed :
    (∀ kind, Taken kind rack) ∧ (∀ kind, Taken kind stocked) ∧ (∀ kind, Taken kind (heldUnder .retiring))
      ∧ 1 ≤ permit1.number ∧ permit1.number < 65536 ∧ findPermit rack.permits 4102 = none
      ∧ findPermit stocked.permits 4102 = some permit1 ∧ permit1.state ≠ .retiring ∧ permit1.openSession = none
      ∧ (findPermit (heldUnder .retiring).permits 4102).map Permit.state = some .retiring
      ∧ (findPermit (withSession .loading).permits 4102).map Permit.openSession = some (some 0) :=
  ⟨rack_taken, stocked_taken, fun _ => ⟨⟨rfl, rfl⟩, ⟨nofun, rfl⟩, rfl⟩, by decide +kernel⟩

/-- An ORDER PUT body with one entry. -/
def orderBody (number product : Nat) : List Byte :=
  be 4 number ++ be 2 4102 ++ be 2 5 ++ be 1 1 ++ be 1 2 ++ be 1 product ++ be 4 30000

/-- A full order book. -/
def fullBook : State :=
  { stocked with orders := (List.range 32).map fun n => { order1 with number := n + 1 } }

theorem witness_OrderAndNoteMessagesKeepTheirStores :
    Taken 0x40 stocked ∧ Taken 0x42 stocked ∧ Taken 0x62 rack
      ∧ parseOrder (orderBody 80217 1) = some order1 ∧ findOrder stocked.orders 80217 ≠ none
      ∧ findOrder rack.orders 80217 = none ∧ findPermit rack.permits 4102 = none
      ∧ (parseOrder (orderBody 5 2)).isSome = true ∧ maskHas permit1.productMask (1 : Fin 12) = false
      ∧ maskHas permit1.productMask (0 : Fin 12) = true ∧ (stocked.cfg.products[0]).enabled = true
      ∧ 32 ≤ fullBook.orders.length ∧ findOrder fullBook.orders 80217 = none ∧ stocked.orders.length < 32
      ∧ findOrder stocked.orders 80217 = some order1 ∧ order1.active = false
      ∧ ({ order1 with active := true } : Order).active = true ∧ rack.notes.find 1 = none
      ∧ ((rack.notes.file (buildNote 0 (session1 .ending) 0 none .complete false)).find 1).isSome = true :=
  ⟨stocked_taken _, stocked_taken _, rack_taken _, by decide +kernel⟩

end Sys2Proof.Tests
end

section
/-! The stage outputs of an arm as functions of its valve stage command (R1). -/

namespace Sys2Proof.Machine

/-- The pins of an arm follow its command alone: nothing else of the state is read (R1). -/
theorem stageOutputs_of_command {s : State} {a : ArmNo} {c : Stage} (command : s.arms[a].command = c) :
    stageS1 s a = c.s1 ∧ stageS2 s a = c.s2 :=
  ⟨congrArg Stage.s1 command, congrArg Stage.s2 command⟩

@[simp] theorem Stage.s1_close : Stage.s1 .close = false := rfl
@[simp] theorem Stage.s1_low : Stage.s1 .low = true := rfl
@[simp] theorem Stage.s1_high : Stage.s1 .high = true := rfl
@[simp] theorem Stage.s2_close : Stage.s2 .close = false := rfl
@[simp] theorem Stage.s2_low : Stage.s2 .low = false := rfl
@[simp] theorem Stage.s2_high : Stage.s2 .high = true := rfl

/-- Settles O10: one row of R1's table for each command. -/
theorem stageOutputsCodeTheCommand : Obligations.StageOutputsCodeTheCommand := by
  intro s a
  refine ⟨fun close => ?_, fun low => ?_, fun high => ?_⟩
  · simpa only [Stage.s1_close, Stage.s2_close] using stageOutputs_of_command close
  · simpa only [Stage.s1_low, Stage.s2_low] using stageOutputs_of_command low
  · simpa only [Stage.s1_high, Stage.s2_high] using stageOutputs_of_command high

end Sys2Proof.Machine
end

section
/-! What each operation outside `State.inputs` does to the pulse inputs: all but the metering expiry, the edges, the start of
flow and the putting into service leave them as they are. -/

namespace Sys2Proof.Machine

/-! ### Frames of the pulse inputs -/

/-- An operation that leaves the input side of the state leaves the pulse inputs. -/
theorem pulses_of_inputs {s t : State} (same : t.inputs = s.inputs) : t.pulses = s.pulses :=
  congrArg Inputs.pulses same

@[simp] theorem settleCommand_pulses (s : State) : (settleCommand s).pulses = s.pulses :=
  pulses_of_inputs (settleCommand_inputs s)

@[simp] theorem setMode_pulses (m : Mode) (s : State) : (setMode m s).pulses = s.pulses :=
  pulses_of_inputs (setMode_inputs m s)

@[simp] theorem activity_pulses (b : BayNo) (k : Activity) (s : State) : (activity b k s).pulses = s.pulses :=
  pulses_of_inputs (activity_inputs b k s)

@[simp] theorem examineTrips_pulses (s : State) : (examineTrips s).pulses = s.pulses :=
  pulses_of_inputs (examineTrips_inputs s)

@[simp] theorem closeRequest_pulses (n : Nat) (b : BayNo) (s : State) : (closeRequest n b s).1.pulses = s.pulses :=
  pulses_of_inputs (closeRequest_inputs n b s)

@[simp] theorem setNoFlowCond_pulses (a : ArmNo) (p : Bool) (s : State) : (setNoFlowCond a p s).pulses = s.pulses :=
  pulses_of_inputs (setNoFlowCond_inputs a p s)

@[simp] theorem setValveCond_pulses (a : ArmNo) (p : Bool) (s : State) : (setValveCond a p s).pulses = s.pulses :=
  pulses_of_inputs (setValveCond_inputs a p s)

@[simp] theorem modArmComp_pulses (a : ArmNo) (f : CompRec → CompRec) (s : State) :
    (s.modArmComp a f).pulses = s.pulses :=
  pulses_of_inputs (modArmComp_inputs s a f)

@[simp] theorem each_pulses {α : Type} (f : State → α → State) (l : List α) (s : State)
    (same : ∀ s x, (f s x).pulses = s.pulses) : (s.each l f).pulses = s.pulses :=
  each_keeps State.pulses f same l s

@[simp] theorem ite_pulses (c : Prop) [Decidable c] (s t : State) :
    (if c then s else t).pulses = if c then s.pulses else t.pulses :=
  apply_ite State.pulses c s t

/-! ### Pins and temperature lines -/

@[simp] theorem setPulsePin_pulses (p : PulsePin) (level : Bool) (s : State) :
    (setPulsePin p level s).pulses = s.pulses := by
  unfold setPulsePin; split <;> rfl

@[simp] theorem setSwitch_pulses (a : ArmNo) (w : ValveSwitch) (level : Bool) (s : State) :
    (setSwitch a w level s).pulses = s.pulses := by
  cases w <;> rfl

@[simp] theorem setPermitPin_pulses (b : BayNo) (k : PermitInput) (level : Bool) (s : State) :
    (setPermitPin b k level s).pulses = s.pulses := by
  cases k <;> rfl

@[simp] theorem setDeadmanPin_pulses (b : BayNo) (level : Bool) (s : State) :
    (setDeadmanPin b level s).pulses = s.pulses := rfl
@[simp] theorem setEstopPin_pulses (level : Bool) (s : State) : (setEstopPin level s).pulses = s.pulses := rfl
@[simp] theorem setResetPin_pulses (level : Bool) (s : State) : (setResetPin level s).pulses = s.pulses := rfl

@[simp] theorem setProbeFault_pulses (a : ArmNo) (p : Bool) (s : State) : (setProbeFault a p s).pulses = s.pulses := by
  simp [setProbeFault]

@[simp] theorem recordArrival_pulses (a : ArmNo) (r : ReadingRecord) (s : State) :
    (recordArrival a r s).pulses = s.pulses := by
  simp [recordArrival]

@[simp] theorem recordTimerAt_pulses (a : ArmNo) (s : State) : (recordTimerAt a s).pulses = s.pulses := by
  simp [recordTimerAt]

/-! ### Metering -/

@[simp] theorem accountStandard_pulses (cfg : Configuration) (a : ArmNo) (p : ProductNo) (dg : Nat) (s : State) :
    (accountStandard cfg a p dg s).pulses = s.pulses := by
  simp [accountStandard]

@[simp] theorem leakWatch_pulses (cfg : Configuration) (a : ArmNo) (dg : Nat) (s : State) :
    (leakWatch cfg a dg s).pulses = s.pulses := by
  simp [leakWatch]

/-- An expiry hands the count over and clears the saturation mark, and changes no other figure of a pulse input (R5, R19). -/
theorem account_pulses (cfg : Configuration) (a : ArmNo) (s : State) :
    (account cfg a s).pulses = vmod s.pulses a fun p => { p with count := 0, saturated := false } := by
  unfold account
  simp only [leakWatch_pulses, ite_pulses, modMeter_pulses]
  split
  · rfl
  · split
    · simp only [accountStandard_pulses, modMeter_pulses, modPulse_pulses]
    · rfl

@[simp] theorem postLine_inputs (a : ArmNo) (b : BayNo) (c : CompNo) (number fuel : Nat) (s : State) :
    (postLine a b c number fuel s).inputs = s.inputs := by
  induction fuel generalizing s with
  | zero => rfl
  | succ fuel ih =>
    unfold postLine
    split
    · split
      · simp only [ih, postShot_inputs, modLineOf_inputs]
      · rfl
    · rfl

@[simp] theorem postShots_inputs (a : ArmNo) (st : ArmState) (s : State) : (postShots a st s).inputs = s.inputs := by
  unfold postShots
  split
  · split
    · refine each_inputs s _ [1, 2] fun t number => ?_
      split
      · exact postLine_inputs ..
      · rfl
    · rfl
  · rfl

/-- The rest of an expiry, from the report to the arm on, leaves the pulse inputs. -/
theorem interval_pulses (cfg : Configuration) (a : ArmNo) (s : State) :
    (interval cfg a s).pulses = vmod s.pulses a fun p => { p with count := 0, saturated := false } := by
  have report (q : Nat) (locked : Bool) (st : ArmState) (t : State) :
      (postShots a st (armReport a q locked t)).pulses = t.pulses :=
    pulses_of_inputs (by simp only [postShots_inputs, armReport_inputs])
  unfold interval
  simp only
  split
  · simp only [ite_pulses, activity_pulses, report, account_pulses, ite_self]
  · simp only [report, account_pulses]

/-! ### Supervision and bays -/

@[simp] theorem clearOne_pulses (i : InstId) (s : State) : (clearOne s i).pulses = s.pulses := by
  unfold clearOne
  split
  · cases i <;> rfl
  · rfl

@[simp] theorem clearAll_pulses (l : List InstId) (s : State) : (clearAll l s).1.pulses = s.pulses :=
  each_pulses clearOne l s fun s i => clearOne_pulses i s

@[simp] theorem openRequest_pulses (n : Nat) (b : BayNo) (s : State) : (openRequest n b s).1.pulses = s.pulses := by
  unfold openRequest
  split
  · rfl
  · simp only [apply_ite Prod.fst, ite_pulses, ite_self]

@[simp] theorem takeOrder_pulses (n : Nat) (b : BayNo) (mask : BitVec 12) (s : State) :
    (takeOrder n b mask s).1.pulses = s.pulses := by
  unfold takeOrder
  split <;> rfl

@[simp] theorem reserve_pulses (n preset : Nat) (s : State) : (reserve n preset s).1.pulses = s.pulses := by
  unfold reserve
  split
  · rfl
  · simp only [apply_ite Prod.fst, ite_pulses, ite_self]

@[simp] theorem cardRequests_pulses (b : BayNo) (p : Permit) (s : State) : (cardRequests b p s).pulses = s.pulses := by
  have opened := openRequest_pulses p.number b s
  unfold cardRequests
  split
  · next s1 open_ok =>
    have taken := takeOrder_pulses p.number b p.productMask s1
    rw [open_ok] at opened
    split
    · next s2 o take_ok =>
      rw [take_ok] at taken
      split
      · exact taken.trans opened
      · simpa [returnOrder] using taken.trans opened
    · next s2 take_none =>
      rw [take_none] at taken
      simpa using taken.trans opened
  · next s1 answer _ refused =>
    rw [refused] at opened
    simpa using opened

@[simp] theorem cardAt_pulses (b : BayNo) (token : BitVec 64) (s : State) : (cardAt b token s).pulses = s.pulses := by
  unfold cardAt
  simp only
  split
  · simp
  · split
    · simp
    · split <;> simp

@[simp] theorem assign_pulses (a : ArmNo) (b : BayNo) (r : CompRec) (s : State) : (assign a b r s).pulses = s.pulses := by
  simp only [assign, pulses_of_inputs (enterState_inputs ..), modArm_pulses, modMeter_pulses, modComp_pulses]

@[simp] theorem selectKey_pulses (b : BayNo) (c : CompNo) (a : ArmNo) (s : State) :
    (selectKey b c a s).pulses = s.pulses := by
  unfold selectKey
  split <;> simp

/-! ### Setup control, the host line and start-up -/

@[simp] theorem enterSetup_pulses (s : State) : (enterSetup s).pulses = s.pulses := by
  simp [enterSetup]

@[simp] theorem decideSetupOpen_pulses (s : State) : (decideSetupOpen s).pulses = s.pulses := by
  unfold decideSetupOpen
  split
  · rfl
  · simp [sendReply]

@[simp] theorem setupTimerAt_pulses (s : State) : (setupTimerAt s).pulses = s.pulses := by
  simp [setupTimerAt]

@[simp] theorem dayRollover_pulses (s : State) : (dayRollover s).pulses = s.pulses := by
  unfold dayRollover
  split <;> rfl

@[simp] theorem secondPasses_pulses (s : State) : (secondPasses s).pulses = s.pulses := by
  unfold secondPasses
  split <;> simp

@[simp] theorem setClock_pulses (t : Stamp) (s : State) : (setClock t s).pulses = s.pulses := by
  unfold setClock
  simp only
  split <;> simp

/-- A change of an ARM record leaves the pulse inputs once the pulse input itself has retaken it (R17, R60). -/
@[simp] theorem retakeTemp_pulses (wasUsed : Bool) (a : ArmNo) (s : State) :
    (retakeTemp wasUsed a s).pulses = s.pulses := by
  simp [retakeTemp]

@[simp] theorem retakeArm_pulses (wasUsed : Bool) (a : ArmNo) (s : State) :
    (retakeArm wasUsed a s).pulses = s.pulses := by
  have restart (t : State) : (restartTravel a t).pulses = t.pulses := pulses_of_inputs (restartTravel_inputs a t)
  simp [retakeArm, restart]

@[simp] theorem retakeInjRecord_pulses (wasUsed : Bool) (i : InjNo) (s : State) :
    (retakeInjRecord wasUsed i s).pulses = s.pulses := by
  simp [retakeInjRecord]

@[simp] theorem closeRetainedComp_pulses (b : BayNo) (permit : Nat) (s : State) (r : CompRec) :
    (closeRetainedComp b permit s r).pulses = s.pulses := by
  unfold closeRetainedComp
  split
  · split <;> rfl
  · rfl
  · rfl

@[simp] theorem closeRetained_pulses (cause : StartCause) (s : State) (b : BayNo) :
    (closeRetained cause s b).pulses = s.pulses := by
  unfold closeRetained
  split
  · rfl
  · next x _ =>
    have comps : (x.comps.foldl (closeRetainedComp b x.permit) s).pulses = s.pulses :=
      each_pulses (closeRetainedComp b x.permit) x.comps s fun s r => closeRetainedComp_pulses b x.permit s r
    simpa [removeOrder] using comps

theorem closeAllRetained_pulses (cause : StartCause) (bays : List BayNo) (s : State) :
    (bays.foldl (closeRetained cause) s).pulses = s.pulses :=
  each_pulses (closeRetained cause) bays s fun s b => closeRetained_pulses cause s b

@[simp] theorem readRetained_pulses (s : State) : (readRetained s).pulses = s.pulses := rfl

@[simp] theorem cleanPermits_pulses (s : State) : (cleanPermits s).pulses = s.pulses := rfl

@[simp] theorem startWorking_pulses (s : State) : (startWorking s).pulses = s.pulses := by
  unfold startWorking
  split <;> rfl

end Sys2Proof.Machine
end


section
/-! An accepted rising edge (R3 to R9), said once: what it makes of its pulse input, and of the state. -/

namespace Sys2Proof.Machine

/-! ### Changes of one unit -/

/-- What a change makes of the value it meets is all that counts. -/
theorem vmod_congr {α : Type} {n : Nat} {v : Vector α n} {i : Fin n} {f g : α → α} (same : f v[i.val] = g v[i.val]) :
    vmod v i f = vmod v i g :=
  congrArg (vset v i) same

/-- Two changes of one unit are one. -/
theorem vmod_vmod {α : Type} {n : Nat} (v : Vector α n) (i : Fin n) (f g : α → α) :
    vmod (vmod v i f) i g = vmod v i fun x => g (f x) := by
  apply vec_ext
  intro j
  simp only [vmod_get]
  split <;> rfl

/-! ### The pulse input -/

/-- A pulse input whose edge has taken its level and, on channel A, been counted (R3, R5). -/
def PulseInput.counted (x : PulseInput) : Channel → PulseInput
  | .a => (x.setLevel .a true).countEdge.1
  | .b => x.setLevel .b true

/-- A pulse input after an accepted rising edge of a channel in use: its level, its count, its pattern check (R3 to R9). -/
def PulseInput.afterEdge (x : PulseInput) (dual : Bool) (ch : Channel) : PulseInput :=
  if dual then ((x.counted ch).pattern ch).1 else x.counted ch

/-- The edge saturates the count (R5). -/
def PulseInput.saturates (x : PulseInput) : Channel → Bool
  | .a => (x.setLevel .a true).countEdge.2
  | .b => false

/-- The METER_PULSE events of an edge: the saturation's, then the pattern checker's (R5, R8). -/
def PulseInput.edgeEvents (x : PulseInput) (a : ArmNo) (dual : Bool) (ch : Channel) : List Notice :=
  (if x.saturates ch then [.event (.meterPulse a)] else [])
    ++ if dual && (x.pattern ch).2 then [.event (.meterPulse a)] else []

/-- Taking the level and counting leave what the pattern checker reads and keeps (R5, R7). -/
theorem counted_checker (x : PulseInput) (ch : Channel) :
    (x.counted ch).last = x.last ∧ (x.counted ch).score = x.score ∧ (x.counted ch).cleanPairs = x.cleanPairs
      ∧ (x.counted ch).locked = x.locked := by
  cases ch
  · unfold PulseInput.counted PulseInput.countEdge
    simp only
    split
    · exact ⟨rfl, rfl, rfl, rfl⟩
    · split <;> exact ⟨rfl, rfl, rfl, rfl⟩
  · exact ⟨rfl, rfl, rfl, rfl⟩

/-- The channel of an edge, as the pattern checker records it (R7). -/
def channelMark : Channel → LastChannel
  | .a => .a
  | .b => .b

/-- A violation raises METER_PULSE when it brings the score to 256 (R8). -/
theorem violation_raises (x : PulseInput) : x.violation.2 = decide (256 ≤ x.score + 16) := by
  unfold PulseInput.violation
  split
  · next h => exact (decide_eq_true h).symm
  · next h => exact (decide_eq_false h).symm

/-- The pattern checker raises METER_PULSE on a second edge of one channel that brings the score to 256 (R7, R8). -/
theorem pattern_raises (x : PulseInput) (ch : Channel) :
    (x.pattern ch).2 = decide (x.last = channelMark ch ∧ 256 ≤ x.score + 16) := by
  unfold PulseInput.pattern
  split <;> simp_all [violation_raises, channelMark]

/-- Counting first does not change what the pattern checker raises. -/
theorem counted_pattern_raises (x : PulseInput) (ch : Channel) : ((x.counted ch).pattern ch).2 = (x.pattern ch).2 := by
  obtain ⟨last, score, _, _⟩ := counted_checker x ch
  rw [pattern_raises, pattern_raises, last, score]

/-! ### The state -/

/-- A pulse input changed with METER_PULSE raised as the change's flag says (R5, R8). -/
theorem raiseMeterPulse_modPulse (a : ArmNo) (f : PulseInput → PulseInput × Bool) (s : State) :
    raiseMeterPulse a (f s.pulses[a]).2 (s.modPulse a fun _ => (f s.pulses[a]).1)
      = { s with
          pulses := vmod s.pulses a fun x => (f x).1
          inbox := s.inbox ++ if (f s.pulses[a]).2 then [.event (.meterPulse a)] else [] } := by
  cases raised : (f s.pulses[a]).2
  · simp [raiseMeterPulse, State.modPulse, vmod]
  · rfl

/-- The state once an edge has taken its level and been counted. -/
def edgeCounted (a : ArmNo) (ch : Channel) (s : State) : State :=
  { s with
      pulses := vmod s.pulses a fun x => x.counted ch
      inbox := s.inbox ++ if s.pulses[a].saturates ch then [.event (.meterPulse a)] else [] }

/-- The state once an edge has been counted and checked, before the arm is told of a pulse arrival. -/
def edgeChecked (a : ArmNo) (ch : Channel) (s : State) : State :=
  { s with
      pulses := vmod s.pulses a fun x => x.afterEdge (s.armCfg a).dual ch
      inbox := s.inbox ++ s.pulses[a].edgeEvents a (s.armCfg a).dual ch }

/-- The counting of an edge on channel A (R5). -/
theorem countEdge_edgeCounted (a : ArmNo) (s : State) :
    raiseMeterPulse a ((s.modPulse a fun x => x.setLevel .a true).pulses[a].countEdge).2
        ((s.modPulse a fun x => x.setLevel .a true).modPulse a fun _ =>
          ((s.modPulse a fun x => x.setLevel .a true).pulses[a].countEdge).1)
      = edgeCounted a .a s := by
  rw [raiseMeterPulse_modPulse a PulseInput.countEdge]
  simp only [modPulse_pulses, vmod_vmod, Fin.getElem_fin, vmod_self]
  rfl

/-- The level of an edge on channel B, which is not counted (R4). -/
theorem setLevel_edgeCounted (a : ArmNo) (s : State) :
    (s.modPulse a fun x => x.setLevel .b true) = edgeCounted a .b s := by
  simp only [edgeCounted, PulseInput.saturates, Bool.false_eq_true, if_false, List.append_nil]
  rfl

/-- The pattern check of a counted edge, for a dual-channel meter alone (R7). -/
theorem pattern_edgeChecked (a : ArmNo) (ch : Channel) (s : State) :
    (if (s.armCfg a).dual then
        raiseMeterPulse a ((edgeCounted a ch s).pulses[a].pattern ch).2
          ((edgeCounted a ch s).modPulse a fun _ => ((edgeCounted a ch s).pulses[a].pattern ch).1)
      else edgeCounted a ch s) = edgeChecked a ch s := by
  cases dual : (s.armCfg a).dual
  · simp only [edgeChecked, PulseInput.afterEdge, PulseInput.edgeEvents, dual, Bool.false_and, Bool.false_eq_true,
      if_false, List.append_nil]
    rfl
  · rw [if_pos rfl, raiseMeterPulse_modPulse a fun x => x.pattern ch]
    simp only [edgeChecked, edgeCounted, PulseInput.afterEdge, PulseInput.edgeEvents, dual, vmod_vmod, Fin.getElem_fin,
      vmod_self, counted_pattern_raises, Bool.true_and, if_true, List.append_assoc]

/-- An edge of a channel in use is counted and checked, and an edge of channel A is a pulse arrival (R3 to R9). -/
theorem risingEdge_inUse (a : ArmNo) (ch : Channel) (s : State) (inUse : channelInUse (s.armCfg a) ch = true) :
    risingEdge a ch s = match ch with
      | .a => pulseArrival a (edgeChecked a .a s)
      | .b => edgeChecked a .b s := by
  unfold risingEdge
  cases ch <;> rw [if_pos inUse]
  · simp only [countEdge_edgeCounted, pattern_edgeChecked]
  · simp only [setLevel_edgeCounted, pattern_edgeChecked]

/-- An edge of a channel that is not in use changes nothing (R4). -/
theorem risingEdge_notInUse (a : ArmNo) (ch : Channel) (s : State) (notInUse : channelInUse (s.armCfg a) ch = false) :
    risingEdge a ch s = s := by
  simp [risingEdge, notInUse]

end Sys2Proof.Machine
end


section
/-! The bounds of the pulse inputs (R5, R8, R9) under every operation that changes one, under every command, and under the
tick. -/

namespace Sys2Proof.Machine

/-! ### The operations of a pulse input -/

namespace PulseInput.Bounded

variable {x : PulseInput} (bounded : x.Bounded)
include bounded

theorem setLevel (ch : Channel) (level : Bool) : (x.setLevel ch level).Bounded := by
  cases ch <;> exact bounded

theorem countEdge : x.countEdge.1.Bounded := by
  obtain ⟨count, score, pairs⟩ := bounded
  unfold PulseInput.countEdge
  split
  · exact ⟨count, score, pairs⟩
  · split
    · next below => exact ⟨Nat.le_of_lt below, score, pairs⟩
    · exact ⟨Nat.le_refl _, score, pairs⟩

theorem violation : x.violation.1.Bounded := by
  unfold PulseInput.violation
  split
  · exact ⟨bounded.1, Nat.zero_lt_succ _, Nat.zero_le _⟩
  · next below => exact ⟨bounded.1, Nat.lt_of_not_le below, Nat.zero_le _⟩

theorem cleanPair : x.cleanPair.Bounded := by
  obtain ⟨count, score, pairs⟩ := bounded
  refine ⟨count, Nat.lt_of_le_of_lt (Nat.sub_le _ _) score, ?_⟩
  show satSucc 64 x.cleanPairs ≤ 64
  unfold satSucc
  split <;> omega

theorem pattern (ch : Channel) : (x.pattern ch).1.Bounded := by
  unfold PulseInput.pattern
  split
  · exact bounded
  · exact bounded
  · exact bounded.violation
  · exact bounded.cleanPair
  · exact bounded
  · exact bounded.violation

theorem startOfFlow (dual : Bool) : (x.startOfFlow dual).Bounded := by
  cases dual
  · exact ⟨bounded.1, Nat.zero_lt_succ _, bounded.2.2⟩
  · exact ⟨bounded.1, Nat.zero_lt_succ _, Nat.zero_le _⟩

end PulseInput.Bounded

theorem initialPulse_bounded (c : ArmCfg) (pinA pinB : Bool) : (initialPulse c pinA pinB).Bounded :=
  ⟨Nat.zero_le _, Nat.zero_lt_succ _, Nat.zero_le _⟩

/-! ### States -/

theorem PulsesBounded.of_pulses {s t : State} (bounded : PulsesBounded s) (same : t.pulses = s.pulses) :
    PulsesBounded t := by
  intro a
  rw [same]
  exact bounded a

/-- One pulse input changed within its bounds. -/
theorem PulsesBounded.of_vmod {s t : State} {a : ArmNo} (f : PulseInput → PulseInput) (bounded : PulsesBounded s)
    (changed : t.pulses = vmod s.pulses a f) (keeps : ∀ x : PulseInput, x.Bounded → (f x).Bounded) :
    PulsesBounded t := by
  intro i
  rw [changed, Fin.getElem_fin, vmod_get]
  split
  · next same => subst same; exact keeps _ (bounded i)
  · exact bounded i

/-- An operation that keeps every pulse input within its bounds. -/
def KeepsPulsesBounded (f : State → State) : Prop := ∀ s, PulsesBounded s → PulsesBounded (f s)

theorem keepsPulsesBounded_of_pulses {f : State → State} (same : ∀ s, (f s).pulses = s.pulses) :
    KeepsPulsesBounded f :=
  fun s bounded => bounded.of_pulses (same s)

theorem keepsPulsesBounded_of_inputs {f : State → State} (same : ∀ s, (f s).inputs = s.inputs) :
    KeepsPulsesBounded f :=
  keepsPulsesBounded_of_pulses fun s => pulses_of_inputs (same s)

theorem KeepsPulsesBounded.comp {f g : State → State} (outer : KeepsPulsesBounded f) (inner : KeepsPulsesBounded g) :
    KeepsPulsesBounded fun s => f (g s) :=
  fun s bounded => outer _ (inner s bounded)

theorem each_keepsPulsesBounded {α : Type} {f : State → α → State} (l : List α)
    (each : ∀ x, KeepsPulsesBounded fun s => f s x) : KeepsPulsesBounded fun s => s.each l f := by
  induction l with
  | nil => exact fun _ bounded => bounded
  | cons x l ih => exact fun s bounded => ih (f s x) (each x s bounded)

/-! ### The operations that change a pulse input -/

theorem followPin_keepsPulsesBounded (p : PulsePin) (level : Bool) : KeepsPulsesBounded (followPin p level) := by
  intro s bounded
  cases p with
  | product a ch =>
    unfold followPin
    simp only
    split
    · exact bounded.of_vmod _ (modPulse_pulses ..) fun x kept => by cases ch <;> exact kept
    · exact bounded
  | additive i => exact bounded.of_pulses (by simp [followPin])

theorem fallingEdge_keepsPulsesBounded (p : PulsePin) : KeepsPulsesBounded (fallingEdge p) := by
  intro s bounded
  cases p with
  | product a ch =>
    unfold fallingEdge
    simp only
    split
    · exact bounded.of_vmod _ (modPulse_pulses ..) fun x kept => kept.setLevel ch false
    · exact bounded
  | additive i => exact bounded.of_pulses (by simp [fallingEdge])

theorem PulseInput.Bounded.afterEdge {x : PulseInput} (bounded : x.Bounded) (dual : Bool) (ch : Channel) :
    (x.afterEdge dual ch).Bounded := by
  have counted : (x.counted ch).Bounded := by
    cases ch
    · exact (bounded.setLevel .a true).countEdge
    · exact bounded.setLevel .b true
  cases dual
  · exact counted
  · exact counted.pattern ch

@[simp] theorem pulseArrival_pulses (a : ArmNo) (s : State) : (pulseArrival a s).pulses = s.pulses := by
  unfold pulseArrival
  simp only
  split <;> simp [startNoFlow]

theorem risingEdge_keepsPulsesBounded (a : ArmNo) (ch : Channel) : KeepsPulsesBounded (risingEdge a ch) := by
  intro s bounded
  cases inUse : channelInUse (s.armCfg a) ch
  · rw [risingEdge_notInUse a ch s inUse]
    exact bounded
  · have checked : PulsesBounded (edgeChecked a ch s) :=
      bounded.of_vmod _ rfl fun x kept => kept.afterEdge (s.armCfg a).dual ch
    rw [risingEdge_inUse a ch s inUse]
    cases ch
    · exact checked.of_pulses (pulseArrival_pulses ..)
    · exact checked

theorem interval_keepsPulsesBounded_under (cfg : Configuration) (a : ArmNo) :
    KeepsPulsesBounded fun s => interval cfg a s :=
  fun s bounded => bounded.of_vmod _ (interval_pulses cfg a s) fun _ kept => ⟨Nat.zero_le _, kept.2⟩

theorem interval_keepsPulsesBounded (a : ArmNo) : KeepsPulsesBounded fun s => interval s.cfg a s :=
  fun s bounded => interval_keepsPulsesBounded_under s.cfg a s bounded

/-- Entry into LOW_START starts the flow values of the arm's pulse input (R10, R43). -/
theorem enterLowStart_pulses (a : ArmNo) (s : State) :
    (enterLowStart a s).pulses = vmod s.pulses a fun p => p.startOfFlow (s.armCfg a).dual := by
  have rest (t : State) : (enterState a .lowStart t).pulses = t.pulses := pulses_of_inputs (enterState_inputs ..)
  have noFlow (t : State) : (stopNoFlow a t).pulses = t.pulses := pulses_of_inputs (stopNoFlow_inputs ..)
  have demand (t : State) : (addDemand a t).pulses = t.pulses := pulses_of_inputs (addDemand_inputs ..)
  simp only [enterLowStart, push_pulses, demand, rest, noFlow, modArm_pulses, modMeter_pulses, modPulse_pulses]

theorem enterLowStart_keepsPulsesBounded (a : ArmNo) : KeepsPulsesBounded (enterLowStart a) :=
  fun s bounded => bounded.of_vmod _ (enterLowStart_pulses a s) fun _ kept => kept.startOfFlow (s.armCfg a).dual

theorem acceptStart_keepsPulsesBounded (b : BayNo) (a : ArmNo) (oc : OnArm) :
    KeepsPulsesBounded (acceptStart b a oc) :=
  fun s bounded => enterLowStart_keepsPulsesBounded a _ (bounded.of_pulses (by simp))

theorem startKey_keepsPulsesBounded (b : BayNo) (a : ArmNo) : KeepsPulsesBounded (startKey b a) := by
  intro s bounded
  unfold startKey
  split
  · exact bounded.of_pulses (sendShow_pulses ..)
  · exact bounded.of_pulses (sendShow_pulses ..)
  · next oc _ _ =>
    have asked : PulsesBounded (reserve (sessionPermit s b) oc.preset s).1 := bounded.of_pulses (reserve_pulses ..)
    split
    · next s1 granted =>
      rw [granted] at asked
      exact acceptStart_keepsPulsesBounded b a oc s1 asked
    · next s1 exceeded =>
      rw [exceeded] at asked
      exact asked.of_pulses (sendShow_pulses ..)
    · next s1 answer _ _ refused =>
      rw [refused] at asked
      exact asked.of_pulses (sendShow_pulses ..)

theorem resumeKey_keepsPulsesBounded (b : BayNo) (a : ArmNo) : KeepsPulsesBounded (resumeKey b a) := by
  intro s bounded
  unfold resumeKey
  split
  · exact bounded.of_pulses (by simp)
  · exact bounded.of_pulses (by simp)
  · split
    · exact enterLowStart_keepsPulsesBounded a _ (bounded.of_pulses (by simp))
    · exact bounded.of_pulses (by simp)

theorem retakeArmRecord_keepsPulsesBounded (wasUsed : Bool) (a : ArmNo) :
    KeepsPulsesBounded (retakeArmRecord wasUsed a) := by
  intro s bounded
  have retaken : (retakeArmRecord wasUsed a s).pulses
      = vmod s.pulses a fun _ => initialPulse (s.armCfg a) s.pins.pulseA[a] s.pins.pulseB[a] := by
    simp only [retakeArmRecord, retakeArm_pulses, retakeTemp_pulses, modMeter_pulses, modPulse_pulses]
  exact bounded.of_vmod _ retaken fun _ _ => initialPulse_bounded ..

/-- The first half of a commit: the early expiries of the changed arms, the new records in force, the arms' blocks told
(R39, R165). -/
def armsCommitted (c : Configuration) (digest : BitVec 16) (s : State) : State :=
  let arms := allArms.filter (armRecordChanged s.setup.active c)
  let t := s.each arms fun t a => interval s.cfg a t
  let t := { t with setup := { active := some c, digest := digest, working := none, timer := none, query := none } }
  t.each arms fun t a => retakeArmRecord s.cfg.arms[a].used a t

/-- The rest of a commit leaves the pulse inputs (R84, R139, R158). -/
theorem commit_pulses (c : Configuration) (digest : BitVec 16) (s : State) :
    (commit c digest s).pulses = (armsCommitted c digest s).pulses := by
  have drained (t : State) : (drain Config.requestFuel t).pulses = t.pulses := pulses_of_inputs (drain_inputs ..)
  unfold commit
  simp only [examineTrips_pulses, setMode_pulses, drained]
  exact each_pulses _ _ _ fun t i => retakeInjRecord_pulses _ i t

/-- The commit of a configuration: the early expiries hand their counts over, and the pulse inputs of changed arms start
anew (R12, R39, R165). -/
theorem commit_keepsPulsesBounded (c : Configuration) (digest : BitVec 16) : KeepsPulsesBounded (commit c digest) := by
  intro s bounded
  have early := each_keepsPulsesBounded (allArms.filter (armRecordChanged s.setup.active c))
    (interval_keepsPulsesBounded_under s.cfg) s bounded
  have told : PulsesBounded (armsCommitted c digest s) :=
    each_keepsPulsesBounded _ (fun a => retakeArmRecord_keepsPulsesBounded _ a) _ (early.of_pulses rfl)
  exact told.of_pulses (commit_pulses c digest s)

theorem putIntoService_keepsPulsesBounded : KeepsPulsesBounded putIntoService := by
  intro s bounded
  have start (a : ArmNo) : KeepsPulsesBounded fun t => startArm t a := fun t kept =>
    kept.of_vmod (fun _ => initialPulse (t.armCfg a) t.pins.pulseA[a] t.pins.pulseB[a]) rfl fun _ _ =>
      initialPulse_bounded ..
  exact (each_keepsPulsesBounded allArms start s bounded).of_pulses (each_pulses startInj allInjs _ fun _ _ => rfl)

/-- The start-up operation puts every pulse input into service anew (R12, R169). -/
theorem runStartUp_keepsPulsesBounded (cause : StartCause) (damaged : List RetainedCopy) :
    KeepsPulsesBounded (runStartUp cause damaged) := by
  intro s bounded
  let t : State := { s with nv := damaged.foldl Retained.lose s.nv }
  have closed : (cleanPermits (allBays.foldl (closeRetained cause) (readRetained t))).pulses = s.pulses :=
    (cleanPermits_pulses _).trans <| (closeAllRetained_pulses cause allBays (readRetained t)).trans (readRetained_pulses t)
  have inService : PulsesBounded
      (putIntoService (cleanPermits (allBays.foldl (closeRetained cause) (readRetained t)))) :=
    putIntoService_keepsPulsesBounded _ (bounded.of_pulses closed)
  have same : (runStartUp cause damaged s).pulses
      = (putIntoService (cleanPermits (allBays.foldl (closeRetained cause) (readRetained t)))).pulses := by
    simp only [runStartUp, settleCommand_pulses, setMode_pulses, startWorking_pulses, t]
  exact inService.of_pulses same

/-- Everything volatile lost leaves every pulse input as after reset (R168). -/
theorem blankVolatile_bounded (s : State) : PulsesBounded (blankVolatile s) := by
  intro a
  show (Vector.replicate 8 PulseInput.blank)[a].Bounded
  rw [Fin.getElem_fin, Vector.getElem_replicate]
  exact ⟨Nat.zero_le _, Nat.zero_lt_succ _, Nat.zero_le _⟩

theorem beginStartUp_bounded (cause : StartCause) (s : State) : PulsesBounded (beginStartUp cause s) :=
  (blankVolatile_bounded s).of_pulses rfl

/-! ### The frames that commands run in -/

/-- Whatever state the outcome goes on in keeps the bounds. -/
def BoundedNext (x : Host.Outcome State Fault Refusal) : Prop := ∀ t, x = .next t → PulsesBounded t

theorem boundedNext_next {t : State} (bounded : PulsesBounded t) : BoundedNext (.next t) := by
  intro u same
  cases same
  exact bounded

theorem boundedNext_fault (f : Fault) : BoundedNext (.fault f) := fun _ same => nomatch same

theorem boundedNext_refused (r : Refusal) : BoundedNext (.refused r) := fun _ same => nomatch same

section Frames

variable {f : State → State} {s : State}

theorem fresh_bounded (bounded : PulsesBounded s) : PulsesBounded s.fresh := bounded

theorem settled_bounded (keeps : KeepsPulsesBounded f) (bounded : PulsesBounded s) :
    PulsesBounded (settleCommand (f s)) :=
  (keeps s bounded).of_pulses (settleCommand_pulses _)

theorem inService_boundedNext (keeps : KeepsPulsesBounded f) (bounded : PulsesBounded s) :
    BoundedNext (inService f s) := by
  refine boundedNext_next ?_
  split
  · exact settled_bounded keeps (fresh_bounded bounded)
  · exact fresh_bounded bounded

theorem onPin_boundedNext {level : State → State} (pins : ∀ t, (level t).pulses = t.pulses)
    (keeps : KeepsPulsesBounded f) (bounded : PulsesBounded s) : BoundedNext (onPin level f s) := by
  have levelled : PulsesBounded (level s.fresh) := (fresh_bounded bounded).of_pulses (pins _)
  refine boundedNext_next ?_
  split
  · exact settled_bounded keeps levelled
  · exact levelled

theorem onReceiver_boundedNext (keeps : KeepsPulsesBounded f) (bounded : PulsesBounded s) :
    BoundedNext (.next (onReceiver f s)) := by
  refine boundedNext_next ?_
  unfold onReceiver
  split
  · exact bounded
  · exact keeps _ (fresh_bounded bounded)

theorem receiveFrame_boundedNext (keeps : KeepsPulsesBounded f) (bounded : PulsesBounded s) :
    BoundedNext (.next (receiveFrame f s)) := by
  have heard : PulsesBounded (linkUp (setReceiver .hunt s.fresh)) := bounded
  have hunting : PulsesBounded (setReceiver .hunt s.fresh) := bounded
  refine boundedNext_next ?_
  unfold receiveFrame
  split
  · exact bounded
  · split
    · exact fresh_bounded bounded
    · split
      · exact hunting
      · exact keeps _ hunting
  · split
    · exact fresh_bounded bounded
    · split
      · exact hunting
      · exact settled_bounded keeps heard

end Frames

/-! ### Requests of the host line -/

/-- A message's owner that keeps every pulse input within its bounds. -/
def OwnerKeepsBounded (owner : State → State × Answer) : Prop := KeepsPulsesBounded fun s => (owner s).1

theorem ownerKeepsBounded_of_pulses {owner : State → State × Answer} (same : ∀ s, (owner s).1.pulses = s.pulses) :
    OwnerKeepsBounded owner :=
  keepsPulsesBounded_of_pulses same

theorem noBody_keepsBounded {owner : State → State × Answer} (body : List Byte) (keeps : OwnerKeepsBounded owner) :
    OwnerKeepsBounded (noBody body owner) := by
  intro s bounded
  unfold noBody
  simp only
  split
  · exact keeps s bounded
  · exact bounded

theorem addressed_keepsPulsesBounded {owner : State → State × Answer} (kind : Byte) (keeps : OwnerKeepsBounded owner) :
    KeepsPulsesBounded (addressed kind owner) := by
  intro s bounded
  unfold addressed
  simp only
  split
  · exact (keeps s bounded).of_pulses rfl
  · exact bounded.of_pulses rfl

theorem allCall_keepsPulsesBounded {owner : State → State × Answer} (kind : Byte) (keeps : OwnerKeepsBounded owner) :
    KeepsPulsesBounded (allCall kind owner) := by
  intro s bounded
  unfold allCall
  split
  · split
    · next t _ answered =>
      have kept := keeps s bounded
      simp only [answered] at kept
      exact kept
    · exact bounded
  · exact bounded

theorem request_boundedNext {owner : State → State × Answer} {s : State} (kind : Byte) (keeps : OwnerKeepsBounded owner)
    (bounded : PulsesBounded s) : BoundedNext (request kind owner s) :=
  receiveFrame_boundedNext (addressed_keepsPulsesBounded kind keeps) bounded

theorem requestTo_boundedNext {owner : State → State × Answer} {s : State} (dest : Dest) (kind : Byte)
    (keeps : OwnerKeepsBounded owner) (bounded : PulsesBounded s) : BoundedNext (requestTo dest kind owner s) := by
  cases dest
  · exact request_boundedNext kind keeps bounded
  · exact receiveFrame_boundedNext (allCall_keepsPulsesBounded kind keeps) bounded

end Sys2Proof.Machine
end

section
/-! Every command and every tick keeps the bounds of the pulse inputs (O6). -/

namespace Sys2Proof.Machine

/-! ### The owners of the messages -/

@[simp] theorem answer_pulses (s : State) (r : ResultCode) : (s.answer r).1.pulses = s.pulses := rfl
@[simp] theorem okBytes_pulses (s : State) (l : List Byte) : (s.okBytes l).1.pulses = s.pulses := rfl

@[simp] theorem ite_owner_pulses (c : Prop) [Decidable c] (x y : State × Answer) :
    (if c then x else y).1.pulses = if c then x.1.pulses else y.1.pulses :=
  apply_ite (fun r : State × Answer => r.1.pulses) c x y

@[simp] theorem clockSetOwner_pulses (body : List Byte) (s : State) : (clockSetOwner body s).1.pulses = s.pulses := by
  simp [clockSetOwner]

/-- A status message reads (R177). -/
theorem unitStatus_pulses {n : Nat} (body : List Byte) (report : Fin n → State → ReplyBody) (s : State) :
    (unitStatus n body report s).1.pulses = s.pulses := by
  unfold unitStatus
  split
  · split <;> rfl
  · rfl

@[simp] theorem setupOpenOwner_pulses (s : State) : (setupOpenOwner s).1.pulses = s.pulses := by
  unfold setupOpenOwner
  split <;> rfl

@[simp] theorem configPutOwner_pulses (body : List Byte) (s : State) : (configPutOwner body s).1.pulses = s.pulses := by
  unfold configPutOwner
  split
  · rfl
  · split
    · split <;> rfl
    · rfl

@[simp] theorem configReadOwner_pulses (body : List Byte) (s : State) :
    (configReadOwner body s).1.pulses = s.pulses := by
  have read : (match readCopy s with
      | none => s.answer .notFound
      | some c => match c.record (fld body 0 1) (fld body 1 1) with
        | some r => s.okBytes r.bytes
        | none => s.answer .format).1.pulses = s.pulses := by
    split
    · rfl
    · split <;> rfl
  unfold configReadOwner
  simp only [ite_owner_pulses, answer_pulses, okBytes_pulses, ite_self]
  split
  · rfl
  · split
    · rfl
    · split
      · rfl
      · exact read

@[simp] theorem setupAbandonOwner_pulses (s : State) : (setupAbandonOwner s).1.pulses = s.pulses := by
  unfold setupAbandonOwner
  split
  · simp only [answer_pulses, examineTrips_pulses, setMode_pulses]
  · rfl

@[simp] theorem permitPutOwner_pulses (body : List Byte) (s : State) : (permitPutOwner body s).1.pulses = s.pulses := by
  unfold permitPutOwner
  split
  · rfl
  · split
    · rfl
    · split <;> rfl

@[simp] theorem permitReadOwner_pulses (body : List Byte) (s : State) :
    (permitReadOwner body s).1.pulses = s.pulses := by
  unfold permitReadOwner
  split
  · split <;> rfl
  · rfl

/-- A message that names a permit number leaves the pulse inputs where its owner does. -/
theorem namedPermit_pulses (body : List Byte) (owner : Nat → State → State × Answer)
    (same : ∀ n s, (owner n s).1.pulses = s.pulses) (s : State) : (namedPermit body owner s).1.pulses = s.pulses := by
  unfold namedPermit
  split
  · exact same _ s
  · rfl

@[simp] theorem setPermitState_pulses (next : PermitState) (n : Nat) (s : State) :
    (setPermitState next n s).1.pulses = s.pulses := by
  unfold setPermitState
  split
  · rfl
  · split <;> rfl

@[simp] theorem permitRemoveOwner_pulses (n : Nat) (s : State) : (permitRemoveOwner n s).1.pulses = s.pulses := by
  unfold permitRemoveOwner
  split
  · rfl
  · split <;> rfl

@[simp] theorem quotaSetOwner_pulses (body : List Byte) (s : State) : (quotaSetOwner body s).1.pulses = s.pulses := by
  unfold quotaSetOwner
  split
  · split
    · rfl
    · split <;> rfl
  · rfl

@[simp] theorem orderPutOwner_pulses (body : List Byte) (s : State) : (orderPutOwner body s).1.pulses = s.pulses := by
  unfold orderPutOwner
  split
  · rfl
  · split <;> rfl

@[simp] theorem orderReply_pulses (s : State) (o : Option Order) : (orderReply s o).1.pulses = s.pulses := by
  cases o <;> rfl

@[simp] theorem orderReadOwner_pulses (body : List Byte) (s : State) : (orderReadOwner body s).1.pulses = s.pulses := by
  unfold orderReadOwner
  simp only [ite_owner_pulses, answer_pulses, okBytes_pulses, orderReply_pulses, ite_self]
  split
  · rfl
  · split
    · split
      · exact orderReply_pulses ..
      · rfl
    · rfl

@[simp] theorem orderCancelOwner_pulses (body : List Byte) (s : State) :
    (orderCancelOwner body s).1.pulses = s.pulses := by
  unfold orderCancelOwner
  split
  · split
    · rfl
    · split
      · rfl
      · split <;> rfl
  · rfl

@[simp] theorem noteReadOwner_pulses (body : List Byte) (s : State) : (noteReadOwner body s).1.pulses = s.pulses := by
  unfold noteReadOwner
  split
  · rfl
  · split <;> rfl

@[simp] theorem noteReleaseOwner_pulses (body : List Byte) (s : State) :
    (noteReleaseOwner body s).1.pulses = s.pulses := by
  unfold noteReleaseOwner
  split
  · rfl
  · split <;> rfl

@[simp] theorem clearOwner_pulses (body : List Byte) (s : State) : (clearOwner body s).1.pulses = s.pulses := by
  unfold clearOwner
  split
  · rfl
  · simp only [ite_owner_pulses, answer_pulses, okBytes_pulses, clearAll_pulses, ite_self]

@[simp] theorem startTrip_pulses (cause : TripCause) (s : State) : (startTrip cause s).pulses = s.pulses :=
  pulses_of_inputs (startTrip_inputs cause s)

@[simp] theorem tripRequestOwner_pulses (s : State) : (tripRequestOwner s).1.pulses = s.pulses := by
  unfold tripRequestOwner
  split <;> simp only [answer_pulses, startTrip_pulses]

@[simp] theorem tripClearOwner_pulses (s : State) : (tripClearOwner s).1.pulses = s.pulses := by
  unfold tripClearOwner
  split <;> simp only [ite_owner_pulses, answer_pulses, setMode_pulses, ite_self]

@[simp] theorem sessionEndOwner_pulses (body : List Byte) (s : State) :
    (sessionEndOwner body s).1.pulses = s.pulses := by
  unfold sessionEndOwner
  split
  · simp only [ite_owner_pulses, answer_pulses, pulses_of_inputs (endSession_inputs ..), ite_self]
  · rfl

theorem setupCloseOwner_keepsBounded (body : List Byte) : OwnerKeepsBounded (setupCloseOwner body) := by
  intro s bounded
  unfold setupCloseOwner
  simp only
  split
  · exact bounded
  · split
    · next c _ _ =>
      split
      · exact bounded
      · split
        · exact (commit_keepsPulsesBounded c c.digestOf s bounded).of_pulses (answer_pulses ..)
        · exact bounded
    · exact bounded

/-! ### The remaining operations -/

theorem setupOpenFrame_keepsPulsesBounded (body : List Byte) : KeepsPulsesBounded fun s =>
    if s.mode = .run ∧ body = [] then setupQuery s else addressed 0x20 (noBody body setupOpenOwner) s := by
  intro s bounded
  simp only
  split
  · exact bounded
  · exact addressed_keepsPulsesBounded _
      (noBody_keepsBounded body (ownerKeepsBounded_of_pulses setupOpenOwner_pulses)) s bounded

theorem replyGone_keepsPulsesBounded : KeepsPulsesBounded replyGone := by
  intro s bounded
  unfold replyGone
  split
  · split
    · exact beginStartUp_bounded .restart s
    · exact bounded
  · exact bounded

theorem rackResetAt_pulses (s : State) : (rackResetAt s).pulses = s.pulses := by
  simp [rackResetAt, tripClearInTripped]

@[simp] theorem additivePulse_pulses (i : InjNo) (s : State) : (additivePulse i s).pulses = s.pulses := by
  simp only [additivePulse, ite_pulses, pulses_of_inputs (additivePulseAt_inputs ..), modInj_pulses, ite_self]

@[simp] theorem shotLimitAt_inputs (i : InjNo) (s : State) : (shotLimitAt i s).inputs = s.inputs :=
  endShot_inputs i .shortfall s

@[simp] theorem completionDue_inputs (a : ArmNo) (s : State) : (completionDue a s).inputs = s.inputs := by
  unfold completionDue
  split
  · exact testArm_inputs a s
  · split
    · simp only [ite_inputs, finishArm_inputs, ite_self]
    · rfl
  · rfl

@[simp] theorem startDelayReached_inputs (a : ArmNo) (s : State) : (startDelayReached a s).inputs = s.inputs := by
  unfold startDelayReached
  split
  · rfl
  · simp only [ite_inputs, releaseIfReady_inputs, modPump_inputs, ite_self]

@[simp] theorem switchChanged_inputs (a : ArmNo) (s : State) : (switchChanged a s).inputs = s.inputs := by
  unfold switchChanged
  split
  · simp only [push_inputs]
    split
    · exact compareSwitches_inputs a s
    · rfl
  · rfl

@[simp] theorem permitChanged_inputs (b : BayNo) (k : PermitInput) (s : State) :
    (permitChanged b k s).inputs = s.inputs := by
  simp only [permitChanged, reportPermissives_inputs, ite_inputs, activity_inputs, ite_self]

@[simp] theorem judgePress_inputs (b : BayNo) (s : State) : (judgePress b s).inputs = s.inputs := by
  unfold judgePress
  split
  · rfl
  · simp only [ite_inputs, deadmanViolation_inputs, restartDeadman_inputs, modBay_inputs, ite_self]

@[simp] theorem deadmanLateAt_inputs (b : BayNo) (s : State) : (deadmanLateAt b s).inputs = s.inputs := by
  unfold deadmanLateAt
  split
  · rfl
  · simp only [deadmanViolation_inputs, restartDeadman_inputs]

@[simp] theorem stopKey_inputs (b : BayNo) (a : ArmNo) (s : State) : (stopKey b a s).inputs = s.inputs := by
  simp only [stopKey, ite_inputs, sendShow_inputs, stopArm_inputs, ite_self]

@[simp] theorem finishKey_inputs (b : BayNo) (a : ArmNo) (s : State) : (finishKey b a s).inputs = s.inputs := by
  unfold finishKey
  simp only [ite_inputs, sendShow_inputs]
  split
  · rfl
  · split
    · rfl
    · split <;> simp only [finishArm_inputs, sendShow_inputs]

@[simp] theorem endKeyAt_inputs (b : BayNo) (s : State) : (endKeyAt b s).inputs = s.inputs := by
  unfold endKeyAt
  split <;> simp only [enterEnding_inputs, sendShow_inputs]

theorem resetKeyAt_pulses (b : BayNo) (s : State) : (resetKeyAt b s).pulses = s.pulses := by
  simp only [resetKeyAt, sendShow_pulses, clearAll_pulses]

/-- A key record is an activity event before it is judged, which leaves the pulse inputs (R122). -/
theorem withKey_keepsPulsesBounded {f : State → State} (b : BayNo) (keeps : KeepsPulsesBounded f) :
    KeepsPulsesBounded (withKey b f) :=
  fun s bounded => keeps _ (bounded.of_pulses (activity_pulses b .key s))

/-! ### Commands -/

theorem exec_boundedNext (c : Instr) {s : State} (bounded : PulsesBounded s) : BoundedNext (exec c s) := by
  cases c with
  | powerUp => exact boundedNext_next (beginStartUp_bounded .power s)
  | startUp damaged =>
    refine boundedNext_next ?_
    split
    · exact runStartUp_keepsPulsesBounded _ damaged _ (fresh_bounded bounded)
    · exact fresh_bounded bounded
  | acceptedRisingEdge arm channel =>
    exact inService_boundedNext ((risingEdge_keepsPulsesBounded arm channel).comp
      (keepsPulsesBounded_of_pulses (setPulsePin_pulses _ _))) bounded
  | acceptedFallingEdge pin =>
    exact inService_boundedNext ((fallingEdge_keepsPulsesBounded pin).comp
      (keepsPulsesBounded_of_pulses (setPulsePin_pulses _ _))) bounded
  | pulsePinChange pin level =>
    exact onPin_boundedNext (setPulsePin_pulses pin level) (followPin_keepsPulsesBounded pin level) bounded
  | readingRecord arm record =>
    cases record with
    | none => exact inService_boundedNext (keepsPulsesBounded_of_pulses fun _ => rfl) bounded
    | some r => exact inService_boundedNext (keepsPulsesBounded_of_pulses (recordArrival_pulses arm r)) bounded
  | recordTimerExpiry arm =>
    exact inService_boundedNext (keepsPulsesBounded_of_pulses (recordTimerAt_pulses arm)) bounded
  | intervalExpiry arm => 
    show BoundedNext (inService (fun t => interval t.cfg arm t) s)
    exact inService_boundedNext (interval_keepsPulsesBounded arm) bounded
  | valveSwitchChange arm switch level =>
    exact onPin_boundedNext (setSwitch_pulses arm switch level)
      (keepsPulsesBounded_of_inputs (switchChanged_inputs arm)) bounded
  | travelAllowanceExpiry arm =>
    exact inService_boundedNext (keepsPulsesBounded_of_inputs fun s => by simp [travelAt]) bounded
  | quietTimerExpiry arm =>
    exact inService_boundedNext (keepsPulsesBounded_of_inputs fun s => by simp [quietAt]) bounded
  | closingLimitExpiry arm =>
    exact inService_boundedNext (keepsPulsesBounded_of_inputs (closingLimitAt_inputs arm)) bounded
  | noFlowTimerExpiry arm =>
    exact inService_boundedNext (keepsPulsesBounded_of_inputs fun s => by simp [noFlowAt]) bounded
  | compartmentCompletion arm =>
    exact inService_boundedNext (keepsPulsesBounded_of_inputs (completionDue_inputs arm)) bounded
  | pumpStartDelayReached arm =>
    exact inService_boundedNext (keepsPulsesBounded_of_inputs (startDelayReached_inputs arm)) bounded
  | stopDelayExpiry pump =>
    exact inService_boundedNext (keepsPulsesBounded_of_inputs fun s => by simp [stopDelayAt]) bounded
  | additivePulse inj =>
    exact inService_boundedNext (keepsPulsesBounded_of_pulses fun t => additivePulse_pulses inj
      { t with pins := { t.pins with additive := vset t.pins.additive inj true } }) bounded
  | shotTimeLimit inj =>
    exact inService_boundedNext (keepsPulsesBounded_of_inputs (shotLimitAt_inputs inj)) bounded
  | settleTimeExpiry inj =>
    exact inService_boundedNext (keepsPulsesBounded_of_inputs (finishShot_inputs inj)) bounded
  | bayPermitChange bay permit level =>
    refine onPin_boundedNext (setPermitPin_pulses bay permit level) (keepsPulsesBounded_of_inputs fun u => ?_) bounded
    split
    · rfl
    · exact permitChanged_inputs bay permit u
  | deadmanPress bay held =>
    exact onPin_boundedNext (setDeadmanPin_pulses bay held)
      ((keepsPulsesBounded_of_inputs (judgePress_inputs bay)).comp
        (keepsPulsesBounded_of_inputs (activity_inputs bay .deadman))) bounded
  | deadmanWindowOpens bay => exact inService_boundedNext (keepsPulsesBounded_of_inputs fun _ => rfl) bounded
  | deadmanLate bay => exact inService_boundedNext (keepsPulsesBounded_of_inputs (deadmanLateAt_inputs bay)) bounded
  | attentionTimerExpiry bay =>
    exact inService_boundedNext (keepsPulsesBounded_of_inputs fun s => by simp [attentionAt]) bounded
  | abandonTimerExpiry bay =>
    exact inService_boundedNext (keepsPulsesBounded_of_inputs fun s => by simp [abandonAt]) bounded
  | noteFiling bay => exact inService_boundedNext (keepsPulsesBounded_of_inputs (filingTest_inputs bay)) bounded
  | card bay token => exact inService_boundedNext (keepsPulsesBounded_of_pulses (cardAt_pulses bay token)) bounded
  | select bay comp arm =>
    exact inService_boundedNext
      (withKey_keepsPulsesBounded bay (keepsPulsesBounded_of_pulses (selectKey_pulses bay comp arm))) bounded
  | start bay arm =>
    exact inService_boundedNext (withKey_keepsPulsesBounded bay (startKey_keepsPulsesBounded bay arm)) bounded
  | resume bay arm =>
    exact inService_boundedNext (withKey_keepsPulsesBounded bay (resumeKey_keepsPulsesBounded bay arm)) bounded
  | stop bay arm =>
    exact inService_boundedNext
      (withKey_keepsPulsesBounded bay (keepsPulsesBounded_of_inputs (stopKey_inputs bay arm))) bounded
  | finish bay arm =>
    exact inService_boundedNext
      (withKey_keepsPulsesBounded bay (keepsPulsesBounded_of_inputs (finishKey_inputs bay arm))) bounded
  | endKey bay =>
    exact inService_boundedNext
      (withKey_keepsPulsesBounded bay (keepsPulsesBounded_of_inputs (endKeyAt_inputs bay))) bounded
  | resetKey bay =>
    exact inService_boundedNext
      (withKey_keepsPulsesBounded bay (keepsPulsesBounded_of_pulses (resetKeyAt_pulses bay))) bounded
  | malformedRecord bay bytes => exact boundedNext_next (fresh_bounded bounded)
  | estopInputChange level =>
    exact onPin_boundedNext (setEstopPin_pulses level)
      (keepsPulsesBounded_of_pulses fun t => push_pulses t (.condition .estop (!level))) bounded
  | rackReset held =>
    exact onPin_boundedNext (setResetPin_pulses held)
      (keepsPulsesBounded_of_pulses rackResetAt_pulses) bounded
  | filterTimerExpiry inst =>
    exact inService_boundedNext (keepsPulsesBounded_of_inputs (filterExpiry_inputs inst)) bounded
  | tripDelayExpiry => exact inService_boundedNext (keepsPulsesBounded_of_inputs secondStage_inputs) bounded
  | setupTimerExpiry => exact inService_boundedNext (keepsPulsesBounded_of_pulses setupTimerAt_pulses) bounded
  | setupOpenDecision => exact inService_boundedNext (keepsPulsesBounded_of_pulses decideSetupOpen_pulses) bounded
  | linkTimeout =>
    exact inService_boundedNext (keepsPulsesBounded_of_pulses fun s => by simp [linkTimeoutAt]) bounded
  | clockSecond =>
    refine boundedNext_next ?_
    split
    · exact bounded
    · exact (fresh_bounded bounded).of_pulses (secondPasses_pulses _)
    · exact settled_bounded (keepsPulsesBounded_of_pulses secondPasses_pulses) (fresh_bounded bounded)
  | interByteGap =>
    exact onReceiver_boundedNext (keepsPulsesBounded_of_pulses fun s => by simp [setReceiver]) bounded
  | lineIdle => exact onReceiver_boundedNext (keepsPulsesBounded_of_pulses fun s => by simp [setReceiver]) bounded
  | frameDiscarded bytes =>
    exact onReceiver_boundedNext (keepsPulsesBounded_of_pulses fun s => by simp [discardFrame, setReceiver]) bounded
  | replyComplete => exact onReceiver_boundedNext replyGone_keepsPulsesBounded bounded
  | unknownKind kind body =>
    simp only [exec, execUnknownKind]
    split
    · exact onReceiver_boundedNext (keepsPulsesBounded_of_pulses fun s => by simp [setReceiver]) bounded
    · exact receiveFrame_boundedNext (keepsPulsesBounded_of_pulses fun _ => rfl) bounded
  | rackStatus body => exact request_boundedNext _ (noBody_keepsBounded body (ownerKeepsBounded_of_pulses fun _ => rfl)) bounded
  | bayStatus body => exact request_boundedNext _ (ownerKeepsBounded_of_pulses (unitStatus_pulses body _)) bounded
  | armStatus body => exact request_boundedNext _ (ownerKeepsBounded_of_pulses (unitStatus_pulses body _)) bounded
  | injectorStatus body => exact request_boundedNext _ (ownerKeepsBounded_of_pulses (unitStatus_pulses body _)) bounded
  | supervisionList body => exact request_boundedNext _ (noBody_keepsBounded body (ownerKeepsBounded_of_pulses fun _ => rfl)) bounded
  | totaliserRead body => exact request_boundedNext _ (noBody_keepsBounded body (ownerKeepsBounded_of_pulses fun _ => rfl)) bounded
  | clockSet dest body =>
    exact requestTo_boundedNext dest _ (ownerKeepsBounded_of_pulses (clockSetOwner_pulses body)) bounded
  | setupOpen body => exact receiveFrame_boundedNext (setupOpenFrame_keepsPulsesBounded body) bounded
  | configPut body => exact request_boundedNext _ (ownerKeepsBounded_of_pulses (configPutOwner_pulses body)) bounded
  | configRead body => exact request_boundedNext _ (ownerKeepsBounded_of_pulses (configReadOwner_pulses body)) bounded
  | setupClose body => exact request_boundedNext _ (setupCloseOwner_keepsBounded body) bounded
  | setupAbandon body =>
    exact request_boundedNext _
      (noBody_keepsBounded body (ownerKeepsBounded_of_pulses setupAbandonOwner_pulses)) bounded
  | permitPut body => exact request_boundedNext _ (ownerKeepsBounded_of_pulses (permitPutOwner_pulses body)) bounded
  | permitRead body => exact request_boundedNext _ (ownerKeepsBounded_of_pulses (permitReadOwner_pulses body)) bounded
  | permitSuspend body =>
    exact request_boundedNext _
      (ownerKeepsBounded_of_pulses (namedPermit_pulses body _ (setPermitState_pulses .suspended))) bounded
  | permitReinstate body =>
    exact request_boundedNext _
      (ownerKeepsBounded_of_pulses (namedPermit_pulses body _ (setPermitState_pulses .active))) bounded
  | permitRemove body =>
    exact request_boundedNext _
      (ownerKeepsBounded_of_pulses (namedPermit_pulses body _ permitRemoveOwner_pulses)) bounded
  | quotaSet body => exact request_boundedNext _ (ownerKeepsBounded_of_pulses (quotaSetOwner_pulses body)) bounded
  | orderPut body => exact request_boundedNext _ (ownerKeepsBounded_of_pulses (orderPutOwner_pulses body)) bounded
  | orderRead body => exact request_boundedNext _ (ownerKeepsBounded_of_pulses (orderReadOwner_pulses body)) bounded
  | orderCancel body =>
    exact request_boundedNext _ (ownerKeepsBounded_of_pulses (orderCancelOwner_pulses body)) bounded
  | sessionEnd body => exact request_boundedNext _ (ownerKeepsBounded_of_pulses (sessionEndOwner_pulses body)) bounded
  | noteIndex body =>
    exact request_boundedNext _
      (noBody_keepsBounded body (ownerKeepsBounded_of_pulses fun _ => rfl)) bounded
  | noteRead body => exact request_boundedNext _ (ownerKeepsBounded_of_pulses (noteReadOwner_pulses body)) bounded
  | noteRelease body =>
    exact request_boundedNext _ (ownerKeepsBounded_of_pulses (noteReleaseOwner_pulses body)) bounded
  | supervisionClear body =>
    exact request_boundedNext _ (ownerKeepsBounded_of_pulses (clearOwner_pulses body)) bounded
  | tripRequest dest body =>
    exact requestTo_boundedNext dest _
      (noBody_keepsBounded body (ownerKeepsBounded_of_pulses tripRequestOwner_pulses)) bounded
  | tripClear body =>
    exact request_boundedNext _
      (noBody_keepsBounded body (ownerKeepsBounded_of_pulses tripClearOwner_pulses)) bounded
  | restart body =>
    exact request_boundedNext _
      (noBody_keepsBounded body (ownerKeepsBounded_of_pulses fun _ => rfl)) bounded
  | powerLoss lost => exact boundedNext_next ((blankVolatile_bounded s).of_pulses rfl)
  | startByte => exact onReceiver_boundedNext (keepsPulsesBounded_of_pulses fun s => by simp [setReceiver]) bounded
  | lengthAbove1024 =>
    exact onReceiver_boundedNext (keepsPulsesBounded_of_pulses fun s => by simp [setReceiver]) bounded

/-! ### The tick -/

/-- The filters of the pulse inputs advance, and nothing else of them does. -/
theorem advance_keepsPulsesBounded : KeepsPulsesBounded advance := by
  intro s bounded a
  show (vmap PulseInput.tick s.pulses)[a].Bounded
  rw [Fin.getElem_fin, vmap_get]
  exact bounded a

@[simp] theorem keepEarlier_pulses (before after : State) : (keepEarlier before after).pulses = after.pulses := rfl

theorem performDue_boundedNext (l : List Instr) {s : State} (bounded : PulsesBounded s) :
    BoundedNext (performDue exec l s) := by
  induction l generalizing s with
  | nil => exact boundedNext_next bounded
  | cons c rest ih =>
    unfold performDue
    split
    · split
      · next t performed =>
        have after : PulsesBounded t := exec_boundedNext c bounded t performed
        have kept : PulsesBounded (keepEarlier s t) := after.of_pulses (keepEarlier_pulses s t)
        exact ih kept
      · exact boundedNext_fault _
      · exact boundedNext_refused _
    · exact ih bounded

theorem tick_boundedNext {s : State} (bounded : PulsesBounded s) : BoundedNext (tick exec s) := by
  unfold tick
  split
  · exact performDue_boundedNext _ (advance_keepsPulsesBounded _ (fresh_bounded bounded))
  · exact exec_boundedNext (.startUp []) bounded
  · exact boundedNext_next bounded

/-- Settles O6: a step is a command of the queue or a tick, and each keeps the bounds. -/
theorem pulseInputsStayBounded : Obligations.PulseInputsStayBounded := by
  intro s t bounded stepped
  unfold step at stepped
  split at stepped
  · exact tick_boundedNext bounded t stepped
  · next c rest _ =>
    have queued : PulsesBounded { s with pending := rest } := bounded
    exact exec_boundedNext c queued t stepped

end Sys2Proof.Machine
end

section
/-! The pulse pins (O15, O16): a pin change at its noise filter, and an accepted falling edge. -/

namespace Sys2Proof.Machine

/-! ### Channels in use -/

@[simp] theorem channelInUse_a (c : ArmCfg) : channelInUse c .a = c.used := Bool.and_true _

@[simp] theorem channelInUse_b (c : ArmCfg) : channelInUse c .b = (c.used && c.dual) := rfl

@[simp] theorem setPulsePin_armCfg (p : PulsePin) (level : Bool) (s : State) (a : ArmNo) :
    (setPulsePin p level s).armCfg a = s.armCfg a := by
  unfold setPulsePin
  split <;> rfl

@[simp] theorem setPulsePin_injCfg (p : PulsePin) (level : Bool) (s : State) (i : InjNo) :
    (setPulsePin p level s).injCfg i = s.injCfg i := by
  unfold setPulsePin
  split <;> rfl

@[simp] theorem setPulsePin_inbox (p : PulsePin) (level : Bool) (s : State) :
    (setPulsePin p level s).inbox = s.inbox := by
  unfold setPulsePin
  split <;> rfl

@[simp] theorem fresh_armCfg (s : State) (a : ArmNo) : s.fresh.armCfg a = s.armCfg a := rfl
@[simp] theorem fresh_injCfg (s : State) (i : InjNo) : s.fresh.injCfg i = s.injCfg i := rfl

/-! ### The noise filter -/

/-- A channel's noise filter after a pin change (R3). -/
def PulseInput.follow (x : PulseInput) (ch : Channel) (level : Bool) (width : Nat) : PulseInput :=
  match ch with
  | .a => { x with filterA := filterAfter x.filterA x.levelA level width }
  | .b => { x with filterB := filterAfter x.filterB x.levelB level width }

theorem followPin_product_inUse {a : ArmNo} {ch : Channel} {s : State} (level : Bool)
    (inUse : channelInUse (s.armCfg a) ch = true) :
    followPin (.product a ch) level s
      = s.modPulse a fun x => x.follow ch level (filterWidth (s.armCfg a).minPulse) := by
  cases ch <;> exact if_pos inUse

theorem followPin_product_notInUse {a : ArmNo} {ch : Channel} {s : State} (level : Bool)
    (notInUse : channelInUse (s.armCfg a) ch = false) : followPin (.product a ch) level s = s :=
  if_neg (by simp [notInUse])

theorem followPin_additive_used {i : InjNo} {s : State} (level : Bool) (used : (s.injCfg i).used = true) :
    followPin (.additive i) level s = s.modInj i fun x =>
      { x with filter := filterAfter x.filter x.level level Config.additiveFilterTicks } :=
  if_pos used

theorem followPin_additive_unused {i : InjNo} {s : State} (level : Bool) (unused : (s.injCfg i).used = false) :
    followPin (.additive i) level s = s :=
  if_neg (by simp [unused])

/-! ### The command -/

theorem followPin_inbox (p : PulsePin) (level : Bool) (s : State) : (followPin p level s).inbox = s.inbox := by
  cases p <;> simp only [followPin, apply_ite State.inbox, modPulse_inbox, modInj_inbox, ite_self]

/-- A pulse pin change sends nothing: its next state is the level, the noise filter and the retained write (R3). -/
theorem exec_pulsePinChange {s : State} (ready : Ready s) (p : PulsePin) (level : Bool) :
    exec (.pulsePinChange p level) s = .next (followPin p level (setPulsePin p level s.fresh)).write :=
  (onPin_ready (setPulsePin p level) (followPin p level) s ready).trans <| congrArg Host.Outcome.next <|
    settleCommand_nil _ ((followPin_inbox ..).trans ((setPulsePin_inbox ..).trans ready.2))

/-- Settles O15: the pin in use by the filter's rule, the pin not in use by its level alone. -/
theorem pulsePinStartsItsFilter : Obligations.PulsePinStartsItsFilter := by
  intro s level ready
  have change (p : PulsePin) := exec_pulsePinChange ready p level
  refine ⟨fun a => ⟨fun used => ?_, fun unused => ?_⟩, fun a used dual => ?_, fun a notInUse => ?_,
    fun i unused => ?_, fun i used => ?_⟩
  · rw [change, followPin_product_inUse level (by simpa using used)]
    rfl
  · rw [change, followPin_product_notInUse level (by simpa using unused)]
    rfl
  · rw [change, followPin_product_inUse level (by simpa using ⟨used, dual⟩)]
    rfl
  · rw [change, followPin_product_notInUse level (by simpa [imp_iff_not_or] using notInUse)]
    rfl
  · rw [change, followPin_additive_unused level (by simpa using unused)]
    rfl
  · rw [change, followPin_additive_used level (by simpa using used)]
    rfl

/-! ### Falling edges -/

theorem fallingEdge_product_inUse {a : ArmNo} {ch : Channel} {s : State}
    (inUse : channelInUse (s.armCfg a) ch = true) :
    fallingEdge (.product a ch) s = s.modPulse a fun x => x.setLevel ch false :=
  if_pos inUse

theorem fallingEdge_additive_used {i : InjNo} {s : State} (used : (s.injCfg i).used = true) :
    fallingEdge (.additive i) s = s.modInj i fun x => { x with level := false, filter := none } :=
  if_pos used

theorem fallingEdge_inbox (p : PulsePin) (s : State) : (fallingEdge p s).inbox = s.inbox := by
  cases p <;> simp only [fallingEdge, apply_ite State.inbox, modPulse_inbox, modInj_inbox, ite_self]

/-- An accepted falling edge sends nothing (R3, R69). -/
theorem exec_acceptedFallingEdge {s : State} (ready : Ready s) (p : PulsePin) :
    exec (.acceptedFallingEdge p) s = .next (fallingEdge p (setPulsePin p false s.fresh)).write :=
  (inService_ready (fun s => fallingEdge p (setPulsePin p false s)) s ready).trans <| congrArg Host.Outcome.next <|
    settleCommand_nil _ ((fallingEdge_inbox ..).trans ((setPulsePin_inbox ..).trans ready.2))

/-- Settles O16: one case for each pin that accepts an edge. -/
theorem fallingEdgeOnlyLowersTheLevel : Obligations.FallingEdgeOnlyLowersTheLevel := by
  intro s ready
  refine ⟨fun a used => ?_, fun a used dual => ?_, fun i used => ?_⟩
  · rw [exec_acceptedFallingEdge ready, fallingEdge_product_inUse (by simpa using used)]
    rfl
  · rw [exec_acceptedFallingEdge ready, fallingEdge_product_inUse (by simpa using ⟨used, dual⟩)]
    rfl
  · rw [exec_acceptedFallingEdge ready, fallingEdge_additive_used (by simpa using used)]
    rfl

end Sys2Proof.Machine
end

section
/-! The temperature lines (O19): a reading record, a dropped record, and the record timer. -/

namespace Sys2Proof.Machine

/-- A probe fault condition set (R14): the receivers after it. -/
theorem setProbeFault_temps (a : ArmNo) (present : Bool) (s : State) :
    (setProbeFault a present s).temps = vmod s.temps a fun x => { x with fault := present } := by
  unfold setProbeFault
  split
  · next same =>
    apply vec_ext
    intro i
    rw [vmod_get]
    split
    · next here => subst here; rw [← same]; rfl
    · rfl
  · rfl

/-- A probe fault condition set (R14): what is sent. -/
theorem setProbeFault_inbox (a : ArmNo) (present : Bool) (s : State) :
    (setProbeFault a present s).inbox
      = s.inbox ++ if s.temps[a].fault = present then [] else [.condition (.tempProbe a) present] := by
  unfold setProbeFault
  split
  · exact (List.append_nil _).symm
  · rfl

/-- A receiver changed and then judged: its fault condition is the verdict, a change of it is sent, and nothing else
changes (R13, R14). -/
theorem setProbeFault_modTemp {a : ArmNo} (f : TempReceiver → TempReceiver) (keeps : ∀ t, (f t).fault = t.fault)
    (present : Bool) (s : State) :
    setProbeFault a present (s.modTemp a f)
      = { s with
          temps := vmod s.temps a fun t => { f t with fault := present }
          inbox := s.inbox ++ if s.temps[a].fault = present then [] else [.condition (.tempProbe a) present] } := by
  have frame (t : State) : setProbeFault a present t
      = { t with temps := (setProbeFault a present t).temps, inbox := (setProbeFault a present t).inbox } := by
    unfold setProbeFault
    split <;> rfl
  rw [frame, setProbeFault_temps, setProbeFault_inbox]
  simp only [State.modTemp, vmod_vmod, Fin.getElem_fin, vmod_self, keeps]

/-- The receiver after a reading, before the fault condition is judged (R13). -/
def TempReceiver.store (t : TempReceiver) (x : Reading) : TempReceiver :=
  { t with
      lastReading := some x, lastGood := if x.good then some x.corrected else t.lastGood
      recordTimer := some (Timer.start Config.recordTicks) }

/-- The receiver with its record timer at its limit (R14). -/
def TempReceiver.timeOut (t : TempReceiver) : TempReceiver := { t with recordTimer := t.recordTimer.map Timer.atLimit }

/-- A record on a used arm's line is stored, and the condition is the reading's not being good (R13, R14). -/
theorem recordArrival_used {a : ArmNo} {s : State} (r : ReadingRecord) (used : (s.armCfg a).used = true) :
    let x := correct (s.armCfg a).tempOffset r
    recordArrival a r s
      = { s with
          temps := vmod s.temps a fun t => { t.store x with fault := !x.good }
          inbox := s.inbox ++ if s.temps[a].fault = !x.good then [] else [.condition (.tempProbe a) (!x.good)] } :=
  (if_pos used).trans (setProbeFault_modTemp (fun t => t.store _) (fun _ => rfl) _ s)

/-- The record timer of a used arm runs out: the condition is present (R14). -/
theorem recordTimerAt_used {a : ArmNo} {s : State} (running : isRunning s.temps[a].recordTimer = true)
    (used : (s.armCfg a).used = true) :
    recordTimerAt a s
      = { s with
          temps := vmod s.temps a fun t => { t.timeOut with fault := true }
          inbox := s.inbox ++ if s.temps[a].fault = true then [] else [.condition (.tempProbe a) true] } :=
  (if_pos running).trans <| (if_pos used).trans (setProbeFault_modTemp TempReceiver.timeOut (fun _ => rfl) true s)

/-- A running timer taken to its limit has run out. -/
theorem hasRunOut_atLimit {t : Option Timer} (running : isRunning t = true) : hasRunOut (t.map Timer.atLimit) = true := by
  cases t with
  | none => cases running
  | some t => simp [hasRunOut, Timer.atLimit, Timer.running]

/-- The good test of R13 as a proposition. -/
theorem correct_eq (offset : Int) (r : ReadingRecord) :
    correct offset r = ⟨r.reading.toInt + offset, r.status,
      decide (r.status = .good ∧ -4000 ≤ r.reading.toInt + offset ∧ r.reading.toInt + offset ≤ 9000)⟩ := by
  simp only [correct, Bool.decide_and, Bool.and_assoc]

/-- Settles O19: the record, the dropped record, the record timer. -/
theorem readingsAreJudgedAndTimed : Obligations.ReadingsAreJudgedAndTimed := by
  intro s a ready used
  have empty : s.fresh.inbox = [] := ready.2
  have usedFresh : (s.fresh.armCfg a).used = true := used
  refine ⟨fun r => ?_, ?_, fun running => ?_⟩
  · refine ⟨_, inService_ready (recordArrival a r) s ready, ?_⟩
    rw [recordArrival_used r usedFresh, correct_eq, empty]
    exact ⟨vmod_self .., rfl, fun x other => vmod_other _ _ _ _ other, rfl⟩
  · exact (inService_ready id s ready).trans (congrArg Host.Outcome.next (settleCommand_nil _ empty))
  · have runningFresh : isRunning s.fresh.temps[a].recordTimer = true := running
    refine ⟨_, inService_ready (recordTimerAt a) s ready, ?_⟩
    rw [recordTimerAt_used runningFresh usedFresh, empty]
    simp only [Fin.getElem_fin, vmod_self]
    exact ⟨trivial, hasRunOut_atLimit running, rfl, rfl, rfl, fun x other => vmod_other _ _ _ _ other, trivial⟩

end Sys2Proof.Machine
end

section
/-! Accepted rising edges (O17, O18): the count, the pattern checker by its table, the pulse arrival, and the command. -/

namespace Sys2Proof.Machine

/-! ### The count (R5) -/

/-- What counting an edge on channel A makes of the count and its saturation mark (R5). -/
theorem countEdge_cases (x : PulseInput) :
    (x.saturated = true ∧ x.countEdge = (x, false)) ∨
    (x.saturated = false ∧ x.count < 65534 ∧ x.countEdge = ({ x with count := x.count + 1 }, false)) ∨
    (x.saturated = false ∧ 65534 ≤ x.count ∧ x.countEdge = ({ x with count := 65535, saturated := true }, true)) := by
  unfold PulseInput.countEdge
  cases marked : x.saturated
  · by_cases below : x.count + 1 < 65535
    · exact .inr (.inl ⟨rfl, by omega, by rw [if_neg Bool.false_ne_true, if_pos below]⟩)
    · exact .inr (.inr ⟨rfl, by omega, by rw [if_neg Bool.false_ne_true, if_neg below]⟩)
  · exact .inl ⟨rfl, if_pos rfl⟩

/-- The edge that brings the count to 65535 saturates it (R5). -/
theorem saturates_a (x : PulseInput) : x.saturates .a = decide (x.saturated = false ∧ 65534 ≤ x.count) := by
  have counted := countEdge_cases (x.setLevel .a true)
  show (x.setLevel .a true).countEdge.2 = _
  rcases counted with ⟨marked, eq⟩ | ⟨clear, below, eq⟩ | ⟨clear, reached, eq⟩ <;> rw [eq]
  · exact (decide_eq_false fun h => absurd (h.1.symm.trans marked) Bool.false_ne_true).symm
  · exact (decide_eq_false fun h => absurd below (Nat.not_lt.2 h.2)).symm
  · exact (decide_eq_true ⟨clear, reached⟩).symm

/-- The level and the figures of R5 after an edge on channel A. -/
theorem counted_a (x : PulseInput) :
    (x.counted .a).levelA = true ∧
    (x.saturated = true → (x.counted .a).count = x.count ∧ (x.counted .a).saturated = true) ∧
    (x.saturated = false → x.count < 65534 →
      (x.counted .a).count = x.count + 1 ∧ (x.counted .a).saturated = false) ∧
    (x.saturated = false → 65534 ≤ x.count → (x.counted .a).count = 65535 ∧ (x.counted .a).saturated = true) := by
  show (x.setLevel .a true).countEdge.1.levelA = true ∧ _
  unfold PulseInput.counted
  rcases countEdge_cases (x.setLevel .a true) with ⟨marked, eq⟩ | ⟨clear, below, eq⟩ | ⟨clear, reached, eq⟩ <;>
    simp_all [PulseInput.setLevel]

/-! ### The pattern checker (R7 to R9) -/

/-- The pattern checker leaves the levels and the count. -/
theorem pattern_keeps (x : PulseInput) (ch : Channel) :
    (x.pattern ch).1.levelA = x.levelA ∧ (x.pattern ch).1.levelB = x.levelB ∧ (x.pattern ch).1.count = x.count
      ∧ (x.pattern ch).1.saturated = x.saturated := by
  have violation : x.violation.1.levelA = x.levelA ∧ x.violation.1.levelB = x.levelB ∧ x.violation.1.count = x.count
      ∧ x.violation.1.saturated = x.saturated := by
    unfold PulseInput.violation
    split <;> exact ⟨rfl, rfl, rfl, rfl⟩
  unfold PulseInput.pattern
  split
  case h_3 => exact violation
  case h_6 => exact violation
  all_goals exact ⟨rfl, rfl, rfl, rfl⟩

theorem afterEdge_keeps (x : PulseInput) (dual : Bool) (ch : Channel) :
    (x.afterEdge dual ch).levelA = (x.counted ch).levelA ∧ (x.afterEdge dual ch).levelB = (x.counted ch).levelB
      ∧ (x.afterEdge dual ch).count = (x.counted ch).count
      ∧ (x.afterEdge dual ch).saturated = (x.counted ch).saturated := by
  cases dual
  · exact ⟨rfl, rfl, rfl, rfl⟩
  · exact pattern_keeps (x.counted ch) ch

section Table

variable {x : PulseInput} {ch : Channel}

/-- The first edge of all starts the pattern on its channel. -/
theorem afterEdge_first (first : x.last = .none) :
    (x.afterEdge true ch).last = channelMark ch ∧ (x.afterEdge true ch).score = x.score
      ∧ (x.afterEdge true ch).cleanPairs = x.cleanPairs ∧ (x.afterEdge true ch).locked = x.locked := by
  obtain ⟨last, score, pairs, locked⟩ := counted_checker x ch
  have table : x.afterEdge true ch = { x.counted ch with last := channelMark ch } := by
    cases ch <;> simp only [PulseInput.afterEdge, PulseInput.pattern, last, first, if_true, channelMark]
  rw [table]
  exact ⟨rfl, score, pairs, locked⟩

/-- An A edge after a B edge begins the next pair. -/
theorem afterEdge_next (turn : x.last = .b) :
    (x.afterEdge true .a).last = .a ∧ (x.afterEdge true .a).score = x.score
      ∧ (x.afterEdge true .a).cleanPairs = x.cleanPairs ∧ (x.afterEdge true .a).locked = x.locked := by
  obtain ⟨last, score, pairs, locked⟩ := counted_checker x .a
  have table : x.afterEdge true .a = { x.counted .a with last := .a } := by
    simp only [PulseInput.afterEdge, PulseInput.pattern, last, turn, if_true]
  rw [table]
  exact ⟨rfl, score, pairs, locked⟩

/-- A B edge after an A edge is a clean pair (R8, R9). -/
theorem afterEdge_pair (turn : x.last = .a) :
    (x.afterEdge true .b).last = .b ∧ (x.afterEdge true .b).score = x.score - 1
      ∧ (x.afterEdge true .b).cleanPairs = (if x.cleanPairs < 64 then x.cleanPairs + 1 else x.cleanPairs)
      ∧ (64 ≤ (x.afterEdge true .b).cleanPairs → (x.afterEdge true .b).locked = true)
      ∧ ((x.afterEdge true .b).cleanPairs < 64 → (x.afterEdge true .b).locked = x.locked) := by
  obtain ⟨last, score, pairs, locked⟩ := counted_checker x .b
  have table : x.afterEdge true .b = { (x.counted .b).cleanPair with last := .b } := by
    simp only [PulseInput.afterEdge, PulseInput.pattern, last, turn, if_true]
  rw [table]
  exact ⟨rfl, rfl, rfl, fun full => if_pos full, fun short => (if_neg (Nat.not_le.2 short)).trans locked⟩

/-- A second edge of one channel is a violation (R8, R9). -/
theorem afterEdge_repeat (again : x.last = channelMark ch) :
    (x.afterEdge true ch).last = x.last ∧ (x.afterEdge true ch).cleanPairs = 0
      ∧ (x.afterEdge true ch).locked = false
      ∧ (x.score + 16 < 256 → (x.afterEdge true ch).score = x.score + 16)
      ∧ (256 ≤ x.score + 16 → (x.afterEdge true ch).score = 0) := by
  obtain ⟨last, score, pairs, locked⟩ := counted_checker x ch
  have table : x.afterEdge true ch = (x.counted ch).violation.1 := by
    cases ch <;> simp only [PulseInput.afterEdge, PulseInput.pattern, last, again, if_true, channelMark]
  rw [table]
  unfold PulseInput.violation
  rw [score]
  split
  · next full => exact ⟨last, rfl, rfl, fun below => absurd full (Nat.not_le.2 below), fun _ => rfl⟩
  · next below => exact ⟨last, rfl, rfl, fun _ => rfl, fun full => absurd full below⟩

/-- The violation that brings the score to 256 is among the events of its edge (R8). -/
theorem edgeEvents_repeat (a : ArmNo) (again : x.last = channelMark ch) (full : 256 ≤ x.score + 16) :
    .event (.meterPulse a) ∈ x.edgeEvents a true ch := by
  have raised : (x.pattern ch).2 = true := by
    rw [pattern_raises]
    exact decide_eq_true ⟨again, full⟩
  simp [PulseInput.edgeEvents, raised]

end Table

/-! ### The pulse arrival (R6, R48, R59) -/

/-- A NO_FLOW condition set changes the arm and sends its notice, and nothing else (R59). -/
theorem setNoFlowCond_eq (a : ArmNo) (p : Bool) (s : State) :
    setNoFlowCond a p s
      = { s with
          arms := vmod s.arms a fun x => { x with noFlowCond := p }
          inbox := s.inbox ++ if s.arms[a].noFlowCond = p then [] else [.condition (.noFlow a) p] } := by
  have frame : setNoFlowCond a p s
      = { s with arms := (setNoFlowCond a p s).arms, inbox := (setNoFlowCond a p s).inbox } := by
    unfold setNoFlowCond
    split <;> rfl
  have sent : (setNoFlowCond a p s).inbox
      = s.inbox ++ if s.arms[a].noFlowCond = p then [] else [.condition (.noFlow a) p] := by
    unfold setNoFlowCond
    split
    · exact (List.append_nil _).symm
    · rfl
  rw [frame, setNoFlowCond_arms, sent]

/-- The arrival restarts the no-flow timer: in LOW_START, once the pump wait has started it (R59). -/
def restartsNoFlow (x : Arm) : Bool := x.state = .lowStart && x.noFlowTimer.isSome

/-- An arm told of a pulse arrival. -/
def Arm.pulsed (x : Arm) (noFlowTime : Nat) : Arm :=
  { x with
      quiet := 0
      noFlowTimer := if restartsNoFlow x then some (Timer.start (noFlowTime * ticksPerTenth)) else x.noFlowTimer
      noFlowCond := if restartsNoFlow x then false else x.noFlowCond }

/-- A pulse arrival changes the arm, and reports the end of a NO_FLOW condition (R6, R48, R59). -/
theorem pulseArrival_eq (a : ArmNo) (s : State) :
    pulseArrival a s
      = { s with
          arms := vmod s.arms a fun x => x.pulsed (s.armCfg a).noFlowTime
          inbox := s.inbox ++
            if restartsNoFlow s.arms[a] && s.arms[a].noFlowCond then [.condition (.noFlow a) false] else [] } := by
  have quieted : pulseArrival a s = if restartsNoFlow s.arms[a] then
      setNoFlowCond a false (startNoFlow a (s.modArm a fun x => { x with quiet := 0 }))
    else s.modArm a fun x => { x with quiet := 0 } := by
    unfold pulseArrival restartsNoFlow
    simp only [modArm_arms, Fin.getElem_fin, vmod_self]
    split
    · next inLowStart timed => simp only [inLowStart, timed, decide_true, Option.isSome_some, Bool.and_true, if_true]
    · next other =>
      refine (if_neg fun restarts => ?_).symm
      obtain ⟨inLowStart, timed⟩ := (Bool.and_eq_true _ _).mp restarts
      obtain ⟨t, timed⟩ := Option.isSome_iff_exists.1 timed
      exact other t (of_decide_eq_true inLowStart) timed
  rw [quieted]
  cases restarts : restartsNoFlow s.arms[a]
  · have arms : vmod s.arms a (fun x => x.pulsed (s.armCfg a).noFlowTime)
        = vmod s.arms a fun x => { x with quiet := 0 } :=
      vmod_congr (by simp only [Arm.pulsed, Fin.getElem_fin] at restarts ⊢; simp [restarts])
    simp [arms, State.modArm]
  · have arms : vmod s.arms a (fun x => x.pulsed (s.armCfg a).noFlowTime)
        = vmod s.arms a fun x => { x with
            quiet := 0, noFlowTimer := some (Timer.start ((s.armCfg a).noFlowTime * ticksPerTenth)), noFlowCond := false } :=
      vmod_congr (by simp only [Arm.pulsed, Fin.getElem_fin] at restarts ⊢; simp [restarts])
    rw [if_pos rfl, setNoFlowCond_eq, arms]
    have sent : (if s.arms[a].noFlowCond = false then [] else [Notice.condition (.noFlow a) false])
        = if true && s.arms[a].noFlowCond then [.condition (.noFlow a) false] else [] := by
      cases s.arms[a].noFlowCond <;> rfl
    simp only [startNoFlow, State.modArm, vmod_vmod, Fin.getElem_fin, vmod_self] at sent ⊢
    rw [sent]
    rfl

/-! ### The command -/

/-- Every command of a rising edge is its level and the edge's operation (R3). -/
theorem exec_acceptedRisingEdge {s : State} (ready : Ready s) (a : ArmNo) (ch : Channel) :
    exec (.acceptedRisingEdge a ch) s
      = .next (settleCommand (risingEdge a ch (setPulsePin (.product a ch) true s.fresh))) :=
  inService_ready (fun s => risingEdge a ch (setPulsePin (.product a ch) true s)) s ready

/-- An edge on a channel that is not in use changes the pin's level alone (R4). -/
theorem exec_acceptedRisingEdge_notInUse {s : State} (ready : Ready s) {a : ArmNo} {ch : Channel}
    (notInUse : channelInUse (s.armCfg a) ch = false) :
    exec (.acceptedRisingEdge a ch) s = .next (setPulsePin (.product a ch) true s.fresh).write := by
  have empty : (setPulsePin (.product a ch) true s.fresh).inbox = [] := (setPulsePin_inbox ..).trans ready.2
  rw [exec_acceptedRisingEdge ready, risingEdge_notInUse a ch _ (by simpa using notInUse), settleCommand_nil _ empty]

/-- The state an edge on channel A of a used arm leaves (R3 to R9, R48, R59). -/
def afterEdgeA (a : ArmNo) (s : State) : State :=
  { s.fresh with
      pins := { s.pins with pulseA := vset s.pins.pulseA a true }
      pulses := vmod s.pulses a fun x => x.afterEdge (s.armCfg a).dual .a
      arms := vmod s.arms a fun x => x.pulsed (s.armCfg a).noFlowTime
      inbox := s.pulses[a].edgeEvents a (s.armCfg a).dual .a
        ++ if restartsNoFlow s.arms[a] && s.arms[a].noFlowCond then [.condition (.noFlow a) false] else [] }

theorem exec_acceptedRisingEdge_a {s : State} (ready : Ready s) {a : ArmNo} (used : (s.armCfg a).used = true) :
    exec (.acceptedRisingEdge a .a) s = .next (settleCommand (afterEdgeA a s)) := by
  have inUse : channelInUse ((setPulsePin (.product a .a) true s.fresh).armCfg a) .a = true := by simpa using used
  have empty : (setPulsePin (.product a .a) true s.fresh).inbox = [] := ready.2
  rw [exec_acceptedRisingEdge ready, risingEdge_inUse a .a _ inUse, pulseArrival_eq]
  simp only [edgeChecked, empty, List.nil_append]
  rfl

/-- The state an edge on channel B of a dual-channel arm leaves (R4, R7 to R9). -/
def afterEdgeB (a : ArmNo) (s : State) : State :=
  { s.fresh with
      pins := { s.pins with pulseB := vset s.pins.pulseB a true }
      pulses := vmod s.pulses a fun x => x.afterEdge true .b
      inbox := s.pulses[a].edgeEvents a true .b }

theorem exec_acceptedRisingEdge_b {s : State} (ready : Ready s) {a : ArmNo} (used : (s.armCfg a).used = true)
    (dual : (s.armCfg a).dual = true) :
    exec (.acceptedRisingEdge a .b) s = .next (settleCommand (afterEdgeB a s)) := by
  have inUse : channelInUse ((setPulsePin (.product a .b) true s.fresh).armCfg a) .b = true := by
    simpa using ⟨used, dual⟩
  have empty : (setPulsePin (.product a .b) true s.fresh).inbox = [] := ready.2
  rw [exec_acceptedRisingEdge ready, risingEdge_inUse a .b _ inUse]
  simp only [edgeChecked, empty, setPulsePin_armCfg, fresh_armCfg, dual, List.nil_append]
  rfl

/-- The events of an edge, by the conditions that raise them (R5, R8). -/
theorem edgeEvents_a (x : PulseInput) (a : ArmNo) (dual : Bool) :
    x.edgeEvents a dual .a
      = (if x.saturated = false ∧ 65534 ≤ x.count then [.event (.meterPulse a)] else [])
        ++ if dual = true ∧ x.last = .a ∧ 256 ≤ x.score + 16 then [.event (.meterPulse a)] else [] := by
  simp only [PulseInput.edgeEvents, saturates_a, pattern_raises, Bool.and_eq_true, decide_eq_true_eq]
  rfl

theorem edgeEvents_b (x : PulseInput) (a : ArmNo) :
    x.edgeEvents a true .b = if x.last = .b ∧ 256 ≤ x.score + 16 then [.event (.meterPulse a)] else [] := by
  simp only [PulseInput.edgeEvents, PulseInput.saturates, pattern_raises, Bool.true_and, decide_eq_true_eq,
    Bool.false_eq_true, if_false, List.nil_append]
  rfl

/-- Settles O17: channel A of a used arm, channel B of a dual-channel one, and the channels not in use. -/
theorem edgesOnChannelAAreCounted : Obligations.EdgesOnChannelAAreCounted := by
  intro s a ready
  refine ⟨fun used => ?_, fun used dual => ?_, fun unused => ?_, fun notInUse => ?_⟩
  · obtain ⟨level, _, count, saturated⟩ := afterEdge_keeps s.pulses[a] (s.armCfg a).dual .a
    obtain ⟨levelA, full, counts, saturates⟩ := counted_a s.pulses[a]
    refine ⟨afterEdgeA a s, exec_acceptedRisingEdge_a ready used, ?_⟩
    have pulse : (afterEdgeA a s).pulses[a] = s.pulses[a].afterEdge (s.armCfg a).dual .a := vmod_self ..
    rw [pulse, level, count, saturated]
    refine ⟨levelA, fun y other => vmod_other _ _ _ _ other, ?_, full, counts, saturates⟩
    simp only [afterEdgeA, edgeEvents_a]
    rfl
  · obtain ⟨_, level, count, saturated⟩ := afterEdge_keeps s.pulses[a] true .b
    refine ⟨afterEdgeB a s, exec_acceptedRisingEdge_b ready used dual, ?_⟩
    have pulse : (afterEdgeB a s).pulses[a] = s.pulses[a].afterEdge true .b := vmod_self ..
    rw [pulse, level, count, saturated]
    refine ⟨rfl, rfl, rfl, fun y other => vmod_other _ _ _ _ other, ?_⟩
    simp only [afterEdgeB, edgeEvents_b]
  · exact exec_acceptedRisingEdge_notInUse ready (by simpa using unused)
  · exact exec_acceptedRisingEdge_notInUse ready (by simpa [imp_iff_not_or] using notInUse)

/-- Settles O18: the table of R7 for the edge's channel and the channel before it. -/
theorem patternCheckerFollowsTheTable : Obligations.PatternCheckerFollowsTheTable := by
  intro s a ch ready used dual
  cases ch with
  | a =>
    have pulse : (afterEdgeA a s).pulses[a] = s.pulses[a].afterEdge true .a := by
      rw [← dual]
      exact vmod_self ..
    refine ⟨afterEdgeA a s, exec_acceptedRisingEdge_a ready used, rfl, fun x other => vmod_other _ _ _ _ other,
      fun x other => vmod_other _ _ _ _ other, ?_⟩
    rw [pulse]
    refine ⟨afterEdge_first, fun turn _ => afterEdge_next turn, nofun, fun again => ?_⟩
    have again : s.pulses[a].last = channelMark .a := again.resolve_right (fun h => nomatch h.2) |>.1
    obtain ⟨last, pairs, locked, below, full⟩ := afterEdge_repeat again
    refine ⟨last, pairs, locked, below, fun h => ⟨full h, List.mem_append_left _ ?_⟩⟩
    rw [dual]
    exact edgeEvents_repeat a again h
  | b =>
    have pulse : (afterEdgeB a s).pulses[a] = s.pulses[a].afterEdge true .b := vmod_self ..
    refine ⟨afterEdgeB a s, exec_acceptedRisingEdge_b ready used dual, rfl, fun _ _ => rfl,
      fun x other => vmod_other _ _ _ _ other, ?_⟩
    rw [pulse]
    refine ⟨afterEdge_first, nofun, fun turn _ => afterEdge_pair turn, fun again => ?_⟩
    have again : s.pulses[a].last = channelMark .b := again.resolve_left (fun h => nomatch h.2) |>.1
    obtain ⟨last, pairs, locked, below, full⟩ := afterEdge_repeat again
    exact ⟨last, pairs, locked, below, fun h => ⟨full h, edgeEvents_repeat a again h⟩⟩

end Sys2Proof.Machine
end

section
/-! A driver key before it is judged: the activity event it is (R122), and the checks of START and RESUME in their order
(R112, R114, R135). -/

namespace Sys2Proof.Machine

/-! ### The activity event of a key (R122) -/

/-- The state in which a key is judged: the command begun, the key counted as an activity event. -/
def keyed (b : BayNo) (s : State) : State := activity b .key s.fresh

/-- An activity event changes its bay alone, and there the idle timers and the attention flag alone (R122). -/
theorem activity_cases (b : BayNo) (k : Activity) (s : State) :
    activity b k s = s ∨ activity b k s = s.modBay b fun x =>
      { x with attentionFlag := false
               attention := some (Timer.start ((s.bayCfg b).attention * ticksPerSecond))
               abandon := some (Timer.start ((s.bayCfg b).abandon * ticksPerSecond)) } := by
  unfold activity
  split
  · exact .inr rfl
  · exact .inl rfl

theorem keyed_frame (b : BayNo) (s : State) : keyed b s = { s.fresh with bays := (keyed b s).bays } := by
  unfold keyed
  rcases activity_cases b .key s.fresh with same | timed
  · rw [same]
  · rw [timed]; rfl

theorem keyed_bay_other {b x : BayNo} (s : State) (other : x ≠ b) : (keyed b s).bays[x] = s.fresh.bays[x] := by
  unfold keyed
  rcases activity_cases b .key s.fresh with same | timed
  · rw [same]
  · rw [timed]; exact vmod_other _ _ _ _ other

theorem keyed_bay (b : BayNo) (s : State) :
    (keyed b s).bays[b] = { s.bays[b] with
      sent := [], attention := (keyed b s).bays[b].attention, abandon := (keyed b s).bays[b].abandon
      attentionFlag := (keyed b s).bays[b].attentionFlag } := by
  unfold keyed
  rcases activity_cases b .key s.fresh with same | timed
  · simp [same]
  · simp [timed]

theorem keyed_session (b : BayNo) (s : State) : (keyed b s).session b = s.session b :=
  (congrArg Bay.session (keyed_bay b s)).trans rfl

/-! ### A refusal at a bay -/

/-- A key that shows a prompt and does nothing else is refused at its bay. -/
theorem refusedAt_of_show {b : BayNo} {c : Instr} {s : State} {p : Prompt} {numbers : List Nat} (ready : Ready s)
    (shown : exec c s = .next (settleCommand ((keyed b s).sendShow b p numbers))) : RefusedAt b c s p numbers := by
  have empty : ((keyed b s).sendShow b p numbers).inbox = [] :=
    (congrArg State.inbox (keyed_frame b s)).trans ready.2
  have frame : (keyed b s).sendShow b p numbers
      = { s.fresh with bays := ((keyed b s).sendShow b p numbers).bays } :=
    congrArg (fun t => { t with bays := ((keyed b s).sendShow b p numbers).bays }) (keyed_frame b s)
  have here : ((keyed b s).sendShow b p numbers).bays[b]
      = { (keyed b s).bays[b] with lastPrompt := some ⟨p, numbers⟩
                                   sent := (keyed b s).bays[b].sent ++ [⟨p, numbers⟩] } := vmod_self ..
  rw [settleCommand_nil _ empty] at shown
  refine ⟨_, shown, congrArg State.write frame, fun x other => ?_, ?_⟩
  · exact (vmod_other _ _ _ _ other).trans (keyed_bay_other s other)
  · show ((keyed b s).sendShow b p numbers).bays[b] = { s.bays[b] with
        lastPrompt := some ⟨p, numbers⟩, sent := [⟨p, numbers⟩]
        attention := ((keyed b s).sendShow b p numbers).bays[b].attention
        abandon := ((keyed b s).sendShow b p numbers).bays[b].abandon
        attentionFlag := ((keyed b s).sendShow b p numbers).bays[b].attentionFlag }
    rw [here, keyed_bay]
    rfl

/-! ### The session test -/

theorem keySession_vacant {s : State} {b : BayNo} (vacant : s.session b = none) : keySession s b = some .notOpen := by
  simp only [keySession, vacant]

theorem keySession_ending {s : State} {b : BayNo} (ending : SessionIn s b .ending) :
    keySession s b = some .alreadyEnding := by
  obtain ⟨x, open_, state⟩ := Option.map_eq_some_iff.1 ending
  simp only [keySession, open_, state, if_true]

theorem keySession_runs {s : State} {b : BayNo} (runs : sessionRuns s b = true) : keySession s b = none := by
  unfold sessionRuns at runs
  unfold keySession
  split at runs
  · next x open_ => simp only [open_, if_neg (of_decide_eq_true runs)]
  · cases runs

/-! ### The permissives (R112) -/

theorem permitPresent_iff (s : State) (b : BayNo) (k : PermitInput) :
    permitPresent s b k = true ↔ PresentAt s b (permitLevel s b k) (permitBit k) :=
  bne_iff_ne

section Permissives

variable {s : State} {b : BayNo}

theorem absentPermit_ground (absent : ¬PresentAt s b s.pins.ground[b] 0) : absentPermit s b = some 1 := by
  have ground : permitPresent s b .ground = false := Bool.eq_false_iff.2 fun h => absent ((permitPresent_iff ..).1 h)
  simp [absentPermit, ground]

theorem absentPermit_overfill (ground : PresentAt s b s.pins.ground[b] 0)
    (absent : ¬PresentAt s b s.pins.overfill[b] 1) : absentPermit s b = some 2 := by
  have ground : permitPresent s b .ground = true := (permitPresent_iff ..).2 ground
  have overfill : permitPresent s b .overfill = false :=
    Bool.eq_false_iff.2 fun h => absent ((permitPresent_iff ..).1 h)
  simp [absentPermit, ground, overfill]

theorem absentPermit_vapour (ground : PresentAt s b s.pins.ground[b] 0)
    (overfill : PresentAt s b s.pins.overfill[b] 1)
    (absent : ¬((s.bayCfg b).vapourUsed = true → PresentAt s b s.pins.vapour[b] 2)) : absentPermit s b = some 3 := by
  obtain ⟨used, absent⟩ := Classical.not_imp.1 absent
  have ground : permitPresent s b .ground = true := (permitPresent_iff ..).2 ground
  have overfill : permitPresent s b .overfill = true := (permitPresent_iff ..).2 overfill
  have vapour : permitPresent s b .vapour = false := Bool.eq_false_iff.2 fun h => absent ((permitPresent_iff ..).1 h)
  simp [absentPermit, ground, overfill, vapour, used]

theorem absentPermit_none (ground : PresentAt s b s.pins.ground[b] 0)
    (overfill : PresentAt s b s.pins.overfill[b] 1)
    (vapour : (s.bayCfg b).vapourUsed = true → PresentAt s b s.pins.vapour[b] 2) : absentPermit s b = none := by
  have ground : permitPresent s b .ground = true := (permitPresent_iff ..).2 ground
  have overfill : permitPresent s b .overfill = true := (permitPresent_iff ..).2 overfill
  have vapour : (s.bayCfg b).vapourUsed = true → permitPresent s b .vapour = true :=
    fun used => (permitPresent_iff ..).2 (vapour used)
  simpa [absentPermit, ground, overfill] using vapour

end Permissives

/-! ### The supervision check (R135) -/

/-- The injectors of the product on the arm (R112). -/
def armInjs (s : State) (a : ArmNo) : List InjNo :=
  match s.armProduct a with
  | some p => p.injs
  | none => []

theorem mem_armInjs (s : State) (a : ArmNo) (j : InjNo) :
    j ∈ armInjs s a ↔ ∃ oc, s.arms[a].comp = some oc
      ∧ (s.cfg.products[oc.product].entry1.inj = some j ∨ s.cfg.products[oc.product].entry2.inj = some j) := by
  unfold armInjs State.armProduct
  cases onArm : s.arms[a].comp with
  | none => simp
  | some oc => simp [ProductCfg.injs, eq_comm]

theorem isStopEffect_iff (s : State) (i : InstId) :
    isStopEffect s i = true ↔ (s.inst i).cls ≠ .warning
      ∧ ((s.inst i).state = .active ∨ (s.inst i).state = .recovering ∨ (s.inst i).state = .latched) := by
  unfold isStopEffect
  cases (s.inst i).state <;> simp [InstState.effective]

/-- The check looks for exactly the stop effects that reach the arm at its bay. -/
theorem stopsAt_iff (s : State) (a : ArmNo) (b : BayNo) (i : InstId) :
    (inScopes a b (armInjs s a) i && isStopEffect s i) = true ↔ StopsAt s a b i := by
  have scope : inScopes a b (armInjs s a) i = true ↔ match i.scope with
      | .rack => True
      | .bay x => x = b
      | .arm x => x = a
      | .inj j => ∃ oc, s.arms[a].comp = some oc
          ∧ (s.cfg.products[oc.product].entry1.inj = some j ∨ s.cfg.products[oc.product].entry2.inj = some j) := by
    unfold inScopes
    cases i.scope with
    | rack => simp
    | bay x => simp [eq_comm]
    | arm x => simp [eq_comm]
    | inj j => simp only [List.contains_iff_mem]; exact mem_armInjs s a j
  rw [Bool.and_eq_true, scope, isStopEffect_iff, and_comm, and_assoc]
  rfl

theorem supervisionCheck_none {s : State} {a : ArmNo} {b : BayNo} (clear : ∀ i, ¬StopsAt s a b i) :
    supervisionCheck s a b (armInjs s a) = none :=
  List.find?_eq_none.2 fun i _ stops => clear i ((stopsAt_iff s a b i).1 stops)

/-- The check finds the first stop effect in ascending kind code and unit number (R135). -/
theorem supervisionCheck_first {s : State} {a : ArmNo} {b : BayNo} {i : InstId} (first : FirstStop s a b i) :
    supervisionCheck s a b (armInjs s a) = some i := by
  obtain ⟨stops, least⟩ := first
  cases found : supervisionCheck s a b (armInjs s a) with
  | none => exact absurd ((stopsAt_iff s a b i).2 stops) (List.find?_eq_none.1 found i (mem_allInsts i))
  | some j =>
    obtain ⟨stopsJ, before, after, split, skipped⟩ := List.find?_eq_some_iff_append.1 found
    have order := least j ((stopsAt_iff s a b j).1 stopsJ)
    have place : i ∈ before ++ j :: after := split ▸ mem_allInsts i
    rcases List.mem_append.1 place with early | late
    · have clear := Bool.not_eq_true' _ ▸ skipped i early
      cases ((stopsAt_iff s a b i).2 stops).symm.trans clear
    · rcases List.mem_cons.1 late with same | late
      · rw [same]
      · have sorted := allInsts_sorted
        rw [split] at sorted
        have above := List.rel_of_pairwise_cons (List.pairwise_append.1 sorted).2.1 late
        omega

/-! ### The checks in their order (R112, R114) -/

section Refusals

variable {s : State} {b : BayNo} {a : ArmNo} {need : ArmState}

theorem flowRefusal_session {p : Prompt} (refused : keySession s b = some p) :
    flowRefusal s b a need = some (p, []) := by
  simp only [flowRefusal, refused]

theorem flowRefusal_armBusy (runs : sessionRuns s b = true) (away : (s.armCfg a).bay ≠ some b) :
    flowRefusal s b a need = some (.armBusy, [unitNo a]) := by
  simp [flowRefusal, keySession_runs runs, State.armOfBay, away]

section Mine

variable (runs : sessionRuns s b = true) (mine : (s.armCfg a).bay = some b)
include runs mine

theorem flowRefusal_notReady (state : s.arms[a].state ≠ need) :
    flowRefusal s b a need = some (.notReady, [unitNo a]) := by
  simp only [flowRefusal, keySession_runs runs, State.armOfBay, mine, decide_true, Bool.true_eq_false, if_false,
    if_pos state]

theorem flowRefusal_rackNotReady (state : s.arms[a].state = need) (mode : s.mode ≠ .run) :
    flowRefusal s b a need = some (.rackNotReady, []) := by
  simp only [flowRefusal, keySession_runs runs, State.armOfBay, mine, decide_true, Bool.true_eq_false, if_false,
    state, ne_eq, not_true, if_pos mode]

/-- In RUN, at an arm of the bay in the state needed, the permissives, the supervision check and the probe decide. -/
theorem flowRefusal_run (state : s.arms[a].state = need) (mode : s.mode = .run) :
    flowRefusal s b a need = match absentPermit s b with
      | some n => some (.permissive, [n])
      | none => match supervisionCheck s a b (armInjs s a) with
        | some i => some (.supervision, [i.kind.val + 1, i.unit])
        | none => if s.temps[a].lastGood = none then some (.probe, [unitNo a]) else none := by
  simp only [flowRefusal, keySession_runs runs, State.armOfBay, mine, decide_true, Bool.true_eq_false, if_false,
    state, mode, ne_eq, not_true]
  rfl

end Mine

end Refusals

/-- A key's checks read nothing of the bays but the session of its own. -/
theorem flowRefusal_keyed (b : BayNo) (a : ArmNo) (need : ArmState) (s : State) :
    flowRefusal (keyed b s) b a need = flowRefusal s b a need := by
  have session := keyed_session b s
  rw [keyed_frame] at session ⊢
  unfold flowRefusal keySession
  rw [session]
  rfl

/-- A key that shows the first refusal of its checks is refused as R112 orders them; the key may ask the permit table
once they pass. -/
theorem flowKeyRefusals_of {c : Instr} {need : ArmState} {s : State} {b : BayNo} {a : ArmNo} (ready : Ready s)
    (shows : ∀ p numbers, flowRefusal s b a need = some (p, numbers) →
      exec c s = .next (settleCommand ((keyed b s).sendShow b p numbers))) :
    FlowKeyRefusals c need s b a := by
  have refuse (p : Prompt) (numbers : List Nat) (refused : flowRefusal s b a need = some (p, numbers)) :
      RefusedAt b c s p numbers :=
    refusedAt_of_show ready (shows p numbers refused)
  refine ⟨fun vacant => refuse _ _ (flowRefusal_session (keySession_vacant vacant)),
    fun ending => refuse _ _ (flowRefusal_session (keySession_ending ending)), fun runs =>
    ⟨fun away => refuse _ _ (flowRefusal_armBusy runs away),
      fun mine state => refuse _ _ (flowRefusal_notReady runs mine state), fun mine state =>
      ⟨fun mode => refuse _ _ (flowRefusal_rackNotReady runs mine state mode), fun mode => ?_⟩⟩⟩
  have run := flowRefusal_run runs mine state mode
  refine ⟨fun absent => refuse _ _ ?_, fun ground absent => refuse _ _ ?_,
    fun ground overfill absent => refuse _ _ ?_, fun ground overfill vapour =>
    ⟨fun i first => refuse _ _ ?_, fun clear unread => refuse _ _ ?_⟩⟩
  · rw [run, absentPermit_ground absent]
  · rw [run, absentPermit_overfill ground absent]
  · rw [run, absentPermit_vapour ground overfill absent]
  · rw [run, absentPermit_none ground overfill vapour, supervisionCheck_first first]
  · rw [run, absentPermit_none ground overfill vapour, supervisionCheck_none clear]
    exact if_pos unread

/-- Where the checks pass, nothing is refused before the permit table is asked. -/
theorem flowRefusal_none {s : State} {b : BayNo} {a : ArmNo} {need : ArmState} (passes : FlowChecksPass s b a need) :
    flowRefusal s b a need = none := by
  obtain ⟨runs, mine, state, mode, ground, overfill, vapour, clear, read⟩ := passes
  rw [flowRefusal_run runs mine state mode, absentPermit_none ground overfill vapour, supervisionCheck_none clear]
  exact if_neg read

end Sys2Proof.Machine
end

section
/-! An arm enters LOW_START (R43, R44, R61, R62): what it makes of the arm, its pump and its pulse input, and what it
leaves alone. -/

namespace Sys2Proof.Machine

/-! ### Operations of one arm -/

/-- `s` with the arms and the notices of `t`. -/
def armsFrom (s t : State) : State := { s with arms := t.arms, inbox := t.inbox }

/-- From `s` to `t` one arm changes and notices are sent, and nothing else. -/
def ArmOnly (a : ArmNo) (s t : State) : Prop := t = armsFrom s t ∧ OtherArmsSame a s t

theorem ArmOnly.trans {a : ArmNo} {s t u : State} (first : ArmOnly a s t) (second : ArmOnly a t u) : ArmOnly a s u :=
by
  refine ⟨?_, fun x other => (second.2 x other).trans (first.2 x other)⟩
  calc u
    _ = armsFrom t u := second.1
    _ = armsFrom (armsFrom s t) u := congrArg (fun x => armsFrom x u) first.1
    _ = armsFrom s u := rfl

theorem armOnly_modArm (a : ArmNo) (f : Arm → Arm) (s : State) : ArmOnly a s (s.modArm a f) :=
  ⟨rfl, fun _ other => vmod_other _ _ _ _ other⟩

theorem armOnly_push (a : ArmNo) (n : Notice) (s : State) : ArmOnly a s (s.push n) := ⟨rfl, fun _ _ => rfl⟩

theorem armOnly_setNoFlowCond (a : ArmNo) (p : Bool) (s : State) : ArmOnly a s (setNoFlowCond a p s) := by
  rw [setNoFlowCond_eq]
  exact ⟨rfl, fun _ other => vmod_other _ _ _ _ other⟩

theorem armOnly_setValveCond (a : ArmNo) (p : Bool) (s : State) : ArmOnly a s (setValveCond a p s) := by
  unfold setValveCond
  split
  · exact ⟨rfl, fun _ _ => rfl⟩
  · exact (armOnly_modArm ..).trans (armOnly_push ..)

theorem armOnly_refreshCommand (a : ArmNo) (s : State) : ArmOnly a s (refreshCommand a s) := by
  unfold refreshCommand
  simp only
  split
  · exact ⟨rfl, fun _ _ => rfl⟩
  · exact (armOnly_modArm ..).trans ((armOnly_modArm ..).trans (armOnly_setValveCond ..))

theorem armOnly_enterState (a : ArmNo) (st : ArmState) (s : State) : ArmOnly a s (enterState a st s) :=
  (armOnly_modArm ..).trans ((armOnly_refreshCommand ..).trans (armOnly_push ..))

theorem armOnly_stopNoFlow (a : ArmNo) (s : State) : ArmOnly a s (stopNoFlow a s) :=
  (armOnly_modArm ..).trans (armOnly_setNoFlowCond ..)

/-! ### The end of a pump wait (R44) -/

theorem startNoFlow_keeps (a : ArmNo) (s : State) :
    (startNoFlow a s).arms[a].state = s.arms[a].state ∧ (startNoFlow a s).arms[a].comp = s.arms[a].comp
      ∧ (startNoFlow a s).arms[a].waiting = s.arms[a].waiting
      ∧ (startNoFlow a s).arms[a].lastStop = s.arms[a].lastStop
      ∧ (startNoFlow a s).arms[a].command = s.arms[a].command := by
  simp [startNoFlow]

theorem endPumpWait_armOnly (a : ArmNo) (s : State) : ArmOnly a s (endPumpWait a s) := by
  unfold endPumpWait
  split
  · have waited := (armOnly_modArm a (fun x => { x with waiting := false }) s).trans (armOnly_refreshCommand a _)
    simp only
    split
    · exact waited.trans (armOnly_modArm ..)
    · exact waited
  · exact ⟨rfl, fun _ _ => rfl⟩

/-- In RUN a used arm waits for its pump in LOW_START (R43, R44). -/
structure AwaitsPump (a : ArmNo) (s : State) : Prop where
  state : s.arms[a].state = .lowStart
  waiting : s.arms[a].waiting = true
  command : s.arms[a].command = .close
  mode : s.mode = .run
  used : (s.armCfg a).used = true

/-- An arm whose wait ends commands LOW and keeps its compartment (R44). -/
theorem endPumpWait_flows {a : ArmNo} {s : State} (awaits : AwaitsPump a s) :
    (endPumpWait a s).arms[a].state = .lowStart ∧ (endPumpWait a s).arms[a].comp = s.arms[a].comp
      ∧ (endPumpWait a s).arms[a].lastStop = s.arms[a].lastStop ∧ (endPumpWait a s).arms[a].waiting = false
      ∧ (endPumpWait a s).arms[a].command = .low := by
  have ended : (s.modArm a fun x => { x with waiting := false }).arms[a] = { s.arms[a] with waiting := false } :=
    vmod_self ..
  have low : commandFor s.mode (s.armCfg a).used { s.arms[a] with waiting := false } = .low := by
    simp only [commandFor, awaits.mode, awaits.used, awaits.state]
    rfl
  obtain ⟨state, comp, waiting, -, -, -, stop⟩ :=
    refreshCommand_keeps a a (s.modArm a fun x => { x with waiting := false })
  have command : (refreshCommand a (s.modArm a fun x => { x with waiting := false })).arms[a].command = .low :=
    (refreshCommand_command a _).trans ((congrArg (commandFor s.mode (s.armCfg a).used) ended).trans low)
  rw [ended] at state comp waiting stop
  have eq : endPumpWait a s = startNoFlow a (refreshCommand a (s.modArm a fun x => { x with waiting := false })) :=
    (if_pos ⟨awaits.state, awaits.waiting⟩).trans (if_pos command)
  obtain ⟨state', comp', waiting', stop', command'⟩ :=
    startNoFlow_keeps a (refreshCommand a (s.modArm a fun x => { x with waiting := false }))
  rw [eq]
  exact ⟨state'.trans (state.trans awaits.state), comp'.trans comp, stop'.trans stop, waiting'.trans waiting,
    command'.trans command⟩

/-! ### The entry (R43) -/

/-- The pulse input and the meter of an arm that enters LOW_START (R10, R30, R43). -/
def flowPrepared (a : ArmNo) (s : State) : State :=
  (s.modPulse a fun p => p.startOfFlow (s.armCfg a).dual).modMeter a fun m => { m with leak := 0 }

/-- An arm that has entered LOW_START and not yet demanded its pump (R43). -/
def lowStarted (a : ArmNo) (s : State) : State :=
  enterState a .lowStart (stopNoFlow a (s.modArm a fun x => { x with waiting := true, lastStop := .none }))

theorem enterLowStart_eq (a : ArmNo) (s : State) :
    enterLowStart a s = (addDemand a (lowStarted a (flowPrepared a s))).push (.redeliver a) := rfl

theorem lowStarted_armOnly (a : ArmNo) (s : State) : ArmOnly a s (lowStarted a s) :=
  (armOnly_modArm ..).trans ((armOnly_stopNoFlow ..).trans (armOnly_enterState ..))

/-- The arm with its new state, before its command follows. -/
def lowStartSet (a : ArmNo) (s : State) : State :=
  (stopNoFlow a (s.modArm a fun x => { x with waiting := true, lastStop := .none })).modArm a
    fun x => { x with state := .lowStart }

theorem lowStarted_arms (a : ArmNo) (s : State) :
    (lowStarted a s).arms = (refreshCommand a (lowStartSet a s)).arms := by
  simp only [lowStarted, enterState, lowStartSet, push_arms]

theorem lowStartSet_arm (a : ArmNo) (s : State) :
    (lowStartSet a s).arms[a] = { s.arms[a] with
      state := .lowStart, waiting := true, lastStop := .none, noFlowTimer := none, noFlowCond := false } := by
  simp [lowStartSet, stopNoFlow, setNoFlowCond_arms]

/-- The arm waits for its pump in LOW_START, commanding CLOSE, with its compartment and no stop cause (R43, R44). -/
theorem lowStarted_arm (a : ArmNo) (s : State) :
    (lowStarted a s).arms[a].state = .lowStart ∧ (lowStarted a s).arms[a].comp = s.arms[a].comp
      ∧ (lowStarted a s).arms[a].lastStop = .none ∧ (lowStarted a s).arms[a].waiting = true
      ∧ (lowStarted a s).arms[a].command = .close := by
  obtain ⟨state, comp, waiting, -, -, -, stop⟩ := refreshCommand_keeps a a (lowStartSet a s)
  have command := refreshCommand_command a (lowStartSet a s)
  rw [lowStartSet_arm] at state comp waiting stop command
  rw [lowStarted_arms]
  refine ⟨state, comp, stop, waiting, command.trans ?_⟩
  simp only [commandFor, if_true, ite_self]

/-! ### The demand on the pump (R61, R62) -/

/-- The demand of one arm added to its pump, which it starts when the pumps are not forced off (R61, R64). -/
def demandAdded (k : PumpNo) (s : State) : State :=
  if pumpsForced s then s.modPump k fun u => { u with demand := u.demand + 1 } else s.modPump k Pump.demanded

theorem demandAdded_frame (k : PumpNo) (s : State) : demandAdded k s = { s with pumps := (demandAdded k s).pumps } := by
  unfold demandAdded
  split <;> rfl

theorem demandAdded_other {k x : PumpNo} (s : State) (other : x ≠ k) :
    (demandAdded k s).pumps[x] = s.pumps[x] := by
  unfold demandAdded
  split <;> exact vmod_other _ _ _ _ other

theorem demanded_demand (u : Pump) : u.demanded.demand = u.demand + 1 := by
  unfold Pump.demanded
  split <;> rfl

/-- A pump demanded runs, from 0 when it was off (R61). -/
theorem demanded_runs (u : Pump) :
    u.demanded.state = .running ∧ u.demanded.run = if u.state = .off then some 0 else u.run := by
  unfold Pump.demanded
  split <;> simp_all

theorem demandAdded_demand (k : PumpNo) (s : State) :
    (demandAdded k s).pumps[k].demand = s.pumps[k].demand + 1 := by
  unfold demandAdded
  split
  · simp
  · simp [demanded_demand]

theorem demandAdded_runs (k : PumpNo) (s : State) (free : pumpsForced s = false) :
    (demandAdded k s).pumps[k].state = .running
      ∧ (demandAdded k s).pumps[k].run = if s.pumps[k].state = .off then some 0 else s.pumps[k].run := by
  have runs : (demandAdded k s).pumps[k] = s.pumps[k].demanded := by
    simp [demandAdded, free]
  rw [runs]
  exact demanded_runs _

/-- The pump an arm needs, and its start delay, follow from the configuration and the compartment on the arm. -/
theorem pumpOf_congr {s t : State} {a : ArmNo} (setup : t.setup = s.setup) (comp : t.arms[a].comp = s.arms[a].comp) :
    pumpOf t a = pumpOf s a ∧ startDelayOf t a = startDelayOf s a := by
  have cfg : t.cfg = s.cfg := by simp only [State.cfg, setup]
  simp only [pumpOf, startDelayOf, State.armProduct, comp, cfg, and_self]

/-- An arm joins those that wait for a pump (R62). -/
def joined (a : ArmNo) (k : PumpNo) (s : State) : State :=
  s.modPump k fun u => { u with waiting := u.waiting.filter (fun w => w ≠ a) ++ [a] }

theorem demandAdded_arms (k : PumpNo) (s : State) : (demandAdded k s).arms = s.arms := by
  rw [demandAdded_frame]

theorem AwaitsPump.demandAdded {a : ArmNo} {s : State} (awaits : AwaitsPump a s) (k : PumpNo) :
    AwaitsPump a (demandAdded k s) := by
  rw [demandAdded_frame]
  exact ⟨awaits.state, awaits.waiting, awaits.command, awaits.mode, awaits.used⟩

/-- The demand of an arm ends its wait at once without a pump or after the pump's start delay, and else the arm joins
those that wait (R61, R62). -/
theorem addDemand_cases (a : ArmNo) (s : State) :
    (pumpOf s a = none ∧ addDemand a s = endPumpWait a s) ∨
    ∃ k, pumpOf s a = some k ∧
      (((demandAdded k s).pumps[k].runReached (startDelayOf s a) = true
          ∧ addDemand a s = endPumpWait a (demandAdded k s)) ∨
        ((demandAdded k s).pumps[k].runReached (startDelayOf s a) = false
          ∧ addDemand a s = joined a k (demandAdded k s))) := by
  cases pump : pumpOf s a with
  | none => exact .inl ⟨rfl, by simp only [addDemand, pump]⟩
  | some k =>
    have delay : startDelayOf (demandAdded k s) a = startDelayOf s a := by
      rw [demandAdded_frame]
      rfl
    have demand : addDemand a s
        = if (demandAdded k s).pumps[k].runReached (startDelayOf s a) then endPumpWait a (demandAdded k s)
          else joined a k (demandAdded k s) := by
      rw [← delay]
      simp only [addDemand, pump]
      rfl
    refine .inr ⟨k, rfl, ?_⟩
    cases reached : (demandAdded k s).pumps[k].runReached (startDelayOf s a)
    · exact .inr ⟨rfl, demand.trans (if_neg (by rw [reached]; exact Bool.false_ne_true))⟩
    · exact .inl ⟨rfl, demand.trans (if_pos reached)⟩

theorem endPumpWait_pumps (a : ArmNo) (s : State) : (endPumpWait a s).pumps = s.pumps :=
  (congrArg State.pumps (endPumpWait_armOnly a s).1).trans rfl

/-- The demand changes the arm, the pumps and the notices (R61, R62). -/
theorem addDemand_frame (a : ArmNo) (s : State) :
    addDemand a s = { s with arms := (addDemand a s).arms, pumps := (addDemand a s).pumps
                             inbox := (addDemand a s).inbox } := by
  rcases addDemand_cases a s with ⟨_, demand⟩ | ⟨k, _, ⟨_, demand⟩ | ⟨_, demand⟩⟩ <;> rw [demand]
  · rw [endPumpWait_pumps]
    exact (endPumpWait_armOnly a s).1
  · rw [endPumpWait_pumps]
    calc endPumpWait a (demandAdded k s)
      _ = armsFrom (demandAdded k s) (endPumpWait a (demandAdded k s)) := (endPumpWait_armOnly a _).1
      _ = armsFrom { s with pumps := (demandAdded k s).pumps } (endPumpWait a (demandAdded k s)) :=
        congrArg (fun t => armsFrom t (endPumpWait a (demandAdded k s))) (demandAdded_frame k s)
  · rw [demandAdded_frame]
    rfl

theorem addDemand_others (a : ArmNo) (s : State) : OtherArmsSame a s (addDemand a s) := by
  intro x other
  rcases addDemand_cases a s with ⟨_, demand⟩ | ⟨k, _, ⟨_, demand⟩ | ⟨_, demand⟩⟩ <;> rw [demand]
  · exact (endPumpWait_armOnly a s).2 x other
  · rw [← demandAdded_arms k s]
    exact (endPumpWait_armOnly a (demandAdded k s)).2 x other
  · exact congrArg (·[x]) (demandAdded_arms k s)

theorem addDemand_keeps {a : ArmNo} {s : State} (awaits : AwaitsPump a s) :
    (addDemand a s).arms[a].state = .lowStart ∧ (addDemand a s).arms[a].comp = s.arms[a].comp
      ∧ (addDemand a s).arms[a].lastStop = s.arms[a].lastStop := by
  rcases addDemand_cases a s with ⟨_, demand⟩ | ⟨k, _, ⟨_, demand⟩ | ⟨_, demand⟩⟩ <;> rw [demand]
  · obtain ⟨state, comp, stop, -, -⟩ := endPumpWait_flows awaits
    exact ⟨state, comp, stop⟩
  · obtain ⟨state, comp, stop, -, -⟩ := endPumpWait_flows (awaits.demandAdded k)
    rw [demandAdded_arms] at comp stop
    exact ⟨state, comp, stop⟩
  · have same : (joined a k (demandAdded k s)).arms = s.arms := demandAdded_arms k s
    rw [same]
    exact ⟨awaits.state, rfl, rfl⟩

/-- Whether the arm still waits, by its pump's run time (R43, R44, R61, R62). -/
def WaitsAsPumpRuns (a : ArmNo) (s u : State) : Prop :=
  (pumpOf s a = none → u.pumps = s.pumps ∧ u.arms[a].waiting = false ∧ u.arms[a].command = .low) ∧
  ∀ k, pumpOf s a = some k →
    (∀ x : PumpNo, x ≠ k → u.pumps[x] = s.pumps[x]) ∧ u.pumps[k].demand = s.pumps[k].demand + 1
      ∧ (pumpsForced s = false → u.pumps[k].state = .running
          ∧ u.pumps[k].run = (if s.pumps[k].state = .off then some 0 else s.pumps[k].run))
      ∧ (u.pumps[k].runReached (startDelayOf s a) = true → u.arms[a].waiting = false ∧ u.arms[a].command = .low)
      ∧ (u.pumps[k].runReached (startDelayOf s a) = false →
          u.arms[a].waiting = true ∧ u.arms[a].command = .close ∧ a ∈ u.pumps[k].waiting)

theorem addDemand_waits {a : ArmNo} {s : State} (awaits : AwaitsPump a s) : WaitsAsPumpRuns a s (addDemand a s) := by
  rcases addDemand_cases a s with ⟨pump, demand⟩ | ⟨k, pump, ⟨reached, demand⟩ | ⟨short, demand⟩⟩ <;> rw [demand]
  · obtain ⟨-, -, -, waiting, command⟩ := endPumpWait_flows awaits
    exact ⟨fun _ => ⟨endPumpWait_pumps a s, waiting, command⟩, fun k some_ => nomatch pump.symm.trans some_⟩
  · obtain ⟨-, -, -, waiting, command⟩ := endPumpWait_flows (awaits.demandAdded k)
    refine ⟨fun none_ => (nomatch pump.symm.trans none_), fun k' some_ => ?_⟩
    obtain rfl : k = k' := Option.some.inj (pump.symm.trans some_)
    rw [endPumpWait_pumps]
    exact ⟨fun x other => demandAdded_other s other, demandAdded_demand k s, demandAdded_runs k s,
      fun _ => ⟨waiting, command⟩, fun short => nomatch reached.symm.trans short⟩
  · refine ⟨fun none_ => (nomatch pump.symm.trans none_), fun k' some_ => ?_⟩
    obtain rfl : k = k' := Option.some.inj (pump.symm.trans some_)
    have pumpK : (joined a k (demandAdded k s)).pumps[k] = { (demandAdded k s).pumps[k] with
        waiting := (demandAdded k s).pumps[k].waiting.filter (fun w => w ≠ a) ++ [a] } := vmod_self ..
    have arms : (joined a k (demandAdded k s)).arms = s.arms := demandAdded_arms k s
    rw [pumpK, arms]
    exact ⟨fun x other => (vmod_other _ _ _ _ other).trans (demandAdded_other s other), demandAdded_demand k s,
      demandAdded_runs k s, fun reached => (nomatch short.symm.trans reached),
      fun _ => ⟨awaits.waiting, awaits.command, List.mem_append_right _ (List.mem_singleton.2 rfl)⟩⟩

/-! ### The whole entry (R43) -/

/-- `s` with what the entry into LOW_START changes taken from `u`. -/
def flowFrom (s u : State) : State :=
  { s with pulses := u.pulses, meters := u.meters, arms := u.arms, pumps := u.pumps, inbox := u.inbox }

theorem flowFrom_rest (s u : State) : (flowFrom s u).bays = s.bays ∧ (flowFrom s u).permits = s.permits := ⟨rfl, rfl⟩

section Entry

variable (a : ArmNo) (s : State)

theorem lowStarted_frame :
    lowStarted a (flowPrepared a s) = { flowPrepared a s with
      arms := (lowStarted a (flowPrepared a s)).arms, inbox := (lowStarted a (flowPrepared a s)).inbox } :=
  (lowStarted_armOnly a (flowPrepared a s)).1

theorem enterLowStart_frame : enterLowStart a s = flowFrom s (enterLowStart a s) := by
  rw [enterLowStart_eq, addDemand_frame, lowStarted_frame]
  rfl

theorem enterLowStart_meters : (enterLowStart a s).meters = vmod s.meters a fun m => { m with leak := 0 } := by
  rw [enterLowStart_eq, addDemand_frame, lowStarted_frame]
  rfl

theorem enterLowStart_arms : (enterLowStart a s).arms = (addDemand a (lowStarted a (flowPrepared a s))).arms := by
  rw [enterLowStart_eq, push_arms]

theorem enterLowStart_pumps :
    (enterLowStart a s).pumps = (addDemand a (lowStarted a (flowPrepared a s))).pumps := by
  rw [enterLowStart_eq, push_pumps]

theorem flowPrepared_arms : (flowPrepared a s).arms = s.arms := rfl

theorem enterLowStart_others : OtherArmsSame a s (enterLowStart a s) := by
  intro x other
  rw [enterLowStart_arms, addDemand_others a _ x other, (lowStarted_armOnly a (flowPrepared a s)).2 x other,
    flowPrepared_arms]

theorem enterLowStart_redeliver : .redeliver a ∈ (enterLowStart a s).inbox := by
  rw [enterLowStart_eq, push_inbox]
  exact List.mem_append_right _ (List.mem_singleton.2 rfl)

variable {a s}

theorem lowStarted_awaits (mode : s.mode = .run) (used : (s.armCfg a).used = true) :
    AwaitsPump a (lowStarted a (flowPrepared a s)) := by
  obtain ⟨state, _, _, waiting, command⟩ := lowStarted_arm a (flowPrepared a s)
  refine ⟨state, waiting, command, ?_, ?_⟩
  · rw [lowStarted_frame]; exact mode
  · rw [lowStarted_frame]; exact used

theorem enterLowStart_arm (mode : s.mode = .run) (used : (s.armCfg a).used = true) :
    (enterLowStart a s).arms[a].state = .lowStart ∧ (enterLowStart a s).arms[a].comp = s.arms[a].comp
      ∧ (enterLowStart a s).arms[a].lastStop = .none := by
  obtain ⟨_, comp, stop, _, _⟩ := lowStarted_arm a (flowPrepared a s)
  obtain ⟨state', comp', stop'⟩ := addDemand_keeps (lowStarted_awaits mode used)
  rw [flowPrepared_arms] at comp
  rw [enterLowStart_arms]
  exact ⟨state', comp'.trans comp, stop'.trans stop⟩

/-- The demand sees the arm's pump, the pumps and the mode as they were before the entry. -/
theorem enterLowStart_waits (mode : s.mode = .run) (used : (s.armCfg a).used = true) :
    WaitsAsPumpRuns a s (enterLowStart a s) := by
  have waits := addDemand_waits (lowStarted_awaits mode used)
  obtain ⟨_, comp, _, _, _⟩ := lowStarted_arm a (flowPrepared a s)
  have setup : (lowStarted a (flowPrepared a s)).setup = s.setup := by rw [lowStarted_frame]; rfl
  have pumps : (lowStarted a (flowPrepared a s)).pumps = s.pumps := by rw [lowStarted_frame]; rfl
  have forced : pumpsForced (lowStarted a (flowPrepared a s)) = pumpsForced s := by rw [lowStarted_frame]; rfl
  rw [flowPrepared_arms] at comp
  obtain ⟨pump, delay⟩ := pumpOf_congr setup comp
  unfold WaitsAsPumpRuns at waits ⊢
  rw [pump, delay, pumps, forced] at waits
  rw [enterLowStart_arms, enterLowStart_pumps]
  exact waits

end Entry

end Sys2Proof.Machine
end

section
/-! START (O39): its refusals, the reservation on the permit, the compartment and the session of a load that begins, and
the arm's entry into LOW_START. -/

namespace Sys2Proof.Machine

/-! ### The reservation (R101) -/

section Reservation

variable {s : State} {n preset : Nat} {p : Permit} (found : findPermit s.permits n = some p)
include found

theorem reserve_suspended (state : p.state = .suspended ∨ p.state = .retiring) :
    reserve n preset s = (s, .permitSuspended) := by
  have inactive : p.state ≠ .active := by
    rcases state with h | h <;> rw [h] <;> decide
  simp only [reserve, found, if_pos inactive]

theorem reserve_quota (state : p.state = .active) (limited : p.quota ≠ 0)
    (above : p.quota < p.used + p.reserved + preset) :
    reserve n preset s = (s, .quota) := by
  simp only [reserve, found, state, ne_eq, not_true, if_false, if_pos (And.intro limited above)]

theorem reserve_granted (state : p.state = .active) (fits : p.quota = 0 ∨ p.used + p.reserved + preset ≤ p.quota) :
    reserve n preset s
      = ({ s with permits := modPermit s.permits n fun q => { q with reserved := q.reserved + preset } }, .ok) := by
  have within : ¬(p.quota ≠ 0 ∧ p.quota < p.used + p.reserved + preset) := by omega
  simp only [reserve, found, state, ne_eq, not_true, if_false, if_neg within]

end Reservation

/-- The quota shown is what the used and the reserved figures leave of it (R88). -/
theorem quotaShown_limited {s : State} {b : BayNo} {p : Permit}
    (found : findPermit s.permits (sessionPermit s b) = some p) (limited : p.quota ≠ 0) :
    quotaShown s b = p.quota - p.used - p.reserved := by
  simp [quotaShown, found, Permit.remaining, limited]

/-! ### The key -/

theorem exec_start {s : State} (ready : Ready s) (b : BayNo) (a : ArmNo) :
    exec (.start b a) s = .next (settleCommand (startKey b a (keyed b s))) :=
  inService_ready (withKey b (startKey b a)) s ready

theorem startKey_refused {s : State} {b : BayNo} {a : ArmNo} {p : Prompt} {numbers : List Nat}
    (refused : flowRefusal s b a .armed = some (p, numbers)) : startKey b a s = s.sendShow b p numbers := by
  simp only [startKey, refused]

section Asked

variable {s t : State} {b : BayNo} {a : ArmNo} {oc : OnArm} (passes : flowRefusal s b a .armed = none)
  (onArm : s.arms[a].comp = some oc)
include passes onArm

theorem startKey_suspended (answer : reserve (sessionPermit s b) oc.preset s = (t, .permitSuspended)) :
    startKey b a s = t.sendShow b .permitSuspended [] := by
  simp only [startKey, passes, onArm, answer]
  rfl

theorem startKey_quota (answer : reserve (sessionPermit s b) oc.preset s = (t, .quota)) :
    startKey b a s = t.sendShow b .quota [quotaShown t b] := by
  simp only [startKey, passes, onArm, answer]

theorem startKey_granted (answer : reserve (sessionPermit s b) oc.preset s = (t, .ok)) :
    startKey b a s = acceptStart b a oc t := by
  simp only [startKey, passes, onArm, answer]

end Asked

/-- The permit of the bay's session is the one it was before the key. -/
theorem sessionPermit_keyed (b : BayNo) (s : State) : sessionPermit (keyed b s) b = sessionPermit s b := by
  simp only [sessionPermit, keyed_session]

theorem keyed_permits (b : BayNo) (s : State) : (keyed b s).permits = s.permits := by
  rw [keyed_frame]; rfl

theorem keyed_arms (b : BayNo) (s : State) : (keyed b s).arms = s.arms := by
  rw [keyed_frame]; rfl

/-- The first half of O39: the checks of R112 in their order, and the permit table's two refusals (R101). -/
theorem start_refusals {s : State} (ready : Ready s) (b : BayNo) (a : ArmNo) :
    FlowKeyRefusals (.start b a) .armed s b a ∧
    (∀ oc p, FlowChecksPass s b a .armed → s.arms[a].comp = some oc →
      findPermit s.permits (sessionPermit s b) = some p →
      (p.state = .suspended ∨ p.state = .retiring → RefusedAt b (.start b a) s .permitSuspended []) ∧
      (p.state = .active → p.quota ≠ 0 → p.quota < p.used + p.reserved + oc.preset →
        RefusedAt b (.start b a) s .quota [p.quota - p.used - p.reserved])) := by
  refine ⟨flowKeyRefusals_of ready fun p numbers refused => ?_, fun oc p passes onArm found => ?_⟩
  · rw [exec_start ready, startKey_refused ((flowRefusal_keyed b a .armed s).trans refused)]
  · have passes : flowRefusal (keyed b s) b a .armed = none :=
      (flowRefusal_keyed b a .armed s).trans (flowRefusal_none passes)
    have onArm : (keyed b s).arms[a].comp = some oc := by rw [keyed_arms]; exact onArm
    have found : findPermit (keyed b s).permits (sessionPermit (keyed b s) b) = some p := by
      rw [keyed_permits, sessionPermit_keyed]; exact found
    refine ⟨fun state => refusedAt_of_show ready ?_, fun state limited above => refusedAt_of_show ready ?_⟩
    · rw [exec_start ready, startKey_suspended passes onArm (reserve_suspended found state)]
    · rw [exec_start ready, startKey_quota passes onArm (reserve_quota found state limited above),
        quotaShown_limited found limited]

/-! ### The compartment and the session -/

/-- A compartment record whose load begins (R112). -/
def CompRec.begun (r : CompRec) : CompRec :=
  { (r.modLines fun l => { l with active := true }) with started := true, active := true }

theorem begun_lines_active (r : CompRec) : ∀ l ∈ r.begun.lines, l.active = true := by
  intro l mem
  obtain ⟨_, _, rfl⟩ := List.mem_map.1 mem
  rfl

/-- A change that keeps the numbers of the compartments changes the one it names. -/
theorem comp_modComp {x : Session} {c : CompNo} {r : CompRec} {f : CompRec → CompRec} (keeps : ∀ r, (f r).no = r.no)
    (found : x.comp c = some r) : (x.modComp c f).comp c = some (f r) := by
  have no : r.no = c := by simpa using List.find?_some found
  have test : ((fun r : CompRec => decide (r.no = c)) ∘ fun r => if r.no = c then f r else r)
      = fun r => decide (r.no = c) := by
    funext y
    by_cases h : y.no = c <;> simp [h, keeps]
  show (x.comps.map _).find? _ = _
  rw [List.find?_map, test, show x.comps.find? (fun r => decide (r.no = c)) = some r from found]
  simp only [Option.map_some, if_pos no]

theorem compRec_some {s : State} {b : BayNo} {c : CompNo} {r : CompRec} (found : s.compRec b c = some r) :
    ∃ x, s.session b = some x ∧ x.comp c = some r := by
  unfold State.compRec at found
  split at found
  · next x open_ => exact ⟨x, open_, found⟩
  · cases found

theorem compRec_of_session {s : State} {b : BayNo} {c : CompNo} {x : Session} (open_ : s.session b = some x) :
    s.compRec b c = x.comp c := by
  simp only [State.compRec, open_]

/-- The session of a load that begins: the compartment begun, the session LOADING (R112). -/
def Session.begin (x : Session) (c : CompNo) : Session := { x.modComp c CompRec.begun with state := .loading }

/-- The state of an accepted START before the arm takes it: the compartment and the session begun, STARTED shown. -/
def startShown (b : BayNo) (a : ArmNo) (oc : OnArm) (s : State) : State :=
  ((s.modComp b oc.comp CompRec.begun).modSession b fun x => { x with state := .loading }).sendShow b .started
    [unitNo a, unitNo oc.comp, oc.preset]

theorem acceptStart_eq (b : BayNo) (a : ArmNo) (oc : OnArm) (s : State) :
    acceptStart b a oc s = enterLowStart a (startShown b a oc s) := rfl

theorem startShown_frame (b : BayNo) (a : ArmNo) (oc : OnArm) (s : State) :
    startShown b a oc s = { s with bays := (startShown b a oc s).bays } := rfl

theorem startShown_bay_other {b x : BayNo} (a : ArmNo) (oc : OnArm) (s : State) (other : x ≠ b) :
    (startShown b a oc s).bays[x] = s.bays[x] := by
  simp only [startShown, sendShow_bays, modSession_bays, modComp_bays, Fin.getElem_fin, vmod_other _ _ _ _ other]

theorem startShown_bay (b : BayNo) (a : ArmNo) (oc : OnArm) (s : State) :
    (startShown b a oc s).session b = (s.session b).map (fun x => x.begin oc.comp)
      ∧ (startShown b a oc s).bays[b].lastPrompt = some ⟨.started, [unitNo a, unitNo oc.comp, oc.preset]⟩ := by
  simp only [State.session, startShown, sendShow_bays, modSession_bays, modComp_bays, Fin.getElem_fin, vmod_self,
    Option.map_map, and_true]
  rfl

/-! ### The accepted key -/

/-- The key counted and the preset reserved on the permit (R101). -/
def startReserved (b : BayNo) (oc : OnArm) (p : Permit) (s : State) : State :=
  { keyed b s with permits := modPermit s.permits p.number fun q => { q with reserved := q.reserved + oc.preset } }

theorem startReserved_bays (b : BayNo) (oc : OnArm) (p : Permit) (s : State) :
    (startReserved b oc p s).bays = (keyed b s).bays := rfl

/-- The state in which the arm takes an accepted START: the key counted, the preset reserved, the session begun. -/
def startTaken (b : BayNo) (a : ArmNo) (oc : OnArm) (p : Permit) (s : State) : State :=
  startShown b a oc (startReserved b oc p s)

theorem startTaken_permits (b : BayNo) (a : ArmNo) (oc : OnArm) (p : Permit) (s : State) :
    (startTaken b a oc p s).permits
      = modPermit s.permits p.number fun q => { q with reserved := q.reserved + oc.preset } := rfl

theorem startTaken_frame (b : BayNo) (a : ArmNo) (oc : OnArm) (p : Permit) (s : State) :
    startTaken b a oc p s = { s.fresh with
      permits := (startTaken b a oc p s).permits, bays := (startTaken b a oc p s).bays } := by
  rw [startTaken_permits]
  unfold startTaken startReserved
  rw [startShown_frame, keyed_frame]

/-- The checks pass and the permit holds the preset: the key reserves it, begins the load and hands it to the arm. -/
theorem exec_start_accepted {s : State} {b : BayNo} {a : ArmNo} {oc : OnArm} {p : Permit} (ready : Ready s)
    (passes : FlowChecksPass s b a .armed) (onArm : s.arms[a].comp = some oc)
    (found : findPermit s.permits (sessionPermit s b) = some p) (state : p.state = .active)
    (fits : p.quota = 0 ∨ p.used + p.reserved + oc.preset ≤ p.quota) :
    exec (.start b a) s = .next (settleCommand (enterLowStart a (startTaken b a oc p s))) := by
  have passes : flowRefusal (keyed b s) b a .armed = none :=
    (flowRefusal_keyed b a .armed s).trans (flowRefusal_none passes)
  have onArm : (keyed b s).arms[a].comp = some oc := by rw [keyed_arms]; exact onArm
  have number : sessionPermit (keyed b s) b = p.number := by
    rw [sessionPermit_keyed, findPermit_number _ _ _ found]
  have found : findPermit (keyed b s).permits (sessionPermit (keyed b s) b) = some p := by
    rw [keyed_permits, sessionPermit_keyed]; exact found
  rw [exec_start ready, startKey_granted passes onArm (reserve_granted found state fits), acceptStart_eq, number,
    keyed_permits]
  rfl

section Taken

variable (b : BayNo) (a : ArmNo) (oc : OnArm) (p : Permit) (s : State)

theorem startTaken_rest :
    (startTaken b a oc p s).setup = s.setup ∧ (startTaken b a oc p s).mode = s.mode
      ∧ (startTaken b a oc p s).trip = s.trip ∧ (startTaken b a oc p s).arms = s.arms
      ∧ (startTaken b a oc p s).pumps = s.pumps ∧ (startTaken b a oc p s).pulses = s.pulses
      ∧ (startTaken b a oc p s).meters = s.meters := by
  rw [startTaken_frame]
  exact ⟨rfl, rfl, rfl, rfl, rfl, rfl, rfl⟩

theorem startTaken_session :
    (startTaken b a oc p s).session b = (s.session b).map fun x => x.begin oc.comp := by
  have session : (startReserved b oc p s).session b = s.session b := by
    rw [State.session, startReserved_bays]
    exact keyed_session b s
  rw [← session]
  exact (startShown_bay b a oc (startReserved b oc p s)).1

theorem startTaken_lastPrompt :
    (startTaken b a oc p s).bays[b].lastPrompt = some ⟨.started, [unitNo a, unitNo oc.comp, oc.preset]⟩ :=
  (startShown_bay b a oc (startReserved b oc p s)).2

theorem startTaken_otherBays : OtherBaysSame b s (startTaken b a oc p s) := fun _ other =>
  (startShown_bay_other a oc (startReserved b oc p s) other).trans (keyed_bay_other s other)

end Taken

theorem startTaken_begins {s : State} {b : BayNo} {c : OnArm} {r : CompRec} (a : ArmNo) (p : Permit)
    (record : s.compRec b c.comp = some r) :
    (startTaken b a c p s).compRec b c.comp = some r.begun ∧ SessionIn (startTaken b a c p s) b .loading := by
  obtain ⟨x, open_, comp⟩ := compRec_some record
  have begun : (startTaken b a c p s).session b = some (x.begin c.comp) := by
    rw [startTaken_session, open_, Option.map_some]
  constructor
  · rw [compRec_of_session begun]
    exact comp_modComp (fun _ => rfl) comp
  · rw [SessionIn, begun]
    rfl

/-! ### The arm takes it -/

section Entered

variable (a : ArmNo) (s : State)

theorem enterLowStart_rest :
    (enterLowStart a s).bays = s.bays ∧ (enterLowStart a s).permits = s.permits := by
  rw [enterLowStart_frame]
  exact flowFrom_rest s (enterLowStart a s)

/-- The meter of the arm measures its leak from 0. -/
theorem enterLowStart_leak : (enterLowStart a s).meters[a].leak = 0 := by
  simp only [enterLowStart_meters, Fin.getElem_fin, vmod_self]

/-- The pulse input of the arm has its start-of-flow values (R10). -/
theorem enterLowStart_pulse :
    (enterLowStart a s).pulses[a].score = 0 ∧ (enterLowStart a s).pulses[a].last = s.pulses[a].last
      ∧ (enterLowStart a s).pulses[a].locked = !(s.armCfg a).dual
      ∧ (enterLowStart a s).pulses[a].cleanPairs = if (s.armCfg a).dual then 0 else s.pulses[a].cleanPairs := by
  simp only [enterLowStart_pulses, Fin.getElem_fin, vmod_self]
  cases (s.armCfg a).dual <;> exact ⟨rfl, rfl, rfl, rfl⟩

theorem enterLowStart_otherInputs (x : ArmNo) (other : x ≠ a) :
    (enterLowStart a s).pulses[x] = s.pulses[x] ∧ (enterLowStart a s).meters[x] = s.meters[x] := by
  rw [enterLowStart_pulses, enterLowStart_meters]
  exact ⟨vmod_other _ _ _ _ other, vmod_other _ _ _ _ other⟩

end Entered

theorem armCfg_of_setup {s t : State} (setup : t.setup = s.setup) (a : ArmNo) : t.armCfg a = s.armCfg a := by
  simp only [State.armCfg, State.cfg, setup]

/-- The wait hangs on the configuration, the arm's product, the pumps and whether they are forced alone. -/
theorem WaitsAsPumpRuns.congr {a : ArmNo} {s t u : State} (waits : WaitsAsPumpRuns a t u) (setup : t.setup = s.setup)
    (comp : t.arms[a].comp = s.arms[a].comp) (pumps : t.pumps = s.pumps) (forced : pumpsForced t = pumpsForced s) :
    WaitsAsPumpRuns a s u := by
  obtain ⟨pump, delay⟩ := pumpOf_congr setup comp
  unfold WaitsAsPumpRuns at waits ⊢
  rwa [pump, delay, pumps, forced] at waits

theorem pumpsForced_run {s : State} (mode : s.mode = .run) : pumpsForced s = s.trip.stageTwo := by
  simp only [pumpsForced, mode]
  rfl

/-- An accepted START changes the pulse inputs, meters, arms, pumps, permits, bays and notices alone. -/
theorem startEntered_frame (b : BayNo) (a : ArmNo) (oc : OnArm) (p : Permit) (s : State) :
    enterLowStart a (startTaken b a oc p s)
      = flowFrom { s.fresh with
          permits := (enterLowStart a (startTaken b a oc p s)).permits
          bays := (enterLowStart a (startTaken b a oc p s)).bays } (enterLowStart a (startTaken b a oc p s)) := by
  obtain ⟨bays, permits⟩ := enterLowStart_rest a (startTaken b a oc p s)
  rw [bays, permits]
  calc enterLowStart a (startTaken b a oc p s)
    _ = flowFrom (startTaken b a oc p s) (enterLowStart a (startTaken b a oc p s)) := enterLowStart_frame a _
    _ = _ := congrArg (flowFrom · (enterLowStart a (startTaken b a oc p s))) (startTaken_frame b a oc p s)

/-! ### O39 -/

/-- Settles O39: the refusals, and the accepted key part by part. -/
theorem startBeginsTheLoad : Obligations.StartBeginsTheLoad := by
  refine ⟨fun s b a ready => start_refusals ready b a,
    fun s b a oc r p ready passes onArm _ record found state fits => ?_⟩
  obtain ⟨_, mine, _, mode, _⟩ := show FlowChecksPass s b a .armed from passes
  obtain ⟨setup, modeV, trip, arms, pumps, pulses, meters⟩ := startTaken_rest b a oc p s
  obtain ⟨comp, session⟩ := startTaken_begins a p record
  have prompt := startTaken_lastPrompt b a oc p s
  have otherBays := startTaken_otherBays b a oc p s
  have run := modeV.trans mode
  have cfg := armCfg_of_setup setup a
  have used : ((startTaken b a oc p s).armCfg a).used = true := by
    rw [cfg, ArmCfg.used, mine, Option.isSome_some]
  obtain ⟨stateU, compU, stopU⟩ := enterLowStart_arm run used
  obtain ⟨score, last, locked, pairs⟩ := enterLowStart_pulse a (startTaken b a oc p s)
  obtain ⟨baysU, permitsU⟩ := enterLowStart_rest a (startTaken b a oc p s)
  have otherInputs := enterLowStart_otherInputs a (startTaken b a oc p s)
  have otherArms := enterLowStart_others a (startTaken b a oc p s)
  obtain ⟨noPump, pump⟩ := (enterLowStart_waits run used).congr setup (by rw [arms]) pumps
    (by rw [pumpsForced_run run, pumpsForced_run mode, trip])
  rw [pumpsForced_run mode] at pump
  rw [startTaken_permits] at permitsU
  simp only [pulses, meters, cfg] at last locked pairs otherInputs
  simp only [OtherArmsSame, arms, onArm] at compU otherArms
  have taken := exec_start_accepted ready passes onArm found state fits
  have leak := enterLowStart_leak a (startTaken b a oc p s)
  have redelivered := enterLowStart_redeliver a (startTaken b a oc p s)
  have frame := startEntered_frame b a oc p s
  generalize enterLowStart a (startTaken b a oc p s) = u at *
  generalize startTaken b a oc p s = v at *
  refine ⟨u, r.begun, taken, stateU, compU, stopU, leak, permitsU, ?_, rfl, rfl, begun_lines_active r, rfl, ?_, ?_,
    score, last, locked, pairs, otherInputs, noPump, pump, redelivered, otherArms, ?_, frame⟩
  · rw [State.compRec, State.session, baysU]
    exact comp
  · rw [SessionIn, State.session, baysU]
    exact session
  · rw [baysU]
    exact prompt
  · rw [OtherBaysSame, baysU]
    exact otherBays

end Sys2Proof.Machine
end

section
/-! What the report of an interval leaves (R31, R45, R57, R59, R68): after the volume has been placed, the arm controller, the
posting of shots and the activity event change no meter, no accumulator and no other arm. -/

namespace Sys2Proof.Machine

/-! ### Compartment records after a change of one of them -/

/-- A change that keeps the numbers of the compartments is read at the compartment it names and at no other. -/
theorem comp_modComp_map (x : Session) (c d : CompNo) {f : CompRec → CompRec} (keeps : ∀ r, (f r).no = r.no) :
    (x.modComp c f).comp d = (x.comp d).map fun r => if r.no = c then f r else r := by
  have test : ((fun r : CompRec => decide (r.no = d)) ∘ fun r => if r.no = c then f r else r)
      = fun r => decide (r.no = d) := by
    funext y
    by_cases named : y.no = c <;> simp [named, keeps]
  show (x.comps.map _).find? _ = _
  rw [List.find?_map, test]
  rfl

theorem compRec_eq_bind (s : State) (b : BayNo) (c : CompNo) : s.compRec b c = (s.session b).bind (·.comp c) := by
  unfold State.compRec
  split <;> simp_all

theorem session_modComp_self (b : BayNo) (c : CompNo) (f : CompRec → CompRec) (s : State) :
    (s.modComp b c f).session b = (s.session b).map (·.modComp c f) := by
  simp [State.session]

theorem session_modComp_other {b x : BayNo} (c : CompNo) (f : CompRec → CompRec) (s : State) (other : x ≠ b) :
    (s.modComp b c f).session x = s.session x := by
  simp [State.session, vmod_other _ _ _ _ other]

/-- The records of a changed bay. -/
theorem compRec_modComp_bay (b : BayNo) (c d : CompNo) {f : CompRec → CompRec} (s : State)
    (keeps : ∀ r, (f r).no = r.no) :
    (s.modComp b c f).compRec b d = (s.compRec b d).map fun r => if r.no = c then f r else r := by
  rw [compRec_eq_bind, compRec_eq_bind, session_modComp_self]
  cases s.session b with
  | none => rfl
  | some x => exact comp_modComp_map x c d keeps

theorem compRec_no {s : State} {b : BayNo} {c : CompNo} {r : CompRec} (found : s.compRec b c = some r) : r.no = c := by
  obtain ⟨_, _, comp⟩ := compRec_some found
  simpa using List.find?_some comp

/-- The record a change names, after it. -/
theorem compRec_modComp {s : State} {b : BayNo} {c : CompNo} {r : CompRec} {f : CompRec → CompRec}
    (keeps : ∀ r, (f r).no = r.no) (found : s.compRec b c = some r) :
    (s.modComp b c f).compRec b c = some (f r) := by
  rw [compRec_modComp_bay b c c s keeps, found, Option.map_some, if_pos (compRec_no found)]

theorem compRec_congr {s t : State} {b : BayNo} (same : t.session b = s.session b) (c : CompNo) :
    t.compRec b c = s.compRec b c := by
  rw [compRec_eq_bind, compRec_eq_bind, same]

/-- The compartment on an arm is the record its assignment names. -/
theorem armComp_of_onArm {s : State} {a : ArmNo} {oc : OnArm} (onArm : s.arms[a].comp = some oc) :
    s.armComp a = s.compRec oc.bay oc.comp := by
  simp only [State.armComp, onArm]

theorem modArmComp_of_onArm {s : State} {a : ArmNo} {oc : OnArm} (onArm : s.arms[a].comp = some oc)
    (f : CompRec → CompRec) : s.modArmComp a f = s.modComp oc.bay oc.comp f := by
  simp only [State.modArmComp, onArm]

theorem fresh_session (b : BayNo) (s : State) : s.fresh.session b = s.session b := by
  simp [State.session]

theorem fresh_compRec (b : BayNo) (c : CompNo) (s : State) : s.fresh.compRec b c = s.compRec b c :=
  compRec_congr (fresh_session b s) c

/-! ### Accumulators kept -/

/-- Every compartment record is still there with its accumulators. -/
def AccumulatorsKept (s t : State) : Prop :=
  ∀ b c r, s.compRec b c = some r → ∃ r', t.compRec b c = some r' ∧ r'.acc = r.acc

theorem accumulatorsKept_of_sessions {s t : State} (same : SessionsSame s t) : AccumulatorsKept s t :=
  fun b c r found => ⟨r, (compRec_congr (same b) c).trans found, rfl⟩

theorem accumulatorsKept_of_bays {s t : State} (same : t.bays = s.bays) : AccumulatorsKept s t :=
  accumulatorsKept_of_sessions fun b => congrArg (fun v : Vector Bay 4 => v[b].session) same

theorem accumulatorsKept_modComp (b : BayNo) (c : CompNo) {f : CompRec → CompRec} (s : State)
    (no : ∀ r, (f r).no = r.no) (acc : ∀ r, (f r).acc = r.acc) : AccumulatorsKept s (s.modComp b c f) := by
  intro x d r found
  by_cases here : x = b
  · subst here
    rw [compRec_modComp_bay x c d s no, found, Option.map_some]
    refine ⟨_, rfl, ?_⟩
    split
    · exact acc r
    · rfl
  · exact ⟨r, (compRec_congr (session_modComp_other c f s here) d).trans found, rfl⟩

/-! ### The report -/

/-- `s` with what the report of an interval may change taken from `t`. -/
def reportFrom (s t : State) : State :=
  { s with arms := t.arms, pumps := t.pumps, injectors := t.injectors, bays := t.bays, inbox := t.inbox }

/-- What the report of an interval on arm `a` keeps on its way from `s` to `t`. -/
structure Reported (a : ArmNo) (s t : State) : Prop where
  frame : t = reportFrom s t
  others : OtherArmsSame a s t
  comp : t.arms[a].comp = s.arms[a].comp
  accs : AccumulatorsKept s t

theorem Reported.refl (a : ArmNo) (s : State) : Reported a s s :=
  ⟨rfl, fun _ _ => rfl, rfl, fun _ _ r found => ⟨r, found, rfl⟩⟩

theorem Reported.trans {a : ArmNo} {s t u : State} (first : Reported a s t) (second : Reported a t u) :
    Reported a s u where
  frame := calc u
    _ = reportFrom t u := second.frame
    _ = reportFrom (reportFrom s t) u := congrArg (fun x => reportFrom x u) first.frame
    _ = reportFrom s u := rfl
  others x other := (second.others x other).trans (first.others x other)
  comp := second.comp.trans first.comp
  accs b c r found := by
    obtain ⟨r1, found1, acc1⟩ := first.accs b c r found
    obtain ⟨r2, found2, acc2⟩ := second.accs b c r1 found1
    exact ⟨r2, found2, acc2.trans acc1⟩

/-- An operation of one arm that leaves its compartment. -/
theorem ArmOnly.reported {a : ArmNo} {s t : State} (only : ArmOnly a s t) (comp : t.arms[a].comp = s.arms[a].comp) :
    Reported a s t := by
  obtain ⟨frame, others⟩ := only
  have pumps : t.pumps = s.pumps := by rw [frame]; rfl
  have injectors : t.injectors = s.injectors := by rw [frame]; rfl
  have bays : t.bays = s.bays := by rw [frame]; rfl
  refine ⟨?_, others, comp, accumulatorsKept_of_bays bays⟩
  rw [reportFrom, pumps, injectors, bays]
  exact frame

section Updates

variable (a : ArmNo) (s : State)

theorem reported_modArm {f : Arm → Arm} (keeps : ∀ x, (f x).comp = x.comp) : Reported a s (s.modArm a f) :=
  (armOnly_modArm a f s).reported ((congrArg Arm.comp (vmod_self ..)).trans (keeps _))

theorem reported_push (n : Notice) : Reported a s (s.push n) := (armOnly_push a n s).reported rfl

theorem reported_modPump (p : PumpNo) (f : Pump → Pump) : Reported a s (s.modPump p f) :=
  ⟨rfl, fun _ _ => rfl, rfl, accumulatorsKept_of_bays rfl⟩

theorem reported_modInj (i : InjNo) (f : Injector → Injector) : Reported a s (s.modInj i f) :=
  ⟨rfl, fun _ _ => rfl, rfl, accumulatorsKept_of_bays rfl⟩

theorem reported_modComp (b : BayNo) (c : CompNo) {f : CompRec → CompRec} (no : ∀ r, (f r).no = r.no)
    (acc : ∀ r, (f r).acc = r.acc) : Reported a s (s.modComp b c f) :=
  ⟨rfl, fun _ _ => rfl, rfl, accumulatorsKept_modComp b c s no acc⟩

theorem reported_modLineOf (q : ShotRequest) (f : AdditiveLine → AdditiveLine) : Reported a s (s.modLineOf q f) :=
  reported_modComp a s q.bay q.comp (fun _ => rfl) fun _ => rfl

/-! #### The arm -/

theorem reported_stopNoFlow : Reported a s (stopNoFlow a s) :=
  (armOnly_stopNoFlow a s).reported (by simp [stopNoFlow, setNoFlowCond_arms])

theorem reported_startNoFlow : Reported a s (startNoFlow a s) := reported_modArm a s fun _ => rfl

theorem reported_enterState (st : ArmState) : Reported a s (enterState a st s) := by
  obtain ⟨_, comp, _⟩ := refreshCommand_keeps a a (s.modArm a fun x => { x with state := st })
  refine (armOnly_enterState a st s).reported (comp.trans ?_)
  simp only [modArm_arms, Fin.getElem_fin, vmod_self]

theorem reported_removeDemand : Reported a s (removeDemand a s) := by
  unfold removeDemand
  split
  · exact .refl a s
  · exact reported_modPump a s _ _

theorem reported_startClosingLimit : Reported a s (startClosingLimit a s) := reported_modArm a s fun _ => rfl

theorem reported_enterClosing : Reported a s (enterClosing a s) := by
  have entered := (reported_removeDemand a s).trans (reported_enterState a (removeDemand a s) .closing)
  have timed := entered.trans (reported_startClosingLimit a _)
  have stopped := timed.trans (reported_stopNoFlow a _)
  exact stopped.trans (reported_push a _ (.testArm a))

theorem reported_watchFlow (q : Nat) : Reported a s (watchFlow a q s) := by
  unfold watchFlow
  split
  · split
    · exact reported_startNoFlow a s
    · exact .refl a s
  · exact reported_stopNoFlow a s

theorem reported_checkOverrun : Reported a s (checkOverrun a s) := by
  unfold checkOverrun
  split
  · next oc r onArm _ =>
    split
    · rw [modArmComp_of_onArm onArm]
      exact (reported_modComp a s oc.bay oc.comp (fun _ => by rfl) fun _ => by rfl).trans (reported_push a _ _)
    · exact .refl a s
  · exact .refl a s

theorem reported_flowingReport (q : Nat) (locked : Bool) : Reported a s (flowingReport a q locked s) := by
  have entered (st : ArmState) : Reported a s (stopNoFlow a (enterState a st s)) :=
    (reported_enterState a s st).trans (reported_stopNoFlow a _)
  unfold flowingReport
  split
  · split
    · exact reported_enterClosing a s
    · split
      · exact .refl a s
      · exact entered _
    · split
      · exact reported_watchFlow a s q
      · exact entered _
    · exact .refl a s
  · exact .refl a s

theorem reported_armReport (q : Nat) (locked : Bool) : Reported a s (armReport a q locked s) := by
  unfold armReport
  split
  · exact reported_flowingReport a s q locked
  · exact reported_flowingReport a s q locked
  · exact reported_flowingReport a s q locked
  · exact reported_checkOverrun a s
  · exact .refl a s

/-! #### The shots -/

theorem reported_takeOldest (i : InjNo) : Reported a s (takeOldest i s) := by
  unfold takeOldest
  simp only
  split
  · exact reported_modInj a s i _
  · exact .refl a s

theorem reported_shotJoined (q : ShotRequest) : Reported q.arm s (shotJoined q s) :=
  reported_modArm q.arm s fun _ => rfl

theorem reported_postShot (i : InjNo) (q : ShotRequest) : Reported q.arm s (postShot i q s) := by
  unfold postShot
  split
  · exact (reported_modLineOf q.arm s q _).trans (reported_modInj q.arm _ i _)
  · exact (reported_modInj q.arm s i _).trans <| (reported_shotJoined _ q).trans (reported_takeOldest q.arm _ i)

theorem reported_postLine (b : BayNo) (c : CompNo) (number fuel : Nat) :
    Reported a s (postLine a b c number fuel s) := by
  induction fuel generalizing s with
  | zero => exact .refl a s
  | succ fuel ih =>
    unfold postLine
    split
    · split
      · exact ((reported_modLineOf a s _ _).trans (reported_postShot _ _ ⟨a, b, c, number, _⟩)).trans (ih _)
      · exact .refl a s
    · exact .refl a s

theorem reported_postShots (st : ArmState) : Reported a s (postShots a st s) := by
  have line (oc : OnArm) (number : Nat) (t : State) : Reported a t
      (match t.lineOf ⟨a, oc.bay, oc.comp, number, 0⟩ with
        | some l => postLine a oc.bay oc.comp number (l.due - l.next) t
        | none => t) := by
    split
    · exact reported_postLine a t ..
    · exact .refl a t
  unfold postShots
  split
  · split
    · exact (line _ 1 s).trans (line _ 2 _)
    · exact .refl a s
  · exact .refl a s

/-! #### The bay and the whole -/

theorem activity_sessions (b : BayNo) (k : Activity) : SessionsSame s (activity b k s) := by
  intro x
  rcases activity_cases b k s with same | timed
  · rw [same]
  · by_cases here : x = b
    · simp [timed, State.session, here]
    · simp [timed, State.session, vmod_other _ _ _ _ here]

theorem reported_activity (b : BayNo) (k : Activity) : Reported a s (activity b k s) := by
  have accs := accumulatorsKept_of_sessions (activity_sessions s b k)
  rcases activity_cases b k s with same | timed
  · rw [same]
    exact .refl a s
  · rw [timed] at accs ⊢
    exact ⟨rfl, fun _ _ => rfl, rfl, accs⟩

/-- The rest of an expiry once its volume has been placed. -/
theorem reported_interval (cfg : Configuration) : Reported a (account cfg a s) (interval cfg a s) := by
  have told := (reported_armReport a (account cfg a s) (account cfg a s).meters[a].q s.pulses[a].locked).trans
    (reported_postShots a _ s.arms[a].state)
  unfold interval
  simp only
  split
  · split
    · exact told.trans (reported_activity a _ _ _)
    · exact told
  · exact told

end Updates

theorem leakWatched_iff (st : ArmState) : st.leakWatched = true ↔ st = .idle ∨ st = .armed ∨ st = .held := by
  cases st <;> decide

/-- In IDLE, ARMED and HELD no report is judged, no shot posted and nothing sent (R45, R68). -/
theorem interval_inbox_of_leakWatched {a : ArmNo} {s : State} (cfg : Configuration)
    (watched : s.arms[a].state.leakWatched = true) (same : (account cfg a s).arms = s.arms) :
    (interval cfg a s).inbox = (account cfg a s).inbox := by
  have active (b : BayNo) (t : State) : (activity b .flow t).inbox = t.inbox := by
    rcases activity_cases b .flow t with same | timed
    · rw [same]
    · rw [timed]; rfl
  have silent (q : Nat) (locked : Bool) :
      postShots a s.arms[a].state (armReport a q locked (account cfg a s)) = account cfg a s := by
    have state : (account cfg a s).arms[a].state = s.arms[a].state := by rw [same]
    unfold armReport postShots
    rw [state]
    rcases (leakWatched_iff _).1 watched with st | st | st <;> (rw [st]; rfl)
  unfold interval
  simp only [silent]
  split
  · split
    · exact active _ _
    · rfl
  · rfl

end Sys2Proof.Machine
end

section
/-! The computation and placing of an interval's volume (R19 to R30): what an expiry makes of its meter, of the compartment
on its arm and of the notices, each said once. -/

namespace Sys2Proof.Machine

/-! ### The steps of an expiry -/

/-- The count handed over and the gross figures taken into the meter (R19 to R23, R27). -/
def grossTaken (a : ArmNo) (x : IntervalGross) (s : State) : State :=
  (s.modPulse a fun p => { p with count := 0, saturated := false }).modMeter a fun m =>
    { m with interval := 0, q := x.q, lastMf := some x.mf, rG := x.rG, totaliser := addModulo m.totaliser x.dg }

/-- The interval's volume placed by the class of the arm's state (R20, R28, R29). -/
def volumePlaced (cfg : Configuration) (a : ArmNo) (dg : Nat) (s : State) : State :=
  if s.arms[a].state.unattended then s.modMeter a fun m => { m with unattended := addModulo m.unattended dg }
  else match s.arms[a].comp with
    | some oc => accountStandard cfg a oc.product dg s
    | none => s

theorem account_eq (cfg : Configuration) (a : ArmNo) (s : State) :
    account cfg a s = leakWatch cfg a (expiryGross cfg s a).dg
      (volumePlaced cfg a (expiryGross cfg s a).dg (grossTaken a (expiryGross cfg s a) s)) := rfl

/-! ### The standard side (R24 to R26) -/

/-- The temperature an interval is computed at: the arm's value, or Tref without one (R15, R24). -/
def intervalTemp (cfg : Configuration) (a : ArmNo) (s : State) : Int := (tempValue s a).getD cfg.rack.tref

/-- The volume correction factor of an interval before its limits (R24). -/
def intervalRaw (cfg : Configuration) (a : ArmNo) (p : ProductNo) (s : State) : Int :=
  vcfRaw cfg.products[p].alpha cfg.products[p].gamma (intervalTemp cfg a s) cfg.rack.tref

/-- The factor that an interval computes and keeps: that of the compartment on an arm that is not IDLE (R24, R25). -/
def intervalVcf (cfg : Configuration) (a : ArmNo) (s : State) : Option Nat :=
  if s.arms[a].state.unattended then none
  else s.arms[a].comp.map fun oc => vcfClamped (intervalRaw cfg a oc.product s)

/-- The accumulators after an interval at a factor before its limits (R24 to R26, R28). -/
def Accumulators.afterInterval (x : Accumulators) (cfg : Configuration) (a : ArmNo) (p : ProductNo) (dg rS : Nat)
    (s : State) : Accumulators :=
  x.add dg (standardNumerator dg (vcfClamped (intervalRaw cfg a p s)) rS / 100000) (intervalTemp cfg a s)
    (tempIsHeld s a || (tempValue s a).isNone) (vcfOutside (intervalRaw cfg a p s))

/-- The meter after the standard side at a factor (R25, R26). -/
def MeterEngine.standard (m : MeterEngine) (vcf dg : Nat) : MeterEngine :=
  { m with lastVcf := some vcf, rS := standardNumerator dg vcf m.rS % 100000 }

theorem accountStandard_eq (cfg : Configuration) (a : ArmNo) (p : ProductNo) (dg : Nat) (s : State) :
    accountStandard cfg a p dg s
      = (s.modMeter a fun m => m.standard (vcfClamped (intervalRaw cfg a p s)) dg).modArmComp a fun r =>
          { r with acc := r.acc.afterInterval cfg a p dg s.meters[a].rS s } := by
  have meter : (s.modMeter a fun m => m.standard (vcfClamped (intervalRaw cfg a p s)) dg)
      = s.modMeter a fun m => { m with
          lastVcf := some (vcfClamped (intervalRaw cfg a p s))
          rS := standardNumerator dg (vcfClamped (intervalRaw cfg a p s)) s.meters[a].rS % 100000 } :=
    congrArg (fun v => { s with meters := v }) (vmod_congr rfl)
  rw [meter]
  rfl

/-! ### The placing (R20, R28, R29) -/

theorem vmod_same {α : Type} {n : Nat} {v : Vector α n} {i : Fin n} {f : α → α} (same : f v[i.val] = v[i.val]) :
    vmod v i f = v := by
  apply vec_ext
  intro j
  rw [vmod_get]
  split
  · next here => subst here; exact same
  · rfl

/-- What the placing can do. -/
theorem volumePlaced_cases (cfg : Configuration) (a : ArmNo) (dg : Nat) (s : State) :
    (s.arms[a].state.unattended = true
      ∧ volumePlaced cfg a dg s = s.modMeter a fun m => { m with unattended := addModulo m.unattended dg }) ∨
    (s.arms[a].state.unattended = false ∧ s.arms[a].comp = none ∧ volumePlaced cfg a dg s = s) ∨
    (∃ oc, s.arms[a].state.unattended = false ∧ s.arms[a].comp = some oc
      ∧ volumePlaced cfg a dg s = accountStandard cfg a oc.product dg s) := by
  unfold volumePlaced
  cases idle : s.arms[a].state.unattended with
  | true => exact .inl ⟨rfl, rfl⟩
  | false =>
    cases onArm : s.arms[a].comp with
    | none => exact .inr (.inl ⟨rfl, rfl, rfl⟩)
    | some oc => exact .inr (.inr ⟨oc, rfl, rfl, rfl⟩)

theorem modArmComp_frame (a : ArmNo) (f : CompRec → CompRec) (s : State) :
    s.modArmComp a f = { s with bays := (s.modArmComp a f).bays } := by
  unfold State.modArmComp
  split <;> rfl

theorem modArmComp_meters (a : ArmNo) (f : CompRec → CompRec) (s : State) : (s.modArmComp a f).meters = s.meters := by
  rw [modArmComp_frame]

theorem volumePlaced_frame (cfg : Configuration) (a : ArmNo) (dg : Nat) (s : State) :
    volumePlaced cfg a dg s
      = { s with meters := (volumePlaced cfg a dg s).meters, bays := (volumePlaced cfg a dg s).bays } := by
  rcases volumePlaced_cases cfg a dg s with ⟨_, placed⟩ | ⟨_, _, placed⟩ | ⟨oc, _, _, placed⟩ <;> rw [placed]
  · rfl
  · rw [accountStandard_eq, modArmComp_frame]
    rfl

/-- The meter after the placing, by the class of the arm's state and the factor the interval computes (R25, R26, R29). -/
def MeterEngine.placed (m : MeterEngine) (unattended : Bool) (vcf : Option Nat) (dg : Nat) : MeterEngine :=
  { m with
      unattended := if unattended then addModulo m.unattended dg else m.unattended
      lastVcf := match vcf with
        | some v => some v
        | none => m.lastVcf
      rS := match vcf with
        | some v => standardNumerator dg v m.rS % 100000
        | none => m.rS }

theorem volumePlaced_meters (cfg : Configuration) (a : ArmNo) (dg : Nat) (s : State) :
    (volumePlaced cfg a dg s).meters
      = vmod s.meters a fun m => m.placed s.arms[a].state.unattended (intervalVcf cfg a s) dg := by
  rcases volumePlaced_cases cfg a dg s with ⟨idle, placed⟩ | ⟨away, onArm, placed⟩ | ⟨oc, away, onArm, placed⟩ <;>
    rw [placed]
  · have vcf : intervalVcf cfg a s = none := by rw [intervalVcf, idle]; rfl
    rw [vcf, idle]
    rfl
  · have vcf : intervalVcf cfg a s = none := by rw [intervalVcf, away, onArm]; rfl
    rw [vcf, away]
    exact (vmod_same rfl).symm
  · have vcf : intervalVcf cfg a s = some (vcfClamped (intervalRaw cfg a oc.product s)) := by
      rw [intervalVcf, away, onArm]; rfl
    rw [vcf, away, accountStandard_eq, modArmComp_meters]
    rfl

/-- The compartment on an arm that is not IDLE takes the interval (R28). -/
theorem volumePlaced_compRec {cfg : Configuration} {a : ArmNo} {s : State} {oc : OnArm} {r : CompRec} (dg : Nat)
    (away : s.arms[a].state.unattended = false) (onArm : s.arms[a].comp = some oc)
    (found : s.compRec oc.bay oc.comp = some r) :
    (volumePlaced cfg a dg s).compRec oc.bay oc.comp
      = some { r with acc := r.acc.afterInterval cfg a oc.product dg s.meters[a].rS s } := by
  have placed : volumePlaced cfg a dg s = accountStandard cfg a oc.product dg s := by
    simp only [volumePlaced, away, onArm, Bool.false_eq_true, if_false]
  rw [placed, accountStandard_eq, modArmComp_of_onArm (s := s.modMeter a _) onArm]
  exact compRec_modComp (s := s.modMeter a _) (fun _ => rfl) found

/-! ### The leak watch (R30, R39) -/

/-- The addition leaves the leak volume above the unattended limit (R30). -/
def leaks (limit : Nat) (st : ArmState) (dg leak : Nat) : Bool :=
  st.leakWatched && 0 < dg && limit * Config.microPerDeci < leak + dg

/-- The leak volume after an interval (R30). -/
def leakAfter (limit : Nat) (st : ArmState) (dg leak : Nat) : Nat :=
  if leaks limit st dg leak then 0 else if st.leakWatched then leak + dg else leak

/-- The three outcomes of the leak watch: nothing to add, an addition within the limit, one that leaves more. -/
theorem leak_cases (limit : Nat) (st : ArmState) (dg leak : Nat) :
    ((st.leakWatched && 0 < dg) = false ∧ leaks limit st dg leak = false ∧ leakAfter limit st dg leak = leak) ∨
    ((st.leakWatched && 0 < dg) = true ∧ leak + dg ≤ limit * Config.microPerDeci
      ∧ leaks limit st dg leak = false ∧ leakAfter limit st dg leak = leak + dg) ∨
    ((st.leakWatched && 0 < dg) = true ∧ limit * Config.microPerDeci < leak + dg
      ∧ leaks limit st dg leak = true ∧ leakAfter limit st dg leak = 0) := by
  unfold leakAfter leaks
  cases adds : st.leakWatched && decide (0 < dg) with
  | false =>
    refine .inl ⟨rfl, Bool.false_and _, ?_⟩
    have nothing : st.leakWatched = true → dg = 0 := by simpa using adds
    by_cases watched : st.leakWatched = true
    · simp [nothing watched]
    · simp [watched]
  | true =>
    obtain ⟨watched, _⟩ := (Bool.and_eq_true _ _).mp adds
    by_cases above : limit * Config.microPerDeci < leak + dg
    · exact .inr (.inr ⟨rfl, above, by simp [above], by simp [above]⟩)
    · exact .inr (.inl ⟨rfl, Nat.not_lt.1 above, by simp [above], by simp [above, watched]⟩)

/-- The leak watch changes the leak volume and sends LEAK, and nothing else (R30, R39). -/
theorem leakWatch_eq (cfg : Configuration) (a : ArmNo) (dg : Nat) (s : State) :
    leakWatch cfg a dg s
      = { s with
          meters := vmod s.meters a fun m =>
            { m with leak := leakAfter cfg.arms[a].unattendedLimit s.arms[a].state dg m.leak }
          inbox := s.inbox ++
            if leaks cfg.arms[a].unattendedLimit s.arms[a].state dg s.meters[a].leak then [.event (.leak a)]
            else [] } := by
  have meters (n : Nat) (after : leakAfter cfg.arms[a].unattendedLimit s.arms[a].state dg s.meters[a].leak = n) :
      vmod s.meters a (fun m => { m with
          leak := leakAfter cfg.arms[a].unattendedLimit s.arms[a].state dg m.leak })
        = vmod s.meters a fun m => { m with leak := n } :=
    vmod_congr (congrArg (fun n => { s.meters[a] with leak := n }) after)
  unfold leakWatch
  rcases leak_cases cfg.arms[a].unattendedLimit s.arms[a].state dg s.meters[a].leak with
    ⟨nothing, quiet, after⟩ | ⟨adds, within, quiet, after⟩ | ⟨adds, above, sent, after⟩
  · have same : vmod s.meters a (fun m => { m with leak := s.meters[a].leak }) = s.meters := vmod_same rfl
    rw [nothing, quiet, meters _ after, same]
    simp
  · rw [adds, if_pos rfl, if_neg (Nat.not_lt.2 within), quiet, meters _ after]
    simp [State.modMeter]
  · rw [adds, if_pos rfl, if_pos above, sent, meters _ after]
    rfl

/-! ### One expiry -/

/-- The meter of an expiry (R21 to R30): the gross figures, the placing, the leak volume. -/
def MeterEngine.accounted (m : MeterEngine) (x : IntervalGross) (st : ArmState) (vcf : Option Nat) (limit : Nat) :
    MeterEngine :=
  { m.placed st.unattended vcf x.dg with
      interval := 0, q := x.q, lastMf := some x.mf, rG := x.rG, totaliser := addModulo m.totaliser x.dg
      leak := leakAfter limit st x.dg m.leak }

section Account

variable (cfg : Configuration) (a : ArmNo) (s : State)

theorem account_frame :
    account cfg a s = { s with
      pulses := (account cfg a s).pulses, meters := (account cfg a s).meters, bays := (account cfg a s).bays
      inbox := (account cfg a s).inbox } := by
  rw [account_eq, leakWatch_eq, volumePlaced_frame]
  rfl

theorem account_arms : (account cfg a s).arms = s.arms := by
  rw [account_frame]

theorem accountPlaced_arms :
    (volumePlaced cfg a (expiryGross cfg s a).dg (grossTaken a (expiryGross cfg s a) s)).arms = s.arms := by
  rw [volumePlaced_frame]; rfl

theorem account_meters :
    (account cfg a s).meters = vmod s.meters a fun m =>
      m.accounted (expiryGross cfg s a) s.arms[a].state (intervalVcf cfg a s) cfg.arms[a].unattendedLimit := by
  rw [account_eq, leakWatch_eq]
  simp only [accountPlaced_arms, volumePlaced_meters]
  simp only [grossTaken, modMeter_meters, vmod_vmod]
  rfl

theorem account_inbox :
    (account cfg a s).inbox = s.inbox ++
      if leaks cfg.arms[a].unattendedLimit s.arms[a].state (expiryGross cfg s a).dg s.meters[a].leak then
        [.event (.leak a)] else [] := by
  have leak : (volumePlaced cfg a (expiryGross cfg s a).dg (grossTaken a (expiryGross cfg s a) s)).meters[a].leak
      = s.meters[a].leak := by
    simp [volumePlaced_meters, grossTaken, MeterEngine.placed]
  have inbox : (volumePlaced cfg a (expiryGross cfg s a).dg (grossTaken a (expiryGross cfg s a) s)).inbox = s.inbox := by
    rw [volumePlaced_frame]; rfl
  rw [account_eq, leakWatch_eq]
  simp only [accountPlaced_arms, leak, inbox]

variable {cfg a s}

theorem account_compRec {oc : OnArm} {r : CompRec} (away : s.arms[a].state.unattended = false)
    (onArm : s.arms[a].comp = some oc) (found : s.compRec oc.bay oc.comp = some r) :
    (account cfg a s).compRec oc.bay oc.comp = some { r with
      acc := r.acc.afterInterval cfg a oc.product (expiryGross cfg s a).dg s.meters[a].rS s } := by
  have meter : (grossTaken a (expiryGross cfg s a) s).meters[a].rS = s.meters[a].rS := by simp [grossTaken]
  have placed := volumePlaced_compRec (cfg := cfg) (s := grossTaken a (expiryGross cfg s a) s)
    (expiryGross cfg s a).dg away onArm found
  rw [account_eq, leakWatch_eq]
  rw [meter] at placed
  exact placed

end Account

end Sys2Proof.Machine
end

section
/-! The interval expiry as a command (O20, O21): the flow rate, the exact gross increment and the count handed over. -/

namespace Sys2Proof.Machine

/-! ### The command -/

theorem exec_intervalExpiry {s : State} (ready : Ready s) (a : ArmNo) :
    exec (.intervalExpiry a) s = .next (settleCommand (interval s.cfg a s.fresh)) :=
  inService_ready (fun s => interval s.cfg a s) s ready

/-- The gross side of an expiry by the arm's record (R21 to R23). -/
def grossOf (s : State) (a : ArmNo) : IntervalGross :=
  intervalGross (s.armCfg a) s.pulses[a].count s.meters[a].rG

/-- The report of an interval changes no meter (R31). -/
theorem interval_meters (cfg : Configuration) (a : ArmNo) (s : State) :
    (interval cfg a s).meters = (account cfg a s).meters := by
  rw [(reported_interval a s cfg).frame]
  rfl

section Used

variable {s : State} {a : ArmNo} (used : (s.armCfg a).used = true)
include used

theorem expiryGross_fresh : expiryGross s.cfg s.fresh a = grossOf s a := expiryGross_used s.cfg s.fresh a used

/-- The meter of a used arm after its expiry (R21 to R30). -/
theorem interval_meter :
    (interval s.cfg a s.fresh).meters[a]
      = s.meters[a].accounted (grossOf s a) s.arms[a].state (intervalVcf s.cfg a s) (s.armCfg a).unattendedLimit := by
  rw [interval_meters, account_meters, expiryGross_fresh used]
  exact vmod_self ..

end Used

theorem interval_meter_other {s : State} {a x : ArmNo} (other : x ≠ a) :
    (interval s.cfg a s.fresh).meters[x] = s.meters[x] := by
  rw [interval_meters, account_meters]
  exact vmod_other _ _ _ _ other

theorem interval_pulse_other {s : State} {a x : ArmNo} (other : x ≠ a) :
    (interval s.cfg a s.fresh).pulses[x] = s.pulses[x] := by
  rw [interval_pulses]
  exact vmod_other _ _ _ _ other

/-- The end of a command leaves what the meters have counted. -/
theorem settleCommand_counted (s : State) (a : ArmNo) :
    (settleCommand s).meters[a].counted = s.meters[a].counted := by
  have same : vmap MeterEngine.counted (settleCommand s).meters = vmap MeterEngine.counted s.meters :=
    congrArg Inputs.meters (settleCommand_inputs s)
  have here := congrArg (fun v : Vector Counted 8 => v[a.val]) same
  simpa only [vmap_get, Fin.getElem_fin] using here

/-- What the meter of a used arm has counted once the command of its expiry is over. -/
theorem settled_interval_counted {s : State} {a : ArmNo} (used : (s.armCfg a).used = true) :
    (settleCommand (interval s.cfg a s.fresh)).meters[a].counted
      = (s.meters[a].accounted (grossOf s a) s.arms[a].state (intervalVcf s.cfg a s)
          (s.armCfg a).unattendedLimit).counted := by
  rw [settleCommand_counted, interval_meter used]

/-! ### The flow rate and the increment -/

/-- The clamp of R21 as a case distinction. -/
theorem flowRate_eq (n k : Nat) : flowRate n k = if 65535 < n * 24000 / k then 65535 else n * 24000 / k := by
  unfold flowRate
  split <;> omega

/-- The increment and the new carry make up the numerator (R23). -/
theorem intervalGross_exact (c : ArmCfg) (n rG : Nat) :
    (intervalGross c n rG).dg * c.k + (intervalGross c n rG).rG
      = n * meterFactor c (intervalGross c n rG).q * 1000 + rG :=
  Nat.div_add_mod' _ _

/-- Settles O20: the meter's flow rate is the clamped one, and its factor and totaliser follow from it. -/
theorem flowRateIsClamped : Obligations.FlowRateIsClamped := by
  intro s a ready used n k
  have counted := settled_interval_counted used
  have q : (settleCommand (interval s.cfg a s.fresh)).meters[a].q = flowRate n k := congrArg Counted.q counted
  refine ⟨_, exec_intervalExpiry ready a, q.trans (flowRate_eq n k), rfl, ?_, ?_⟩
  · rw [q]
    exact congrArg Counted.lastMf counted
  · rw [q]
    exact congrArg Counted.totaliser counted

/-- Settles O21: the increment is the quotient of R23 and the new carry its remainder. -/
theorem intervalLosesNoVolume : Obligations.IntervalLosesNoVolume := by
  intro s a ready used positive
  have counted := settled_interval_counted used
  have q : (settleCommand (interval s.cfg a s.fresh)).meters[a].q = (grossOf s a).q := congrArg Counted.q counted
  have rG : (settleCommand (interval s.cfg a s.fresh)).meters[a].rG = (grossOf s a).rG := congrArg Counted.rG counted
  have pulses : (settleCommand (interval s.cfg a s.fresh)).pulses = (interval s.cfg a s.fresh).pulses :=
    settleCommand_pulses _
  have pulse : (settleCommand (interval s.cfg a s.fresh)).pulses[a] = { s.pulses[a] with
      count := 0, saturated := false } := by
    rw [pulses, interval_pulses]
    exact vmod_self ..
  refine ⟨_, (grossOf s a).dg, exec_intervalExpiry ready a, congrArg PulseInput.count pulse,
    congrArg PulseInput.saturated pulse, congrArg Counted.interval counted, ?_, ?_, ?_,
    congrArg Counted.totaliser counted, fun x other => ?_⟩
  · rw [q]
    exact congrArg Counted.lastMf counted
  · rw [q, rG]
    exact intervalGross_exact ..
  · rw [rG]
    exact Nat.mod_lt _ positive
  · have others : (settleCommand (interval s.cfg a s.fresh)).meters[x].counted = s.meters[x].counted := by
      rw [settleCommand_counted, interval_meter_other other]
    refine ⟨?_, congrArg Counted.totaliser others, congrArg Counted.rG others⟩
    rw [pulses, interval_pulse_other other]

end Sys2Proof.Machine
end

section
/-! Where an interval's volume goes (O22): the unattended volume, the leak volume, the compartment's accumulators. -/

namespace Sys2Proof.Machine

/-! ### The arithmetic of R24 and R25 -/

theorem roundHalfAway_eq (x : Int) :
    roundHalfAway x 100000000
      = if 0 ≤ x then (x + 50000000) / 100000000 else -((-x + 50000000) / 100000000) := by
  unfold roundHalfAway roundHalfUp
  split <;> omega

theorem vcfClamped_eq (v : Int) : vcfClamped v = (max 90000 (min 110000 v)).toNat := by
  unfold vcfClamped
  split
  · omega
  · split <;> omega

theorem vcfOutside_iff (v : Int) : vcfOutside v = true ↔ v < 90000 ∨ 110000 < v := by
  simp [vcfOutside]

theorem unattended_iff (st : ArmState) : st.unattended = true ↔ st = .idle := by
  cases st <;> decide

theorem unattended_false {st : ArmState} (away : st ≠ .idle) : st.unattended = false :=
  Bool.eq_false_iff.2 fun idle => away ((unattended_iff st).1 idle)

/-! ### The compartment -/

/-- The temperature used is held, or Tref stands in for it (R15, R28). -/
theorem marked_iff (s : State) (a : ArmNo) :
    (tempIsHeld s a || (tempValue s a).isNone) = true ↔ s.temps[a].fault = true ∨ s.temps[a].lastGood = none := by
  unfold tempIsHeld tempValue
  cases s.temps[a].lastGood <;> simp

theorem armComp_some {s : State} {a : ArmNo} {r : CompRec} (found : s.armComp a = some r) :
    ∃ oc, s.arms[a].comp = some oc ∧ s.compRec oc.bay oc.comp = some r := by
  unfold State.armComp at found
  split at found
  · next oc onArm => exact ⟨oc, onArm, found⟩
  · cases found

/-- The compartment on an arm that is not IDLE, after an expiry: its accumulators have taken the interval (R28), and the
report leaves them. -/
theorem interval_compRec {s : State} {a : ArmNo} {oc : OnArm} {r : CompRec} (used : (s.armCfg a).used = true)
    (away : s.arms[a].state ≠ .idle) (onArm : s.arms[a].comp = some oc)
    (found : s.compRec oc.bay oc.comp = some r) :
    ∃ r', (interval s.cfg a s.fresh).compRec oc.bay oc.comp = some r'
      ∧ r'.acc = r.acc.afterInterval s.cfg a oc.product (grossOf s a).dg s.meters[a].rS s := by
  have foundFresh : s.fresh.compRec oc.bay oc.comp = some r := (fresh_compRec ..).trans found
  have placed := account_compRec (cfg := s.cfg) (s := s.fresh) (unattended_false away) onArm foundFresh
  obtain ⟨r', found', acc⟩ := (reported_interval a s.fresh s.cfg).accs _ _ _ placed
  rw [expiryGross_fresh used] at acc
  exact ⟨r', found', acc⟩

theorem interval_onArm (s : State) (a : ArmNo) : (interval s.cfg a s.fresh).arms[a].comp = s.arms[a].comp := by
  rw [(reported_interval a s.fresh s.cfg).comp, account_arms]
  rfl

/-! ### The leak volume (R30, R39) -/

section Leak

variable {limit dg leak : Nat} {st : ArmState} (watched : st.leakWatched = true)
include watched

theorem leak_within (within : leak + dg ≤ limit * Config.microPerDeci) :
    leakAfter limit st dg leak = leak + dg ∧ leaks limit st dg leak = false := by
  have quiet : leaks limit st dg leak = false := by simp [leaks, within]
  exact ⟨by simp [leakAfter, quiet, watched], quiet⟩

theorem leak_above (adds : 0 < dg) (above : limit * Config.microPerDeci < leak + dg) :
    leakAfter limit st dg leak = 0 ∧ leaks limit st dg leak = true := by
  have sent : leaks limit st dg leak = true := by simp [leaks, watched, adds, above]
  exact ⟨if_pos sent, sent⟩

end Leak

theorem leak_nothing (limit : Nat) (st : ArmState) (leak : Nat) :
    leakAfter limit st 0 leak = leak ∧ leaks limit st 0 leak = false := by
  have quiet : leaks limit st 0 leak = false := by simp [leaks]
  exact ⟨by simp [leakAfter, quiet], quiet⟩

theorem leak_unwatched {st : ArmState} (limit dg leak : Nat) (unwatched : st.leakWatched = false) :
    leakAfter limit st dg leak = leak := by
  simp [leakAfter, leaks, unwatched]

/-- What an expiry sends on an arm whose leak volume is watched (R30). -/
theorem interval_inbox {s : State} {a : ArmNo} (ready : Ready s) (used : (s.armCfg a).used = true)
    (watched : s.arms[a].state.leakWatched = true) :
    (interval s.cfg a s.fresh).inbox
      = if leaks (s.armCfg a).unattendedLimit s.arms[a].state (grossOf s a).dg s.meters[a].leak then
          [.event (.leak a)] else [] := by
  have empty : s.fresh.inbox = [] := ready.2
  rw [interval_inbox_of_leakWatched (s := s.fresh) s.cfg watched (account_arms ..), account_inbox,
    expiryGross_fresh used, empty]
  rfl

/-! ### O22 -/

/-- An expiry changes the pulse inputs, meters, arms, pumps, injectors, bays and notices alone. -/
theorem interval_frame (s : State) (a : ArmNo) :
    interval s.cfg a s.fresh = { s.fresh with
      pulses := (interval s.cfg a s.fresh).pulses, meters := (interval s.cfg a s.fresh).meters
      arms := (interval s.cfg a s.fresh).arms, pumps := (interval s.cfg a s.fresh).pumps
      injectors := (interval s.cfg a s.fresh).injectors, bays := (interval s.cfg a s.fresh).bays
      inbox := (interval s.cfg a s.fresh).inbox } := by
  have report := (reported_interval a s.fresh s.cfg).frame
  have pulses : (interval s.cfg a s.fresh).pulses = (account s.cfg a s.fresh).pulses := by rw [report]; rfl
  rw [pulses, interval_meters]
  calc interval s.cfg a s.fresh
    _ = reportFrom (account s.cfg a s.fresh) (interval s.cfg a s.fresh) := report
    _ = _ := congrArg (fun t => reportFrom t (interval s.cfg a s.fresh)) (account_frame s.cfg a s.fresh)

theorem interval_otherArms (s : State) (a : ArmNo) : OtherArmsSame a s (interval s.cfg a s.fresh) := by
  intro x other
  rw [(reported_interval a s.fresh s.cfg).others x other, account_arms]
  rfl

/-- The accumulators after an interval, spelled out: sums that fit 64 bits, and the two marks (R28). -/
theorem afterInterval_accumulates (x : Accumulators) (cfg : Configuration) (a : ArmNo) (p : ProductNo) (dg rS : Nat)
    (s : State) :
    let y := x.afterInterval cfg a p dg rS s
    let ds := (dg * vcfClamped (intervalRaw cfg a p s) + rS) / 100000
    let sum : Int := x.tempSum + (dg : Int) * intervalTemp cfg a s
    y.totStart = x.totStart
      ∧ (x.g + dg < 18446744073709551616 → y.g = x.g + dg)
      ∧ (x.s + ds < 18446744073709551616 → y.s = x.s + ds)
      ∧ (-9223372036854775808 ≤ sum → sum < 9223372036854775808 → y.tempSum = sum)
      ∧ (y.tempHeld = true ↔ x.tempHeld = true
          ∨ (0 < dg ∧ (s.temps[a].fault = true ∨ s.temps[a].lastGood = none)))
      ∧ (y.vcfLimited = true ↔ x.vcfLimited = true
          ∨ (0 < dg ∧ (intervalRaw cfg a p s < 90000 ∨ 110000 < intervalRaw cfg a p s))) := by
  refine ⟨rfl, fun fits => if_pos fits, fun fits => if_pos fits, fun low high => if_pos ⟨low, high⟩, ?_, ?_⟩
  · show (x.tempHeld || _ && decide (0 < dg)) = true ↔ _
    rw [Bool.or_eq_true, Bool.and_eq_true, marked_iff, decide_eq_true_iff, and_comm]
  · show (x.vcfLimited || _ && decide (0 < dg)) = true ↔ _
    rw [Bool.or_eq_true, Bool.and_eq_true, vcfOutside_iff, decide_eq_true_iff, and_comm]

/-- Settles O22: the meter's three volumes by the arm's state, then the compartment on an arm that is not IDLE. -/
theorem intervalPlacesItsVolume : Obligations.IntervalPlacesItsVolume := by
  intro s a ready used dg
  have meter := interval_meter used
  have leak : (interval s.cfg a s.fresh).meters[a].leak
      = leakAfter (s.armCfg a).unattendedLimit s.arms[a].state dg s.meters[a].leak := congrArg MeterEngine.leak meter
  have inbox (watched : s.arms[a].state.leakWatched = true) : (interval s.cfg a s.fresh).inbox
      = if leaks (s.armCfg a).unattendedLimit s.arms[a].state dg s.meters[a].leak then [.event (.leak a)] else [] :=
    interval_inbox ready used watched
  have unattended := congrArg MeterEngine.unattended meter
  have noVcf (idle : s.arms[a].state = .idle) : intervalVcf s.cfg a s = none := by
    rw [intervalVcf, idle]; rfl
  refine ⟨_, exec_intervalExpiry ready a, fun idle => ?_, fun away => ?_, fun watched adds =>
    ⟨fun within => ?_, fun above => ?_⟩, fun watched nothing => ?_, fun unwatched => ?_, fun away r found fits => ?_,
    fun idle => ?_, fun away oc r onArm found => ?_, interval_otherArms s a,
    fun x other => ⟨interval_pulse_other other, interval_meter_other other⟩, interval_frame s a⟩
  · rw [unattended, idle]
    rfl
  · rw [unattended]
    simp only [MeterEngine.accounted, MeterEngine.placed, unattended_false away, Bool.false_eq_true, if_false]
  · obtain ⟨after, quiet⟩ := leak_within watched within
    rw [leak, inbox watched, after]
    exact ⟨rfl, if_neg (Bool.eq_false_iff.1 quiet)⟩
  · obtain ⟨after, sent⟩ := leak_above watched adds above
    rw [leak, inbox watched, after]
    exact ⟨rfl, if_pos sent⟩
  · obtain ⟨after, quiet⟩ := leak_nothing (s.armCfg a).unattendedLimit s.arms[a].state s.meters[a].leak
    rw [leak, inbox watched, nothing, after, quiet]
    exact ⟨rfl, rfl⟩
  · rw [leak, leak_unwatched _ _ _ unwatched]
  · obtain ⟨oc, onArm, record⟩ := armComp_some found
    obtain ⟨r', found', acc⟩ := interval_compRec used away onArm record
    obtain ⟨totStart, gross, _⟩ := afterInterval_accumulates r.acc s.cfg a oc.product dg s.meters[a].rS s
    rw [armComp_of_onArm ((interval_onArm s a).trans onArm)]
    refine ⟨r', found', ?_⟩
    rw [acc]
    exact ⟨gross fits, totStart⟩
  · rw [meter, noVcf idle]
    exact ⟨rfl, rfl⟩
  · intro tref t alpha gamma x raw vcf ns sum
    have rawEq : intervalRaw s.cfg a oc.product s = raw := congrArg (100000 - ·) (roundHalfAway_eq x)
    have vcfEq : vcfClamped (intervalRaw s.cfg a oc.product s) = vcf := by rw [vcfClamped_eq, rawEq]
    have computed : intervalVcf s.cfg a s = some vcf := by
      rw [intervalVcf, unattended_false away, onArm, ← vcfEq]; rfl
    obtain ⟨r', found', acc⟩ := interval_compRec used away onArm found
    obtain ⟨_, _, standard, temps, held, limited⟩ :=
      afterInterval_accumulates r.acc s.cfg a oc.product dg s.meters[a].rS s
    rw [vcfEq] at standard
    rw [rawEq] at limited
    rw [meter, computed]
    refine ⟨rfl, rfl, r', found', ?_⟩
    rw [acc]
    exact ⟨standard, temps, held, limited⟩

end Sys2Proof.Machine
end

section
/-! A loss of supply (O12): retained memory rolled back by the writes that did not take place, and nothing else kept. -/

namespace Sys2Proof.Machine

theorem rollBack_zero (nv : Retained) (undo : List Retained) : rollBack 0 nv undo = nv := by
  cases undo <;> rfl

/-- One write that did not take place leaves what retained memory held before it (R86). -/
theorem rollBack_one (nv before : Retained) (rest : List Retained) : rollBack 1 nv (before :: rest) = before :=
  rollBack_zero before rest

/-- What the command makes of the state, in terms of retained memory alone (R33). -/
theorem exec_powerLoss {s : State} {lost : Nat} {nv : Retained} (held : rollBack lost s.nv s.undo = nv) :
    exec (.powerLoss lost) s = .next { State.reset with
      pending := s.pending, pins := s.pins, phase := .off, nv := nv } := by
  subst held
  rfl

/-- Settles O12: no write lost, and the last write lost. -/
theorem powerLossKeepsRetainedMemory : Obligations.PowerLossKeepsRetainedMemory := by
  intro s
  refine ⟨exec_powerLoss (rollBack_zero s.nv s.undo), fun before rest undo => exec_powerLoss ?_⟩
  rw [undo]
  exact rollBack_one s.nv before rest

end Sys2Proof.Machine
end

section
/-! SELECT (O38): its refusals in the order of R111, and the assignment of the compartment to the arm (R34, R42, R66). -/

namespace Sys2Proof.Machine

/-! ### The checks (R111) -/

/-- The checks of SELECT read nothing of the bays but the session of its own. -/
theorem selectRefusal_keyed (b : BayNo) (c : CompNo) (a : ArmNo) (s : State) :
    selectRefusal (keyed b s) b c a = selectRefusal s b c a := by
  have session := keyed_session b s
  have comp := compRec_congr session c
  rw [keyed_frame] at session comp ⊢
  unfold selectRefusal keySession
  rw [session, comp]
  rfl

theorem exec_select {s : State} (ready : Ready s) (b : BayNo) (c : CompNo) (a : ArmNo) :
    exec (.select b c a) s = .next (settleCommand (selectKey b c a (keyed b s))) :=
  inService_ready (withKey b (selectKey b c a)) s ready

/-- A SELECT whose checks refuse it shows the prompt of the first that does. -/
theorem select_refused {s : State} {b : BayNo} {c : CompNo} {a : ArmNo} {p : Prompt} {numbers : List Nat}
    (ready : Ready s) (refused : selectRefusal s b c a = some (p, numbers)) :
    RefusedAt b (.select b c a) s p numbers := by
  refine refusedAt_of_show ready ?_
  have refused : selectRefusal (keyed b s) b c a = some (p, numbers) := (selectRefusal_keyed b c a s).trans refused
  rw [exec_select ready]
  simp only [selectKey, refused]

section Checks

variable {s : State} {b : BayNo} {c : CompNo} {a : ArmNo}

theorem selectRefusal_session {p : Prompt} (refused : keySession s b = some p) :
    selectRefusal s b c a = some (p, []) := by
  simp only [selectRefusal, refused]

variable (runs : sessionRuns s b = true)
include runs

theorem selectRefusal_compUnknown (unknown : s.compRec b c = none) :
    selectRefusal s b c a = some (.compUnknown, [unitNo c]) := by
  simp only [selectRefusal, keySession_runs runs, unknown]

variable {r : CompRec} (found : s.compRec b c = some r)
include found

theorem selectRefusal_compDone (state : r.state ≠ .notStarted) :
    selectRefusal s b c a = some (.compDone, [unitNo c]) := by
  simp only [selectRefusal, keySession_runs runs, found, if_pos state]

variable (state : r.state = .notStarted)
include state

theorem selectRefusal_armBusy (busy : (s.armCfg a).bay ≠ some b ∨ s.arms[a].state ≠ .idle) :
    selectRefusal s b c a = some (.armBusy, [unitNo a]) := by
  have busy : s.armOfBay a b = false ∨ s.arms[a].state ≠ .idle := busy.imp_left fun away => decide_eq_false away
  simp only [selectRefusal, keySession_runs runs, found, state, ne_eq, not_true, if_false, if_pos busy]

variable (mine : (s.armCfg a).bay = some b) (idle : s.arms[a].state = .idle)
include mine idle

/-- At an IDLE arm of the bay the product mask decides. -/
theorem selectRefusal_product :
    selectRefusal s b c a
      = if maskHas (s.armCfg a).productMask r.product = false then some (.productNotOnArm, [unitNo a]) else none := by
  have free : ¬(s.armOfBay a b = false ∨ s.arms[a].state ≠ .idle) :=
    not_or.2 ⟨by simp [State.armOfBay, mine], not_not.2 idle⟩
  simp only [selectRefusal, keySession_runs runs, found, state, ne_eq, not_true, if_false, if_neg free]

end Checks

/-! ### The assignment (R34, R42, R66) -/

/-- A state that is not a flowing one commands CLOSE (R41). -/
theorem commandFor_close {x : Arm} (m : Mode) (used : Bool) (still : x.state.flowing = false) :
    commandFor m used x = .close := by
  unfold commandFor
  cases state : x.state <;> simp_all [ArmState.flowing]

theorem enterState_command (a : ArmNo) {st : ArmState} (s : State) (still : st.flowing = false) :
    (enterState a st s).arms[a].command = .close := by
  have state : (s.modArm a fun x => { x with state := st }).arms[a].state = st := congrArg Arm.state (vmod_self ..)
  exact (refreshCommand_command a _).trans (commandFor_close _ _ (by rw [state]; exact still))

/-- The compare points in microlitres (R42). -/
theorem onArmOf_eq (c : ArmCfg) (closeAhead : Nat) (b : BayNo) (r : CompRec) :
    onArmOf c closeAhead b r
      = { bay := b, comp := r.no, product := r.product, basis := r.basis, preset := r.preset
          startPoint := (c.startVolume * 100000 : Nat)
          tripDownPoint := (r.preset * 100000 : Nat) - (c.tripDownVolume * 100000 : Nat)
          closePoint := (r.preset * 100000 : Nat) - (closeAhead * 100000 : Nat) } := by
  simp [onArmOf, Config.microPerDeci]

/-- A compartment record that its assignment to an arm begins (R34, R66). -/
def CompRec.assigned (x : CompRec) (a : ArmNo) (totaliser : Nat) (lines : List AdditiveLine) : CompRec :=
  { x with state := .onArm, arm := some a, overrun := false, valveNotConfirmed := false
           acc := Accumulators.fresh totaliser, lines := lines }

/-- The record and the meter of an assignment, before the arm takes it. -/
def compAssigned (a : ArmNo) (b : BayNo) (r : CompRec) (s : State) : State :=
  (s.modComp b r.no fun x =>
    x.assigned a s.meters[a].totaliser (formLines s.cfg.products[r.product] r.preset)).modMeter a fun m =>
      { m with rG := 0, rS := 0 }

theorem assign_eq (a : ArmNo) (b : BayNo) (r : CompRec) (s : State) :
    assign a b r s = enterState a .armed ((compAssigned a b r s).modArm a fun x =>
      { x with comp := some (onArmOf (s.armCfg a) s.arms[a].closeAhead b r) }) := rfl

/-- `s` with what an assignment changes taken from `u`. -/
def assignFrom (s u : State) : State :=
  { s with meters := u.meters, arms := u.arms, bays := u.bays, inbox := u.inbox }

section Assign

variable (a : ArmNo) (b : BayNo) (r : CompRec) (s : State)

theorem assign_armOnly : ArmOnly a (compAssigned a b r s) (assign a b r s) :=
  (armOnly_modArm ..).trans (armOnly_enterState a .armed _)

theorem assign_frame : assign a b r s = assignFrom s (assign a b r s) := by
  obtain ⟨frame, _⟩ := assign_armOnly a b r s
  rw [frame]
  rfl

theorem assign_meters : (assign a b r s).meters = vmod s.meters a fun m => { m with rG := 0, rS := 0 } := by
  rw [(assign_armOnly a b r s).1]
  rfl

theorem assign_bays :
    (assign a b r s).bays = (s.modComp b r.no fun x =>
      x.assigned a s.meters[a].totaliser (formLines s.cfg.products[r.product] r.preset)).bays := by
  rw [(assign_armOnly a b r s).1]
  rfl

/-- The arm stands ARMED at CLOSE with the compartment on it (R42). -/
theorem assign_arm :
    (assign a b r s).arms[a].state = .armed ∧ (assign a b r s).arms[a].command = .close
      ∧ (assign a b r s).arms[a].comp = some (onArmOf (s.armCfg a) s.arms[a].closeAhead b r) := by
  rw [assign_eq]
  exact ⟨enterState_state .., enterState_command a _ rfl, (reported_enterState ..).comp.trans
    (congrArg Arm.comp (vmod_self ..))⟩

/-- The compartment is ON_ARM with fresh accumulators and its additive lines (R34, R66). -/
theorem assign_compRec {s : State} {r : CompRec} {c : CompNo} (found : s.compRec b c = some r) :
    (assign a b r s).compRec b c
      = some (r.assigned a s.meters[a].totaliser (formLines s.cfg.products[r.product] r.preset)) := by
  have session := congrArg (fun v : Vector Bay 4 => v[b].session) (assign_bays a b r s)
  rw [compRec_congr session, compRec_no found]
  exact compRec_modComp (fun _ => rfl) found

theorem assign_lastPrompt : (assign a b r s).bays[b].lastPrompt = s.bays[b].lastPrompt := by
  simp only [assign_bays, modComp_bays, Fin.getElem_fin, vmod_self]

theorem assign_bay_other {b x : BayNo} (other : x ≠ b) : (assign a b r s).bays[x] = s.bays[x] := by
  rw [assign_bays]
  exact vmod_other _ _ _ _ other

theorem assign_others : OtherArmsSame a s (assign a b r s) := (assign_armOnly a b r s).2

end Assign

/-! ### The accepted key -/

/-- The state in which an accepted SELECT assigns: the key counted, SELECTED shown (R111). -/
def selected (b : BayNo) (c : CompNo) (a : ArmNo) (s : State) : State :=
  (keyed b s).sendShow b .selected [unitNo c, unitNo a]

theorem selected_frame (b : BayNo) (c : CompNo) (a : ArmNo) (s : State) :
    selected b c a s = { s.fresh with bays := (selected b c a s).bays } :=
  congrArg (fun t => { t with bays := (selected b c a s).bays }) (keyed_frame b s)

theorem selected_session (b : BayNo) (c : CompNo) (a : ArmNo) (s : State) :
    (selected b c a s).session b = s.session b :=
  (congrArg Bay.session (vmod_self ..)).trans (keyed_session b s)

theorem selected_bay_other {b x : BayNo} (c : CompNo) (a : ArmNo) (s : State) (other : x ≠ b) :
    (selected b c a s).bays[x] = s.fresh.bays[x] :=
  (vmod_other _ _ _ _ other).trans (keyed_bay_other s other)

/-- The checks pass: SELECTED is shown and the compartment assigned (R111). -/
theorem exec_select_accepted {s : State} {b : BayNo} {c : CompNo} {a : ArmNo} {r : CompRec} (ready : Ready s)
    (passes : selectRefusal s b c a = none) (found : s.compRec b c = some r) :
    exec (.select b c a) s = .next (settleCommand (assign a b r (selected b c a s))) := by
  have passes : selectRefusal (keyed b s) b c a = none := (selectRefusal_keyed b c a s).trans passes
  have found : (keyed b s).compRec b c = some r := (compRec_congr (keyed_session b s) c).trans found
  rw [exec_select ready]
  simp only [selectKey, passes, found]
  rfl

/-! ### O38 -/

/-- The first half of O38: the checks of R111 in their order. -/
theorem select_refusals {s : State} (ready : Ready s) (b : BayNo) (c : CompNo) (a : ArmNo) :
    let refused := RefusedAt b (.select b c a) s
    (s.session b = none → refused .notOpen []) ∧
    (SessionIn s b .ending → refused .alreadyEnding []) ∧
    (sessionRuns s b = true →
      (s.compRec b c = none → refused .compUnknown [unitNo c]) ∧
      (∀ r, s.compRec b c = some r →
        (r.state ≠ .notStarted → refused .compDone [unitNo c]) ∧
        (r.state = .notStarted → (s.armCfg a).bay ≠ some b ∨ s.arms[a].state ≠ .idle →
          refused .armBusy [unitNo a]) ∧
        (r.state = .notStarted → (s.armCfg a).bay = some b → s.arms[a].state = .idle →
          maskHas (s.armCfg a).productMask r.product = false → refused .productNotOnArm [unitNo a]))) :=
  ⟨fun vacant => select_refused ready (selectRefusal_session (keySession_vacant vacant)),
    fun ending => select_refused ready (selectRefusal_session (keySession_ending ending)), fun runs =>
    ⟨fun unknown => select_refused ready (selectRefusal_compUnknown runs unknown), fun _ found =>
      ⟨fun state => select_refused ready (selectRefusal_compDone runs found state),
        fun state busy => select_refused ready (selectRefusal_armBusy runs found state busy),
        fun state mine idle barred =>
          select_refused ready ((selectRefusal_product runs found state mine idle).trans (if_pos barred))⟩⟩⟩

/-- Settles O38: the refusals, and the accepted key part by part. -/
theorem selectAssignsTheCompartment : Obligations.SelectAssignsTheCompartment := by
  refine ⟨fun s b c a ready => select_refusals ready b c a,
    fun s b c a r ready runs found notStarted mine idle carried => ?_⟩
  have passes : selectRefusal s b c a = none :=
    (selectRefusal_product runs found notStarted mine idle).trans (if_neg (by rw [carried]; decide))
  have frame := selected_frame b c a s
  have arms : (selected b c a s).arms = s.arms := by rw [frame]; rfl
  have meters : (selected b c a s).meters = s.meters := by rw [frame]; rfl
  have cfg : (selected b c a s).cfg = s.cfg := by rw [frame]; rfl
  have record : (selected b c a s).compRec b c = some r :=
    (compRec_congr (selected_session b c a s) c).trans found
  have prompt : (selected b c a s).bays[b].lastPrompt = some ⟨.selected, [unitNo c, unitNo a]⟩ :=
    congrArg Bay.lastPrompt (vmod_self ..)
  have otherBays : OtherBaysSame b s (selected b c a s) := fun _ other => selected_bay_other c a s other
  have taken := exec_select_accepted ready passes found
  generalize selected b c a s = t at *
  obtain ⟨state, command, comp⟩ := assign_arm a b r t
  have others := assign_others a b r t
  have assigned := assign_compRec a b record
  have meter : (assign a b r t).meters[a] = { s.meters[a] with rG := 0, rS := 0 } := by
    rw [assign_meters, meters]
    exact vmod_self ..
  rw [onArmOf_eq, State.armCfg, cfg, arms, compRec_no found] at comp
  rw [meters, cfg] at assigned
  refine ⟨_, _, taken, state, command, comp, assigned, rfl, rfl, rfl, rfl, rfl, by rw [meter], by rw [meter],
    by rw [meter], (assign_lastPrompt a b r t).trans prompt,
    fun x other => ?_, fun x other => (assign_bay_other a r t other).trans (otherBays x other), ?_⟩
  · rw [others x other, arms]
  · calc assign a b r t
      _ = assignFrom t (assign a b r t) := assign_frame a b r t
      _ = _ := congrArg (fun x => assignFrom x (assign a b r t)) frame

end Sys2Proof.Machine
end

section
/-! What the output pins hang on (R1, R41, R64, R69), and the three laws on them (O5): the relation between two states that
carries the laws from one to the other, and the changes of one unit that it holds for. -/

namespace Sys2Proof.Machine

/-! ### The plant -/

/-- What the outputs hang on: the rack mode, the SHUTDOWN relay, the records in force, the arms, pumps and injectors. -/
structure Plant where
  mode : Mode
  relay : Bool
  active : Option Configuration
  arms : Vector Arm 8
  pumps : Vector Pump 8
  injectors : Vector Injector 6

/-- That part of the state. -/
def State.plant (s : State) : Plant :=
  { mode := s.mode, relay := s.relay, active := s.setup.active, arms := s.arms, pumps := s.pumps
    injectors := s.injectors }

section Updates

variable (s : State)

@[simp] theorem modPulse_plant (a : ArmNo) (f : PulseInput → PulseInput) : (s.modPulse a f).plant = s.plant := rfl
@[simp] theorem modTemp_plant (a : ArmNo) (f : TempReceiver → TempReceiver) : (s.modTemp a f).plant = s.plant := rfl
@[simp] theorem modMeter_plant (a : ArmNo) (f : MeterEngine → MeterEngine) : (s.modMeter a f).plant = s.plant := rfl
@[simp] theorem modBay_plant (b : BayNo) (f : Bay → Bay) : (s.modBay b f).plant = s.plant := rfl
@[simp] theorem modInst_plant (i : InstId) (f : Instance → Instance) : (s.modInst i f).plant = s.plant := rfl
@[simp] theorem modLine_plant (f : HostLine → HostLine) : (s.modLine f).plant = s.plant := rfl
@[simp] theorem modSession_plant (b : BayNo) (f : Session → Session) : (s.modSession b f).plant = s.plant := rfl
@[simp] theorem modComp_plant (b : BayNo) (c : CompNo) (f : CompRec → CompRec) :
    (s.modComp b c f).plant = s.plant := rfl
@[simp] theorem modLineOf_plant (q : ShotRequest) (f : AdditiveLine → AdditiveLine) :
    (s.modLineOf q f).plant = s.plant := rfl
@[simp] theorem push_plant (n : Notice) : (s.push n).plant = s.plant := rfl
@[simp] theorem pushAll_plant (l : List Notice) : (s.pushAll l).plant = s.plant := rfl
@[simp] theorem pushFirst_plant (l : List Notice) : (s.pushFirst l).plant = s.plant := rfl
@[simp] theorem sendShow_plant (b : BayNo) (p : Prompt) (l : List Nat) : (s.sendShow b p l).plant = s.plant := rfl
@[simp] theorem write_plant : s.write.plant = s.plant := rfl
@[simp] theorem fresh_plant : s.fresh.plant = s.plant := rfl

@[simp] theorem modArmComp_plant (a : ArmNo) (f : CompRec → CompRec) : (s.modArmComp a f).plant = s.plant := by
  rw [modArmComp_frame]; rfl

@[simp] theorem ite_plant (c : Prop) [Decidable c] (s t : State) :
    (if c then s else t).plant = if c then s.plant else t.plant := apply_ite State.plant c s t

@[simp] theorem each_plant {α : Type} (f : State → α → State) (l : List α) (s : State)
    (same : ∀ s x, (f s x).plant = s.plant) : (s.each l f).plant = s.plant := each_keeps State.plant f same l s

end Updates

/-! ### The laws -/

/-- An arm's command is the one its state and the rack mode call for (R41). -/
def Follows (s : State) (a : ArmNo) : Prop := s.arms[a].command = commandFor s.mode (s.armCfg a).used s.arms[a]

theorem stagesFollow_iff (s : State) : StagesFollow s ↔ ∀ a, Follows s a := by
  refine forall_congr' fun a => iff_of_eq (congrArg (s.arms[a].command = ·) ?_)
  exact if_congr (Bool.and_eq_true_iff).symm rfl rfl

/-- An injector with its solenoid closed and no request waiting (R69). -/
def Injector.atRest (x : Injector) : Prop := x.solenoidOpen = false ∧ x.queue = []

theorem Injector.atRest_iff (x : Injector) : x.atRest ↔ x.state ≠ .shot ∧ x.queue = [] := by
  simp [Injector.atRest, Injector.solenoidOpen]

/-- The three laws on the outputs carry over from `s` to `t`, that of the injectors where the rack is `calm`. -/
structure KeepsLaws (calm : Prop) (s t : State) : Prop where
  safe : OutOfServiceIsSafe s → OutOfServiceIsSafe t
  follow : StagesFollow s → StagesFollow t
  rest : calm → InjectorsAtRest s → InjectorsAtRest t

namespace KeepsLaws

variable {calm : Prop} {s t u : State}

theorem refl (s : State) : KeepsLaws calm s s := ⟨id, id, fun _ => id⟩

theorem trans (first : KeepsLaws calm s t) (second : KeepsLaws calm t u) : KeepsLaws calm s u :=
  ⟨second.safe ∘ first.safe, second.follow ∘ first.follow, fun h => second.rest h ∘ first.rest h⟩

theorem mono {calm' : Prop} (keeps : KeepsLaws calm s t) (less : calm' → calm) : KeepsLaws calm' s t :=
  ⟨keeps.safe, keeps.follow, fun h => keeps.rest (less h)⟩

theorem ite {c : Prop} [Decidable c] (yes : KeepsLaws calm s t) (no : KeepsLaws calm s u) :
    KeepsLaws calm s (if c then t else u) := by
  split
  · exact yes
  · exact no

/-- The laws speak of the plant alone. -/
theorem of_plant (same : t.plant = s.plant) : KeepsLaws calm s t := by
  obtain ⟨mode, relay, active, arms, pumps, injectors⟩ := Plant.mk.inj same
  have armCfg (a : ArmNo) : t.armCfg a = s.armCfg a := by simp only [State.armCfg, State.cfg, active]
  refine ⟨fun safe => ?_, fun follow => ?_, fun _ rest => ?_⟩
  · unfold OutOfServiceIsSafe OutputsOff stageS1 stageS2 pumpRun shutdownRelay at safe ⊢
    rwa [mode, relay, arms, pumps]
  · unfold StagesFollow at follow ⊢
    simp only [armCfg]
    rwa [mode, arms]
  · unfold InjectorsAtRest solenoid at rest ⊢
    rwa [injectors]

/-- One arm changes, and its command follows. -/
theorem of_armOnly {a : ArmNo} (only : ArmOnly a s t) (follows : Follows t a) : KeepsLaws calm s t := by
  obtain ⟨frame, others⟩ := only
  have mode : t.mode = s.mode := by rw [frame]; rfl
  have relay : t.relay = s.relay := by rw [frame]; rfl
  have setup : t.setup = s.setup := by rw [frame]; rfl
  have pumps : t.pumps = s.pumps := by rw [frame]; rfl
  have injectors : t.injectors = s.injectors := by rw [frame]; rfl
  refine ⟨fun safe still => ?_, fun follow => (stagesFollow_iff t).2 fun x => ?_, fun _ rest => ?_⟩
  · have off := safe (mode ▸ still)
    refine ⟨fun x => ?_, ?_, relay.trans off.2.2⟩
    · by_cases here : x = a
      · subst here
        have close : t.arms[x].command = .close := follows.trans (commandFor_safe _ _ _ still)
        exact stageOutputs_of_command close
      · have same := off.1 x
        unfold stageS1 stageS2 at same ⊢
        rwa [others x here]
    · have same := off.2.1
      unfold pumpRun at same ⊢
      rwa [pumps]
  · by_cases here : x = a
    · exact here ▸ follows
    · have same := (stagesFollow_iff s).1 follow x
      unfold Follows at same ⊢
      rwa [others x here, mode, armCfg_of_setup setup]
  · unfold InjectorsAtRest solenoid at rest ⊢
    rwa [injectors]

end KeepsLaws

/-! ### The changes of one unit -/

section Units

variable {calm : Prop} (s : State)

/-- What the laws read of an arm. -/
theorem keeps_modArm (a : ArmNo) {f : Arm → Arm} (state : ∀ x, (f x).state = x.state)
    (waiting : ∀ x, (f x).waiting = x.waiting) (command : ∀ x, (f x).command = x.command) :
    KeepsLaws calm s (s.modArm a f) := by
  have arm (x : ArmNo) : (s.modArm a f).arms[x].state = s.arms[x].state
      ∧ (s.modArm a f).arms[x].waiting = s.arms[x].waiting
      ∧ (s.modArm a f).arms[x].command = s.arms[x].command := by
    simp only [modArm_arms, Fin.getElem_fin, vmod_get]
    split
    · exact ⟨state _, waiting _, command _⟩
    · exact ⟨rfl, rfl, rfl⟩
  refine ⟨fun safe still => ?_, fun follow a => ?_, fun _ rest => rest⟩
  · obtain ⟨stages, rest⟩ := safe still
    refine ⟨fun x => ?_, rest⟩
    have same := stages x
    unfold stageS1 stageS2 at same ⊢
    rwa [(arm x).2.2]
  · have same := follow a
    obtain ⟨state, waiting, command⟩ := arm a
    rw [state, waiting, command]
    exact same

theorem keeps_modPump (p : PumpNo) {f : Pump → Pump}
    (off : s.mode.mayFlow = false → s.pumps[p].state = .off → (f s.pumps[p]).state = .off) :
    KeepsLaws calm s (s.modPump p f) := by
  refine ⟨fun safe still => ?_, fun follow => follow, fun _ rest => rest⟩
  obtain ⟨stages, pumps, relay⟩ := safe still
  refine ⟨stages, fun x => ?_, relay⟩
  have same := pumps x
  simp only [pumpRun, modPump_pumps, Fin.getElem_fin, vmod_get] at same ⊢
  split
  · next here =>
    subst here
    have quiet : s.pumps[x].state = .off := by simpa using same
    have after := off still quiet
    simp only [Fin.getElem_fin] at after
    simp [after]
  · exact same

theorem keeps_modInj (i : InjNo) {f : Injector → Injector}
    (rest : calm → s.injectors[i].atRest → (f s.injectors[i]).atRest) : KeepsLaws calm s (s.modInj i f) := by
  refine ⟨fun safe => safe, fun follow => follow, fun still before j => ?_⟩
  have same := before j
  simp only [solenoid, modInj_injectors, Fin.getElem_fin, vmod_get] at same ⊢
  split
  · next here => subst here; exact rest still same
  · exact same

theorem keeps_each {α : Type} {f : State → α → State} (l : List α) (keeps : ∀ s x, KeepsLaws calm s (f s x)) :
    ∀ s : State, KeepsLaws calm s (s.each l f) := by
  induction l with
  | nil => exact .refl
  | cons x l ih => exact fun s => (keeps s x).trans (ih (f s x))

theorem keeps_push (n : Notice) : KeepsLaws calm s (s.push n) := .of_plant rfl

end Units

end Sys2Proof.Machine
end

section
/-! The laws of the outputs (O5) under the valve commands, the pumps and the change of mode (R41, R44, R58, R61 to R64,
R158). -/

namespace Sys2Proof.Machine

variable {calm : Prop}

/-! ### Valves -/

theorem keeps_setValveCond (a : ArmNo) (p : Bool) (s : State) : KeepsLaws calm s (setValveCond a p s) := by
  unfold setValveCond
  split
  · exact .refl s
  · exact (keeps_modArm s a (f := fun x => { x with valveCond := p }) (fun _ => rfl) (fun _ => rfl) fun _ => rfl).trans
      (keeps_push _ _)

theorem keeps_setNoFlowCond (a : ArmNo) (p : Bool) (s : State) : KeepsLaws calm s (setNoFlowCond a p s) := by
  unfold setNoFlowCond
  split
  · exact .refl s
  · exact (keeps_modArm s a (f := fun x => { x with noFlowCond := p }) (fun _ => rfl) (fun _ => rfl) fun _ => rfl).trans
      (keeps_push _ _)

theorem keeps_compareSwitches (a : ArmNo) (s : State) : KeepsLaws calm s (compareSwitches a s) :=
  keeps_setValveCond a _ s

theorem keeps_startNoFlow (a : ArmNo) (s : State) : KeepsLaws calm s (startNoFlow a s) :=
  keeps_modArm s a (fun _ => rfl) (fun _ => rfl) fun _ => rfl

theorem keeps_stopNoFlow (a : ArmNo) (s : State) : KeepsLaws calm s (stopNoFlow a s) :=
  (keeps_modArm s a (f := fun x => { x with noFlowTimer := none }) (fun _ => rfl) (fun _ => rfl) fun _ => rfl).trans
    (keeps_setNoFlowCond a _ _)

/-- What an operation of one arm leaves of the whole rack. -/
theorem ArmOnly.rack {a : ArmNo} {s t : State} (only : ArmOnly a s t) :
    t.mode = s.mode ∧ t.setup = s.setup ∧ t.relay = s.relay ∧ t.pumps = s.pumps ∧ t.injectors = s.injectors := by
  rw [only.1]
  exact ⟨rfl, rfl, rfl, rfl, rfl⟩

/-- The call of an arm's state is read from its state and its pump wait. -/
theorem commandFor_congr {x y : Arm} (m : Mode) (used : Bool) (state : x.state = y.state)
    (waiting : x.waiting = y.waiting) : commandFor m used x = commandFor m used y := by
  unfold commandFor
  rw [state, waiting]

/-- A refreshed arm commands what its state calls for (R41). -/
theorem refreshCommand_follows (a : ArmNo) (s : State) : Follows (refreshCommand a s) a := by
  obtain ⟨mode, setup, -⟩ := (armOnly_refreshCommand a s).rack
  obtain ⟨state, -, waiting, -⟩ := refreshCommand_keeps a a s
  unfold Follows
  rw [refreshCommand_command, mode, armCfg_of_setup setup]
  exact commandFor_congr _ _ state.symm waiting.symm

/-- An arm changed in any way and then refreshed. -/
theorem keeps_refreshed (a : ArmNo) (f : Arm → Arm) (s : State) :
    KeepsLaws calm s (refreshCommand a (s.modArm a f)) :=
  .of_armOnly ((armOnly_modArm a f s).trans (armOnly_refreshCommand a _)) (refreshCommand_follows a _)

theorem keeps_enterState (a : ArmNo) (st : ArmState) (s : State) : KeepsLaws calm s (enterState a st s) :=
  (keeps_refreshed a _ s).trans (keeps_push _ _)

theorem keeps_endPumpWait (a : ArmNo) (s : State) : KeepsLaws calm s (endPumpWait a s) := by
  unfold endPumpWait
  split
  · have ended := keeps_refreshed (calm := calm) a (fun x => { x with waiting := false }) s
    simp only
    split
    · exact ended.trans (keeps_startNoFlow a _)
    · exact ended
  · exact .refl s

/-! ### Pumps -/

theorem released_off (u : Pump) (a : ArmNo) (delay : Nat) (off : u.state = .off) :
    (u.released a delay).state = .off := by
  unfold Pump.released
  simp only [off]
  split
  · next running => exact nomatch running.2
  · rfl

theorem keeps_demandAdded (k : PumpNo) (s : State) : KeepsLaws calm s (demandAdded k s) := by
  unfold demandAdded
  split
  · exact keeps_modPump s k fun _ off => off
  · next free =>
    refine keeps_modPump s k fun still _ => ?_
    simp [pumpsForced, still] at free

theorem keeps_addDemand (a : ArmNo) (s : State) : KeepsLaws calm s (addDemand a s) := by
  rcases addDemand_cases a s with ⟨_, demand⟩ | ⟨k, _, ⟨_, demand⟩ | ⟨_, demand⟩⟩ <;> rw [demand]
  · exact keeps_endPumpWait a s
  · exact (keeps_demandAdded k s).trans (keeps_endPumpWait a _)
  · exact (keeps_demandAdded k s).trans (keeps_modPump _ k fun _ off => off)

theorem keeps_removeDemand (a : ArmNo) (s : State) : KeepsLaws calm s (removeDemand a s) := by
  unfold removeDemand
  split
  · exact .refl s
  · exact keeps_modPump s _ fun _ off => released_off _ _ _ off

theorem keeps_releaseIfReady (a : ArmNo) (s : State) : KeepsLaws calm s (releaseIfReady a s) := by
  unfold releaseIfReady
  split
  · exact .refl s
  · split
    · exact (keeps_modPump s _ fun _ off => off).trans (keeps_endPumpWait a _)
    · exact .refl s

theorem keeps_startDelayReached (a : ArmNo) (s : State) : KeepsLaws calm s (startDelayReached a s) := by
  unfold startDelayReached
  split
  · exact .refl s
  · split
    · exact (keeps_modPump s _ fun _ off => off).trans (keeps_releaseIfReady a _)
    · exact .refl s

theorem keeps_stopDelayAt (p : PumpNo) (s : State) : KeepsLaws calm s (stopDelayAt p s) := by
  unfold stopDelayAt
  split
  · exact keeps_modPump s p fun _ _ => rfl
  · exact .refl s

theorem forcePumpsOff_pumpRun (s : State) (p : PumpNo) : pumpRun (forcePumpsOff s) p = false := by
  simp [pumpRun, forcePumpsOff, Pump.stopped]

/-! ### The rack mode (R41, R64, R158) -/

/-- The refreshing of a list of arms leaves the rest of the rack. -/
theorem refreshEach_rack (l : List ArmNo) (s : State) :
    (s.each l fun s a => refreshCommand a s).mode = s.mode
      ∧ (s.each l fun s a => refreshCommand a s).setup = s.setup
      ∧ (s.each l fun s a => refreshCommand a s).relay = s.relay
      ∧ (s.each l fun s a => refreshCommand a s).pumps = s.pumps
      ∧ (s.each l fun s a => refreshCommand a s).injectors = s.injectors := by
  have each := each_keeps (fun s : State => (s.mode, s.setup, s.relay, s.pumps, s.injectors))
    (fun s a => refreshCommand a s) (fun s a => by
      obtain ⟨mode, setup, relay, pumps, injectors⟩ := (armOnly_refreshCommand a s).rack
      simp only [mode, setup, relay, pumps, injectors]) l s
  simpa only [Prod.mk.injEq] using each

/-- An arm that follows still does when another, or it, is refreshed. -/
theorem Follows.refreshCommand {s : State} {a : ArmNo} (follows : Follows s a) (x : ArmNo) :
    Follows (refreshCommand x s) a := by
  by_cases here : a = x
  · exact here ▸ refreshCommand_follows x s
  · obtain ⟨mode, setup, -⟩ := (armOnly_refreshCommand x s).rack
    unfold Follows at follows ⊢
    rwa [refreshCommand_other x a s here, mode, armCfg_of_setup setup]

/-- Every arm of the list follows once the list has been refreshed. -/
theorem refreshEach_follows {a : ArmNo} (l : List ArmNo) :
    ∀ s : State, Follows s a ∨ a ∈ l → Follows (s.each l fun s a => refreshCommand a s) a := by
  induction l with
  | nil => exact fun s h => h.resolve_right List.not_mem_nil
  | cons x l ih =>
    refine fun s h => ih (refreshCommand x s) ?_
    rcases h with follows | mem
    · exact .inl (follows.refreshCommand x)
    · rcases List.mem_cons.1 mem with rfl | mem
      · exact .inl (refreshCommand_follows a s)
      · exact .inr mem

theorem mem_allArms (a : ArmNo) : a ∈ allArms := by revert a; decide

/-- A change of mode makes every command follow, whatever it was before (R41, R158). -/
theorem setMode_follow (m : Mode) (s : State) : StagesFollow (setMode m s) :=
  (stagesFollow_iff _).2 fun a => refreshEach_follows allArms _ (.inr (mem_allArms a))

/-- A change of mode before the pumps are looked at: the mode, the relay and the trip's second stage (R158). -/
def modeTold (m : Mode) (s : State) : State :=
  { s with mode := m, relay := relayAfter m s.relay
           trip := { s.trip with stageTwo := s.trip.stageTwo && m = .tripping
                                 delay := if m = .tripping then s.trip.delay else none } }

/-- The state of a change of mode before the arms follow (R64, R158). -/
def modeSet (m : Mode) (s : State) : State :=
  if pumpsForced (modeTold m s) then forcePumpsOff (modeTold m s)
  else if pumpsForced s then pumpsReturn (modeTold m s) else modeTold m s

theorem setMode_eq (m : Mode) (s : State) :
    setMode m s = (modeSet m s).each allArms fun s a => refreshCommand a s := rfl

/-- Out of service every pump is forced off (R64). -/
theorem modeSet_out {m : Mode} (out : m.mayFlow = false) (s : State) : modeSet m s = forcePumpsOff (modeTold m s) :=
  if_pos (by simp [pumpsForced, modeTold, out])

theorem relayAfter_out {m : Mode} (out : m.mayFlow = false) (relay : Bool) : relayAfter m relay = false := by
  cases m <;> simp_all [relayAfter, Mode.mayFlow]

/-- A change of mode leaves the outputs safe, whatever they were before (R41, R64, R158). -/
theorem setMode_safe (m : Mode) (s : State) : OutOfServiceIsSafe (setMode m s) := by
  intro still
  rw [setMode_mode] at still
  refine ⟨fun a => ?_, fun p => ?_, ?_⟩
  · have follows := (stagesFollow_iff _).1 (setMode_follow m s) a
    exact stageOutputs_of_command (follows.trans (commandFor_safe _ _ _ (by rw [setMode_mode]; exact still)))
  · obtain ⟨-, -, -, pumps, -⟩ := refreshEach_rack allArms (modeSet m s)
    unfold pumpRun
    rw [setMode_eq, pumps, modeSet_out still]
    exact forcePumpsOff_pumpRun _ p
  · exact (setMode_relay m s).trans (relayAfter_out still _)

theorem endPumpWait_injectors (a : ArmNo) (s : State) : (endPumpWait a s).injectors = s.injectors :=
  (endPumpWait_armOnly a s).rack.2.2.2.2

theorem releaseIfReady_injectors (a : ArmNo) (s : State) : (releaseIfReady a s).injectors = s.injectors := by
  unfold releaseIfReady
  split
  · rfl
  · split
    · exact endPumpWait_injectors a _
    · rfl

theorem pumpsReturn_injectors (s : State) : (pumpsReturn s).injectors = s.injectors :=
  each_keeps State.injectors (fun s a => releaseIfReady a s) (fun s a => releaseIfReady_injectors a s) allArms _

/-- A change of mode touches no injector. -/
theorem setMode_injectors (m : Mode) (s : State) : (setMode m s).injectors = s.injectors := by
  obtain ⟨-, -, -, -, injectors⟩ := refreshEach_rack allArms (modeSet m s)
  rw [setMode_eq, injectors]
  unfold modeSet
  split
  · rfl
  · split
    · exact pumpsReturn_injectors _
    · rfl

theorem InjectorsAtRest.of_injectors {s t : State} (rest : InjectorsAtRest s) (same : t.injectors = s.injectors) :
    InjectorsAtRest t := by
  unfold InjectorsAtRest solenoid at rest ⊢
  rwa [same]

/-- A change of mode after any operation that leaves the injectors. -/
theorem keeps_setMode {s t : State} (m : Mode) (rest : calm → InjectorsAtRest s → InjectorsAtRest t) :
    KeepsLaws calm s (setMode m t) :=
  ⟨fun _ => setMode_safe m t, fun _ => setMode_follow m t,
    fun h before => (rest h before).of_injectors (setMode_injectors m t)⟩

end Sys2Proof.Machine
end

section
/-! The laws of the outputs (O5) under the operations of the injectors, the arms, the metering and the supervision unit
(R42 to R57, R66 to R81, R130 to R143). -/

namespace Sys2Proof.Machine

variable {calm : Prop}

/-! ### Injectors

A solenoid at rest has no request to take, so no operation but a posted shot can open it (R69 to R71). -/

theorem keeps_takeOldest (i : InjNo) (s : State) : KeepsLaws calm s (takeOldest i s) := by
  unfold takeOldest
  simp only
  split
  · next q rest _ queue => exact keeps_modInj s i fun _ still => absurd (still.2.symm.trans queue) (List.cons_ne_nil q rest).symm
  · exact .refl s

theorem keeps_shotJoined (q : ShotRequest) (s : State) : KeepsLaws calm s (shotJoined q s) :=
  keeps_modArm s q.arm (fun _ => rfl) (fun _ => rfl) fun _ => rfl

theorem keeps_shotLeft (q : ShotRequest) (s : State) : KeepsLaws calm s (shotLeft q s) := by
  have counted : KeepsLaws calm s (s.modArm q.arm fun x => { x with outstanding := x.outstanding - 1 }) :=
    keeps_modArm s q.arm (fun _ => rfl) (fun _ => rfl) fun _ => rfl
  unfold shotLeft
  split
  · exact counted.trans (keeps_push _ _)
  · exact .refl s

@[simp] theorem markAdditiveFault_plant (i : InjNo) (s : State) : (markAdditiveFault i s).plant = s.plant :=
  each_plant _ _ s fun _ _ => rfl

@[simp] theorem raiseInj_plant (i : InjNo) (event : InstId) (s : State) : (raiseInj i event s).plant = s.plant :=
  markAdditiveFault_plant i s

@[simp] theorem raiseOnShot_plant (i : InjNo) (event : InstId) (q : ShotRequest) (s : State) :
    (raiseOnShot i event q s).plant = s.plant :=
  raiseInj_plant i event _

theorem keeps_endShot (i : InjNo) (ending : ShotEnding) (s : State) : KeepsLaws calm s (endShot i ending s) := by
  unfold endShot
  split
  · next open_ _ =>
    simp only
    split
    · refine .trans ?_ (.of_plant (raiseOnShot_plant ..))
      exact keeps_modInj s i fun _ still => absurd open_ ((Injector.atRest_iff _).1 still).1
    · exact keeps_modInj s i fun _ still => absurd open_ ((Injector.atRest_iff _).1 still).1
  · exact .refl s

theorem keeps_judgeShot (i : InjNo) (shot : Shot) (measured d : Nat) (s : State) :
    KeepsLaws calm s (judgeShot i shot measured d s) := by
  unfold judgeShot
  simp only
  split
  · exact .refl s
  · split
    · split
      · refine .trans ?_ (.of_plant (raiseOnShot_plant ..))
        exact keeps_modInj s i fun _ still => still
      · exact keeps_modInj s i fun _ still => still
    · exact keeps_modInj s i fun _ still => still

theorem keeps_carry (i : InjNo) (n : Nat) (s : State) :
    KeepsLaws calm s (s.modInj i fun x => { x with carry := n }) :=
  keeps_modInj s i fun _ still => still

theorem keeps_finishShot (i : InjNo) (s : State) : KeepsLaws calm s (finishShot i s) := by
  unfold finishShot
  split
  · simp only
    refine .trans ?_ (keeps_takeOldest i _)
    refine .trans (.trans ?_ (keeps_shotLeft _ _)) (keeps_push _ _)
    refine .trans ?_ (keeps_modInj _ i fun _ still => ⟨rfl, still.2⟩)
    refine .trans ?_ (.of_plant (modLineOf_plant ..))
    refine .trans ?_ (keeps_judgeShot ..)
    exact keeps_carry i _ s
  · exact .refl s

theorem keeps_additivePulseAt (i : InjNo) (s : State) : KeepsLaws calm s (additivePulseAt i s) := by
  unfold additivePulseAt
  simp only
  split
  · split
    · refine .trans ?_ (keeps_endShot i .complete _)
      exact keeps_modInj s i fun _ still => still
    · exact keeps_modInj s i fun _ still => still
  · exact keeps_modInj s i fun _ still => still
  · split
    · refine .trans (.trans ?_ (keeps_modInj _ i fun _ still => still)) (.of_plant (raiseInj_plant ..))
      exact keeps_modInj s i fun _ still => still
    · exact keeps_modInj s i fun _ still => still
  · exact .refl s

/-- A solenoid at rest has no request to withdraw. -/
theorem keeps_withdrawQueue (i : InjNo) (p : ShotRequest → Bool) (s : State) :
    KeepsLaws calm s (s.modInj i fun x => { x with queue := x.queue.filter p }) :=
  keeps_modInj s i fun _ still => ⟨still.1, (congrArg (List.filter p) still.2).trans List.filter_nil⟩

theorem keeps_withdrawShots (a : ArmNo) (s : State) : KeepsLaws calm s (withdrawShots a s) := by
  unfold withdrawShots
  split
  · exact .refl s
  · simp only
    refine .trans ?_ (.of_plant (modArmComp_plant ..))
    refine .trans ?_ (keeps_modArm _ a (fun _ => rfl) (fun _ => rfl) fun _ => rfl)
    refine keeps_each _ (fun t i => ?_) s
    split
    · exact keeps_withdrawQueue i _ t
    · exact .refl t

theorem keeps_emptyQueue (i : InjNo) (s : State) : KeepsLaws calm s (emptyQueue i s) :=
  (keeps_modInj s i fun _ still => ⟨still.1, rfl⟩).trans
    (keeps_each _ (fun t q => .trans (.of_plant (modLineOf_plant t q _)) (keeps_shotLeft q _)) _)

theorem keeps_tripInjector (i : InjNo) (s : State) : KeepsLaws calm s (tripInjector i s) := by
  unfold tripInjector
  split
  · exact (keeps_endShot i .trip s).trans (keeps_emptyQueue i _)
  · exact .refl s

theorem keeps_stageTwoInjector (i : InjNo) (s : State) : KeepsLaws calm s (stageTwoInjector i s) := by
  unfold stageTwoInjector
  split
  · exact (keeps_tripInjector i s).trans (keeps_finishShot i _)
  · exact .refl s

/-- Outside RUN a posted shot is refused (R70), so the solenoids stay at rest. -/
theorem keeps_postShot (i : InjNo) (q : ShotRequest) (s : State) (calmly : calm → s.mode ≠ .run) :
    KeepsLaws calm s (postShot i q s) := by
  unfold postShot
  split
  · exact .trans (.of_plant (modLineOf_plant ..)) (keeps_modInj _ i fun _ still => still)
  · next accepted =>
    have running : s.mode = .run := by simpa using fun h => accepted (.inl h)
    refine .trans (.trans ?_ (keeps_shotJoined q _)) (keeps_takeOldest i _)
    exact keeps_modInj s i fun still _ => absurd running (calmly still)

/-! ### Arms -/

theorem keeps_lowStarted (a : ArmNo) (s : State) : KeepsLaws calm s (lowStarted a s) :=
  .trans (.of_armOnly ((armOnly_modArm ..).trans (armOnly_stopNoFlow ..) |>.trans (armOnly_modArm ..) |>.trans
    (armOnly_refreshCommand ..)) (refreshCommand_follows a _)) (keeps_push _ _)

theorem keeps_enterLowStart (a : ArmNo) (s : State) : KeepsLaws calm s (enterLowStart a s) := by
  rw [enterLowStart_eq]
  refine .trans (.trans (.trans ?_ (keeps_lowStarted a _)) (keeps_addDemand a _)) (keeps_push _ _)
  exact .of_plant rfl

theorem keeps_startClosingLimit (a : ArmNo) (s : State) : KeepsLaws calm s (startClosingLimit a s) :=
  keeps_modArm s a (fun _ => rfl) (fun _ => rfl) fun _ => rfl

theorem keeps_enterClosing (a : ArmNo) (s : State) : KeepsLaws calm s (enterClosing a s) := by
  unfold enterClosing
  refine .trans (.trans (.trans (.trans ?_ (keeps_enterState a .closing _)) (keeps_startClosingLimit a _))
    (keeps_stopNoFlow a _)) (keeps_push _ _)
  exact keeps_removeDemand a s

theorem keeps_enterHalting (a : ArmNo) (cause : StopCause) (s : State) : KeepsLaws calm s (enterHalting a cause s) := by
  unfold enterHalting
  refine .trans (.trans (.trans (.trans (.trans (.trans ?_ (keeps_removeDemand a _)) (keeps_enterState a .halting _))
    (keeps_startClosingLimit a _)) (keeps_stopNoFlow a _)) (keeps_withdrawShots a _)) (keeps_push _ _)
  exact keeps_modArm s a (fun _ => rfl) (fun _ => rfl) fun _ => rfl

theorem keeps_stopArm (a : ArmNo) (cause : StopCause) (s : State) : KeepsLaws calm s (stopArm a cause s) := by
  unfold stopArm
  split
  · exact keeps_enterHalting a cause s
  · exact .refl s

theorem keeps_enterHeld (a : ArmNo) (s : State) : KeepsLaws calm s (enterHeld a s) := by
  refine .trans ?_ (keeps_enterState a .held _)
  exact keeps_modArm s a (fun _ => rfl) (fun _ => rfl) fun _ => rfl

@[simp] theorem markNotConfirmed_plant (a : ArmNo) (s : State) : (markNotConfirmed a s).plant = s.plant :=
  modArmComp_plant s a _

theorem keeps_completeArm (a : ArmNo) (reason : EndReason) (s : State) : KeepsLaws calm s (completeArm a reason s) := by
  unfold completeArm
  split
  · simp only
    refine .trans ?_ (.of_plant (pushFirst_plant ..))
    refine .trans ?_ (keeps_refreshed a _ _)
    refine .trans ?_ (keeps_modArm _ a (fun _ => rfl) (fun _ => rfl) fun _ => rfl)
    exact .of_plant (modArmComp_plant ..)
  · exact .refl s

theorem keeps_testArm (a : ArmNo) (s : State) : KeepsLaws calm s (testArm a s) := by
  unfold testArm
  simp only
  split
  · split
    · exact keeps_completeArm a .preset s
    · exact .refl s
  · split
    · exact keeps_enterHeld a s
    · exact .refl s
  · exact .refl s

theorem keeps_closingLimitAt (a : ArmNo) (s : State) : KeepsLaws calm s (closingLimitAt a s) := by
  have out : KeepsLaws calm s (s.modArm a fun x => { x with closingLimit := x.closingLimit.map Timer.atLimit }) :=
    keeps_modArm s a (fun _ => rfl) (fun _ => rfl) fun _ => rfl
  unfold closingLimitAt
  simp only
  split
  · split
    · exact (out.trans (.of_plant (markNotConfirmed_plant a _))).trans (keeps_testArm a _)
    · exact (out.trans (.of_plant (markNotConfirmed_plant a _))).trans (keeps_enterHeld a _)
    · exact out
  · exact .refl s

theorem keeps_forceArm (a : ArmNo) (s : State) : KeepsLaws calm s (forceArm a s) := by
  unfold forceArm
  split
  · exact .trans (.of_plant (markNotConfirmed_plant a s)) (keeps_completeArm a .preset _)
  · exact .trans (.of_plant (markNotConfirmed_plant a s)) (keeps_completeArm a .stopped _)
  · exact .refl s

theorem keeps_finishArm (a : ArmNo) (s : State) : KeepsLaws calm s (finishArm a s) := by
  unfold finishArm
  split
  · exact keeps_completeArm a .stopped s
  · exact .refl s

theorem keeps_releaseArm (a : ArmNo) (s : State) : KeepsLaws calm s (releaseArm a s) := by
  unfold releaseArm
  split
  · simp only
    refine .trans ?_ (keeps_enterState a .idle _)
    refine .trans ?_ (keeps_modArm _ a (fun _ => rfl) (fun _ => rfl) fun _ => rfl)
    exact .of_plant (modArmComp_plant ..)
  · exact .refl s

theorem keeps_assign (a : ArmNo) (b : BayNo) (r : CompRec) (s : State) : KeepsLaws calm s (assign a b r s) := by
  unfold assign
  refine .trans ?_ (keeps_enterState a .armed _)
  refine .trans ?_ (keeps_modArm _ a (fun _ => rfl) (fun _ => rfl) fun _ => rfl)
  exact .of_plant rfl

/-! ### The interval report (R45, R57, R59) -/

theorem keeps_watchFlow (a : ArmNo) (q : Nat) (s : State) : KeepsLaws calm s (watchFlow a q s) := by
  unfold watchFlow
  split
  · split
    · exact keeps_startNoFlow a s
    · exact .refl s
  · exact keeps_stopNoFlow a s

@[simp] theorem checkOverrun_plant (a : ArmNo) (s : State) : (checkOverrun a s).plant = s.plant := by
  unfold checkOverrun
  split
  · split
    · exact modArmComp_plant ..
    · rfl
  · rfl

theorem keeps_flowingReport (a : ArmNo) (q : Nat) (locked : Bool) (s : State) :
    KeepsLaws calm s (flowingReport a q locked s) := by
  unfold flowingReport
  split
  · split
    · exact keeps_enterClosing a s
    · split
      · exact .refl s
      · exact (keeps_enterState a .lowFinish s).trans (keeps_stopNoFlow a _)
    · split
      · exact keeps_watchFlow a q s
      · exact (keeps_enterState a .highFlow s).trans (keeps_stopNoFlow a _)
    · exact .refl s
  · exact .refl s

theorem keeps_armReport (a : ArmNo) (q : Nat) (locked : Bool) (s : State) :
    KeepsLaws calm s (armReport a q locked s) := by
  unfold armReport
  split
  · exact keeps_flowingReport a q locked s
  · exact keeps_flowingReport a q locked s
  · exact keeps_flowingReport a q locked s
  · exact .of_plant (checkOverrun_plant a s)
  · exact .refl s

/-! ### One expiry (R19 to R33, R68) -/

theorem account_plant (cfg : Configuration) (a : ArmNo) (s : State) : (account cfg a s).plant = s.plant := by
  rw [account_frame]
  rfl

/-- The laws carry over, the solenoids' wherever the mode is not RUN, and the mode is as it was. -/
structure Steady (s t : State) : Prop where
  mode : t.mode = s.mode
  keeps : KeepsLaws (s.mode ≠ .run) s t

namespace Steady

variable {s t u : State}

theorem refl (s : State) : Steady s s := ⟨rfl, .refl s⟩

theorem trans (first : Steady s t) (second : Steady t u) : Steady s u :=
  ⟨second.mode.trans first.mode, first.keeps.trans (first.mode ▸ second.keeps)⟩

theorem of_plant (same : t.plant = s.plant) : Steady s t := ⟨congrArg Plant.mode same, .of_plant same⟩

theorem of_rackState (same : t.rackState = s.rackState) (keeps : KeepsLaws (s.mode ≠ .run) s t) : Steady s t :=
  ⟨congrArg RackState.mode same, keeps⟩

end Steady

theorem steady_postShot (i : InjNo) (q : ShotRequest) (s : State) : Steady s (postShot i q s) :=
  .of_rackState (postShot_rackState i q s) (keeps_postShot i q s id)

theorem steady_postLine (a : ArmNo) (b : BayNo) (c : CompNo) (number fuel : Nat) (s : State) :
    Steady s (postLine a b c number fuel s) := by
  induction fuel generalizing s with
  | zero => exact .refl s
  | succ fuel ih =>
    unfold postLine
    split
    · split
      · exact .trans (.trans (.of_plant (modLineOf_plant ..)) (steady_postShot ..)) (ih _)
      · exact .refl s
    · exact .refl s

theorem steady_postShots (a : ArmNo) (st : ArmState) (s : State) : Steady s (postShots a st s) := by
  have line (oc : OnArm) (number : Nat) (t : State) : Steady t
      (match t.lineOf ⟨a, oc.bay, oc.comp, number, 0⟩ with
        | some l => postLine a oc.bay oc.comp number (l.due - l.next) t
        | none => t) := by
    split
    · exact steady_postLine ..
    · exact .refl t
  unfold postShots
  split
  · split
    · exact (line _ 1 s).trans (line _ 2 _)
    · exact .refl s
  · exact .refl s

@[simp] theorem startIdleTimers_plant (b : BayNo) (s : State) : (startIdleTimers b s).plant = s.plant := rfl

@[simp] theorem activity_plant (b : BayNo) (k : Activity) (s : State) : (activity b k s).plant = s.plant := by
  unfold activity
  split <;> rfl

theorem steady_interval (cfg : Configuration) (a : ArmNo) (s : State) : Steady s (interval cfg a s) := by
  have report (q : Nat) (locked : Bool) (st : ArmState) :
      Steady s (postShots a st (armReport a q locked (account cfg a s))) :=
    ((Steady.of_plant (account_plant cfg a s)).trans
      (.of_rackState (armReport_rackState ..) (keeps_armReport ..))).trans (steady_postShots ..)
  unfold interval
  simp only
  split
  · split
    · exact (report _ _ _).trans (.of_plant (activity_plant ..))
    · exact report _ _ _
  · exact report _ _ _

/-! ### Supervision (R129 to R143) -/

theorem keeps_startTrip (cause : TripCause) (s : State) : KeepsLaws calm s (startTrip cause s) := by
  unfold startTrip
  simp only
  split
  · refine .trans (.trans ?_ (.of_plant (pushAll_plant ..))) (keeps_push _ _)
    exact keeps_setMode .tripping fun _ rest => rest
  · refine .trans ?_ (.of_plant (pushAll_plant ..))
    exact keeps_setMode .tripping fun _ rest => rest

theorem keeps_tripOn (i : InstId) (s : State) : KeepsLaws calm s (tripOn i s) := by
  unfold tripOn
  split
  · exact keeps_startTrip _ s
  · exact .refl s

@[simp] theorem countUp_plant (i : InstId) (s : State) : (countUp i s).plant = s.plant := rfl

@[simp] theorem markWarning_plant (i : InstId) (s : State) : (markWarning i s).plant = s.plant :=
  each_plant _ _ s fun _ _ => rfl

@[simp] theorem sendStops_plant (i : InstId) (s : State) : (sendStops i s).plant = s.plant := by
  unfold sendStops
  split <;> rfl

theorem keeps_enterActive (i : InstId) (fromRecovering : Bool) (s : State) :
    KeepsLaws calm s (enterActive i fromRecovering s) := by
  unfold enterActive
  refine .trans (.of_plant ?_) (keeps_tripOn i _)
  simp

theorem keeps_condition (i : InstId) (present : Bool) (s : State) : KeepsLaws calm s (condition i present s) := by
  have told (f : Instance → Instance) : KeepsLaws calm s (s.modInst i f) := .of_plant rfl
  unfold condition
  simp only
  split
  · exact .refl s
  · split
    · split
      · split
        · exact (told _).trans (keeps_enterActive i false _)
        · exact .of_plant rfl
      · exact (told _).trans (keeps_enterActive i true _)
      · exact told _
    · split
      · exact .of_plant rfl
      · split
        · exact .of_plant rfl
        · split <;> exact .of_plant rfl
      · exact told _

theorem keeps_filterExpiry (i : InstId) (s : State) : KeepsLaws calm s (filterExpiry i s) := by
  unfold filterExpiry
  split
  · split
    · exact keeps_enterActive i false s
    · exact .of_plant rfl
    · exact .refl s
  · exact .refl s

@[simp] theorem markMeterFault_plant (i : InstId) (s : State) : (markMeterFault i s).plant = s.plant := by
  unfold markMeterFault
  split
  · exact modArmComp_plant ..
  · rfl

theorem keeps_eventAt (i : InstId) (s : State) : KeepsLaws calm s (eventAt i s) := by
  have marked : (markMeterFault i (countUp i s)).plant = s.plant := markMeterFault_plant i _
  unfold eventAt
  simp only
  split
  · exact .trans (.of_plant ((markWarning_plant i _).trans marked)) (keeps_tripOn i _)
  · split
    · refine .trans (.of_plant ?_) (keeps_tripOn i _)
      exact (sendStops_plant i _).trans ((modInst_plant ..).trans marked)
    · exact .of_plant marked

theorem keeps_clearOne (s : State) (i : InstId) : KeepsLaws calm s (clearOne s i) := by
  unfold clearOne
  split
  · refine .trans (t := s.modInst i fun x => { x with state := .normal, timer := none }) (.of_plant rfl) ?_
    unfold clearNotice
    split
    · exact .of_plant rfl
    · exact keeps_modInj _ _ fun _ still => still
    · exact .of_plant rfl
    · exact .refl _
  · exact .refl s

theorem keeps_clearAll (l : List InstId) (s : State) : KeepsLaws calm s (clearAll l s).1 :=
  keeps_each l keeps_clearOne s

@[simp] theorem redeliver_plant (a : ArmNo) (s : State) : (redeliver a s).plant = s.plant := by
  unfold redeliver
  split
  · split <;> rfl
  · rfl

/-- The second stage is in TRIPPING, which is in service: the laws ask nothing of it but that the stages follow, and it
leaves them (R142). -/
theorem keeps_secondStage (s : State) : KeepsLaws calm s (secondStage s) := by
  unfold secondStage
  split
  · next tripping =>
    refine ⟨fun _ still => ?_, fun follow => follow, fun _ rest => rest⟩
    have flows : s.mode.mayFlow = true := by rw [tripping.1]; rfl
    exact absurd (flows.symm.trans still) Bool.noConfusion
  · exact .refl s

theorem keeps_bayReport (b : BayNo) (s : State) : KeepsLaws calm s (bayReport b s) := by
  unfold bayReport
  split
  · simp only
    split
    · exact keeps_setMode .tripped fun _ rest => rest
    · exact .of_plant rfl
  · exact .refl s

theorem keeps_examineTrips (s : State) : KeepsLaws calm s (examineTrips s) := by
  unfold examineTrips
  split
  · split
    · exact keeps_startTrip _ s
    · exact .refl s
  · exact .refl s

end Sys2Proof.Machine
end

section
/-! The laws of the outputs (O5) under the bays, the books and the notices in flight (R86 to R124): bays and books leave the
plant, and every notice taken keeps the laws. -/

namespace Sys2Proof.Machine

variable {calm : Prop}

/-! ### The books -/

@[simp] theorem openRequest_plant (n : Nat) (b : BayNo) (s : State) : (openRequest n b s).1.plant = s.plant := by
  unfold openRequest
  split
  · rfl
  · split
    · rfl
    · split <;> rfl

@[simp] theorem closeRequest_plant (n : Nat) (b : BayNo) (s : State) : (closeRequest n b s).1.plant = s.plant := by
  unfold closeRequest
  split
  · rfl
  · split
    · rfl
    · split <;> rfl

@[simp] theorem reserve_plant (n preset : Nat) (s : State) : (reserve n preset s).1.plant = s.plant := by
  unfold reserve
  split
  · rfl
  · split
    · rfl
    · split <;> rfl

@[simp] theorem takeOrder_plant (n : Nat) (b : BayNo) (mask : BitVec 12) (s : State) :
    (takeOrder n b mask s).1.plant = s.plant := by
  unfold takeOrder
  split <;> rfl

@[simp] theorem returnOrder_plant (n : Nat) (s : State) : (returnOrder n s).plant = s.plant := rfl
@[simp] theorem settle_plant (n preset delivered : Nat) (s : State) : (settle n preset delivered s).plant = s.plant := rfl

@[simp] theorem dayRollover_plant (s : State) : (dayRollover s).plant = s.plant := by
  unfold dayRollover
  split <;> rfl

/-! ### The bays -/

@[simp] theorem reportPermissives_plant (b : BayNo) (s : State) : (reportPermissives b s).plant = s.plant := rfl
@[simp] theorem restartDeadman_plant (b : BayNo) (s : State) : (restartDeadman b s).plant = s.plant := rfl

@[simp] theorem followDeadman_plant (b : BayNo) (s : State) : (followDeadman b s).plant = s.plant := by
  unfold followDeadman
  simp only
  split
  · split
    · split <;> rfl
    · rfl
  · rfl

@[simp] theorem deadmanViolation_plant (b : BayNo) (p : Prompt) (s : State) :
    (deadmanViolation b p s).plant = s.plant := by
  unfold deadmanViolation
  simp only
  split <;> rfl

@[simp] theorem enterEnding_plant (b : BayNo) (cause : EndCause) (s : State) :
    (enterEnding b cause s).plant = s.plant := by
  simp only [enterEnding, push_plant, pushAll_plant, sendShow_plant, modBay_plant, modSession_plant]

@[simp] theorem endSession_plant (b : BayNo) (cause : EndCause) (s : State) :
    (endSession b cause s).plant = s.plant := by
  unfold endSession
  split
  · exact enterEnding_plant b cause s
  · rfl

@[simp] theorem fileSession_plant (b : BayNo) (x : Session) (s : State) : (fileSession b x s).plant = s.plant := by
  simp only [fileSession, ite_plant, push_plant, ite_self, sendShow_plant, modBay_plant, closeRequest_plant]
  rfl

@[simp] theorem filingTest_plant (b : BayNo) (s : State) : (filingTest b s).plant = s.plant := by
  unfold filingTest
  split
  · split
    · simp only
      split
      · exact fileSession_plant ..
      · rfl
    · rfl
  · rfl

@[simp] theorem shotWritten_plant (b : BayNo) (i : InjNo) (s : State) : (shotWritten b i s).plant = s.plant := by
  unfold shotWritten
  split <;> rfl

@[simp] theorem completed_plant (b : BayNo) (c : CompNo) (s : State) : (completed b c s).plant = s.plant := by
  unfold completed
  split
  · split
    · simp only [ite_plant, push_plant, enterEnding_plant, sendShow_plant, settle_plant, modComp_plant, ite_self]
    · rfl
  · rfl

@[simp] theorem armChanged_plant (a : ArmNo) (s : State) : (armChanged a s).plant = s.plant := by
  unfold armChanged
  split
  · rfl
  · have told (b : BayNo) : (reportPermissives b (followDeadman b s)).plant = s.plant := followDeadman_plant b s
    simp only
    split
    · split
      · split
        · exact told _
        · split
          · exact told _
          · exact told _
      · exact told _
    · exact told _

@[simp] theorem stageTwoNotice_plant (b : BayNo) (s : State) : (stageTwoNotice b s).plant = s.plant := by
  unfold stageTwoNotice
  split
  · rfl
  · simp only [ite_plant, push_plant, enterEnding_plant, ite_self]

/-! ### The card and the keys (R108 to R115) -/

@[simp] theorem cardRequests_plant (b : BayNo) (p : Permit) (s : State) : (cardRequests b p s).plant = s.plant := by
  have opened := openRequest_plant p.number b s
  unfold cardRequests
  split
  · next s1 open_ok =>
    have taken := takeOrder_plant p.number b p.productMask s1
    rw [open_ok] at opened
    split
    · next s2 o take_ok =>
      rw [take_ok] at taken
      split
      · exact taken.trans opened
      · exact (closeRequest_plant ..).trans (taken.trans opened)
    · next s2 take_none =>
      rw [take_none] at taken
      exact (closeRequest_plant ..).trans (taken.trans opened)
  · next s1 answer _ refused =>
    rw [refused] at opened
    exact opened

@[simp] theorem cardAt_plant (b : BayNo) (token : BitVec 64) (s : State) : (cardAt b token s).plant = s.plant := by
  unfold cardAt
  simp only
  split
  · simp
  · split
    · simp
    · split <;> simp

theorem keeps_selectKey (b : BayNo) (c : CompNo) (a : ArmNo) (s : State) : KeepsLaws calm s (selectKey b c a s) := by
  unfold selectKey
  split
  · exact .of_plant rfl
  · exact .trans (.of_plant (sendShow_plant ..)) (keeps_assign ..)
  · exact .refl s

theorem keeps_acceptStart (b : BayNo) (a : ArmNo) (oc : OnArm) (s : State) :
    KeepsLaws calm s (acceptStart b a oc s) := by
  unfold acceptStart
  refine .trans ?_ (keeps_enterLowStart a _)
  exact .of_plant rfl

theorem keeps_startKey (b : BayNo) (a : ArmNo) (s : State) : KeepsLaws calm s (startKey b a s) := by
  unfold startKey
  split
  · exact .of_plant rfl
  · exact .of_plant rfl
  · next oc _ _ =>
    have reserved := reserve_plant (sessionPermit s b) oc.preset s
    split
    · next s1 granted =>
      rw [granted] at reserved
      exact .trans (.of_plant reserved) (keeps_acceptStart ..)
    · next s1 refused =>
      rw [refused] at reserved
      exact .of_plant reserved
    · next s1 answer _ _ refused =>
      rw [refused] at reserved
      exact .of_plant reserved

theorem keeps_resumeKey (b : BayNo) (a : ArmNo) (s : State) : KeepsLaws calm s (resumeKey b a s) := by
  unfold resumeKey
  split
  · exact .of_plant rfl
  · exact .of_plant rfl
  · split
    · exact .trans (.of_plant (sendShow_plant ..)) (keeps_enterLowStart a _)
    · exact .of_plant rfl

theorem keeps_stopKey (b : BayNo) (a : ArmNo) (s : State) : KeepsLaws calm s (stopKey b a s) := by
  unfold stopKey
  split
  · exact .of_plant rfl
  · split
    · exact .of_plant rfl
    · exact .trans (.of_plant (sendShow_plant ..)) (keeps_stopArm a .key _)

theorem keeps_finishKey (b : BayNo) (a : ArmNo) (s : State) : KeepsLaws calm s (finishKey b a s) := by
  unfold finishKey
  split
  · exact .of_plant rfl
  · split
    · exact .of_plant rfl
    · split
      · exact .trans (.of_plant (sendShow_plant ..)) (keeps_finishArm a _)
      · exact .of_plant rfl

@[simp] theorem endKeyAt_plant (b : BayNo) (s : State) : (endKeyAt b s).plant = s.plant := by
  unfold endKeyAt
  split
  · rfl
  · exact enterEnding_plant b .driverEnd s

theorem keeps_resetKeyAt (b : BayNo) (s : State) : KeepsLaws calm s (resetKeyAt b s) :=
  (keeps_clearAll (resetScope s b) s).trans (.of_plant (sendShow_plant ..))

/-! ### The notices in flight -/

/-- Every notice taken keeps the laws, the solenoids' in every mode: no notice posts a shot. -/
theorem keeps_take (n : Notice) (s : State) : KeepsLaws calm s (take n s) := by
  cases n with
  | armChanged a => exact .of_plant (armChanged_plant a s)
  | testArm a => exact keeps_testArm a s
  | stopArm a cause => exact keeps_stopArm a cause s
  | forceArm a => exact keeps_forceArm a s
  | finishArm a => exact keeps_finishArm a s
  | releaseArm a => exact keeps_releaseArm a s
  | redeliver a => exact .of_plant (redeliver_plant a s)
  | completed b c => exact .of_plant (completed_plant b c s)
  | condition i present => exact keeps_condition i present s
  | event i => exact keeps_eventAt i s
  | tripNotice b => exact .of_plant (endSession_plant b .trip s)
  | stageTwoNotice b => exact .of_plant (stageTwoNotice_plant b s)
  | tripInjector i => exact keeps_tripInjector i s
  | stageTwoInjector i => exact keeps_stageTwoInjector i s
  | bayReport b => exact keeps_bayReport b s
  | secondStage => exact keeps_secondStage s
  | filingTest b => exact .of_plant (filingTest_plant b s)
  | shotWritten b i => exact .of_plant (shotWritten_plant b i s)

theorem keeps_drain (fuel : Nat) (s : State) : KeepsLaws calm s (drain fuel s) := by
  induction fuel generalizing s with
  | zero => exact .refl s
  | succ fuel ih =>
    unfold drain
    split
    · exact .refl s
    · next n rest _ =>
      have taken : KeepsLaws calm s { s with inbox := rest } := .of_plant rfl
      exact (taken.trans (keeps_take n _)).trans (ih _)

theorem keeps_settleCommand (s : State) : KeepsLaws calm s (settleCommand s) :=
  (keeps_drain _ s).trans (.of_plant (write_plant _))

end Sys2Proof.Machine
end

section
/-! The laws of the outputs (O5) under setup control, start-up and the host line (R158 to R179). -/

namespace Sys2Proof.Machine

variable {calm : Prop}

/-! ### The state of no supply -/

theorem reset_atRest : InjectorsAtRest State.reset := by
  intro i
  show (Vector.replicate 6 Injector.blank)[i].solenoidOpen = false ∧ (Vector.replicate 6 Injector.blank)[i].queue = []
  rw [Fin.getElem_fin, Vector.getElem_replicate]
  exact ⟨rfl, rfl⟩

theorem reset_outputsOff : OutputsOff State.reset := by
  refine ⟨fun a => ?_, fun p => ?_, rfl⟩
  · show (Vector.replicate 8 Arm.blank)[a].command.s1 = false ∧ (Vector.replicate 8 Arm.blank)[a].command.s2 = false
    rw [Fin.getElem_fin, Vector.getElem_replicate]
    exact ⟨rfl, rfl⟩
  · show decide ((Vector.replicate 8 Pump.blank)[p].state ≠ .off) = false
    rw [Fin.getElem_fin, Vector.getElem_replicate]
    rfl

theorem reset_safe : OutOfServiceIsSafe State.reset := fun _ => reset_outputsOff

/-- An idle arm calls for CLOSE (R41). -/
theorem reset_follow : StagesFollow State.reset := by
  refine (stagesFollow_iff _).2 fun a => ?_
  have blank : State.reset.arms[a] = Arm.blank := by
    show (Vector.replicate 8 Arm.blank)[a] = _
    rw [Fin.getElem_fin, Vector.getElem_replicate]
  unfold Follows
  rw [blank]
  rfl

/-- A plant as it is without supply keeps the laws, whatever was before. -/
theorem keeps_toReset {s t : State} (lost : t.plant = State.reset.plant) : KeepsLaws calm s t :=
  have same : KeepsLaws True State.reset t := .of_plant lost
  ⟨fun _ => same.safe reset_safe, fun _ => same.follow reset_follow, fun _ _ => same.rest trivial reset_atRest⟩

theorem keeps_beginStartUp (cause : StartCause) (s : State) : KeepsLaws calm s (beginStartUp cause s) := keeps_toReset rfl

theorem keeps_losePower (lost : Nat) (s : State) : KeepsLaws calm s (losePower lost s) := keeps_toReset rfl

/-! ### Start-up (R168, R169) -/

@[simp] theorem closeRetainedComp_plant (b : BayNo) (permit : Nat) (s : State) (r : CompRec) :
    (closeRetainedComp b permit s r).plant = s.plant := by
  unfold closeRetainedComp
  split
  · split <;> rfl
  · rfl
  · rfl

@[simp] theorem closeRetained_plant (cause : StartCause) (s : State) (b : BayNo) :
    (closeRetained cause s b).plant = s.plant := by
  unfold closeRetained
  split
  · rfl
  · next x _ =>
    have comps : (x.comps.foldl (closeRetainedComp b x.permit) s).plant = s.plant :=
      each_plant (closeRetainedComp b x.permit) x.comps s fun s r => closeRetainedComp_plant b x.permit s r
    simp only [write_plant, modBay_plant, closeRequest_plant]
    exact comps

/-- The injectors are put into service closed and without a request (R84). -/
theorem putIntoService_rest {s : State} (rest : InjectorsAtRest s) : InjectorsAtRest (putIntoService s) := by
  have arms : InjectorsAtRest (s.each allArms startArm) :=
    rest.of_injectors (each_keeps State.injectors startArm (fun _ _ => rfl) allArms s)
  have injs : InjectorsAtRest ((s.each allArms startArm).each allInjs startInj) :=
    (keeps_each (calm := True) allInjs (fun t i => keeps_modInj t i fun _ _ => ⟨rfl, rfl⟩) _).rest trivial arms
  exact injs

@[simp] theorem startWorking_injectors (s : State) : (startWorking s).injectors = s.injectors := by
  unfold startWorking
  split <;> rfl

/-- Start-up up to the choice of the mode leaves solenoids at rest that were so. -/
theorem startUp_rest (cause : StartCause) {s : State} (rest : InjectorsAtRest s) :
    InjectorsAtRest (startWorking (putIntoService (cleanPermits (allBays.foldl (closeRetained cause)
      (readRetained s))))) := by
  have closed : (allBays.foldl (closeRetained cause) (readRetained s)).injectors = (readRetained s).injectors :=
    congrArg Plant.injectors (each_plant (closeRetained cause) allBays _ (closeRetained_plant cause))
  have cleaned : InjectorsAtRest (cleanPermits (allBays.foldl (closeRetained cause) (readRetained s))) :=
    rest.of_injectors closed
  exact (putIntoService_rest cleaned).of_injectors (startWorking_injectors _)

theorem keeps_runStartUp (cause : StartCause) (damaged : List RetainedCopy) (s : State) :
    KeepsLaws calm s (runStartUp cause damaged s) := by
  unfold runStartUp
  refine .trans (keeps_setMode _ fun _ rest => startUp_rest cause ?_) (keeps_settleCommand _)
  exact rest

/-! ### Setup control (R158 to R166) -/

theorem keeps_enterSetup (s : State) : KeepsLaws calm s (enterSetup s) := keeps_setMode .setup fun _ rest => rest

@[simp] theorem sendReply_plant (kind : Byte) (x : Answer) (s : State) : (sendReply kind x s).plant = s.plant := rfl

theorem keeps_decideSetupOpen (s : State) : KeepsLaws calm s (decideSetupOpen s) := by
  have asked : KeepsLaws calm s { s with setup := { s.setup with query := none } } := .of_plant rfl
  unfold decideSetupOpen
  split
  · exact .refl s
  · simp only
    split
    · exact .of_plant rfl
    · split
      · exact .of_plant rfl
      · exact (asked.trans (keeps_enterSetup _)).trans (.of_plant (sendReply_plant ..))

theorem keeps_setupTimerAt (s : State) : KeepsLaws calm s (setupTimerAt s) := by
  unfold setupTimerAt
  split
  · exact keeps_setMode .setupLocked fun _ rest => rest
  · exact .refl s

theorem armOnly_restartTravel (a : ArmNo) (s : State) : ArmOnly a s (restartTravel a s) :=
  (armOnly_modArm ..).trans (armOnly_setValveCond ..)

theorem armOnly_retakeArm (wasUsed : Bool) (a : ArmNo) (s : State) : ArmOnly a s (retakeArm wasUsed a s) := by
  have learned := armOnly_modArm a (fun x => { x with closeAhead := (s.armCfg a).closeAheadInitial }) s
  unfold retakeArm
  simp only
  split
  · split
    · exact learned.trans (armOnly_restartTravel ..)
    · exact learned.trans (armOnly_modArm ..)
  · split
    · exact learned.trans (armOnly_restartTravel ..)
    · exact learned.trans ((armOnly_modArm ..).trans ((armOnly_setNoFlowCond ..).trans (armOnly_setValveCond ..)))

@[simp] theorem setProbeFault_plant (a : ArmNo) (p : Bool) (s : State) : (setProbeFault a p s).plant = s.plant := by
  unfold setProbeFault
  split <;> rfl

@[simp] theorem retakeTemp_plant (wasUsed : Bool) (a : ArmNo) (s : State) :
    (retakeTemp wasUsed a s).plant = s.plant := by
  unfold retakeTemp
  split
  · split <;> rfl
  · split
    · rfl
    · exact setProbeFault_plant ..

theorem retakeArmRecord_injectors (wasUsed : Bool) (a : ArmNo) (s : State) :
    (retakeArmRecord wasUsed a s).injectors = s.injectors := by
  obtain ⟨-, -, -, -, arm⟩ := (armOnly_retakeArm wasUsed a (retakeTemp wasUsed a
    ((s.modPulse a fun _ => initialPulse (s.armCfg a) s.pins.pulseA[a] s.pins.pulseB[a]).modMeter a
      fun m => { m with interval := 0, rG := 0, rS := 0 }))).rack
  exact arm.trans (congrArg Plant.injectors (retakeTemp_plant ..))

theorem keeps_retakeInjRecord (wasUsed : Bool) (i : InjNo) (s : State) :
    KeepsLaws calm s (retakeInjRecord wasUsed i s) := by
  have taken : KeepsLaws calm s (s.modInj i fun x => { x with carry := 0, badCount := 0, leakPulses := 0 }) :=
    keeps_modInj s i fun _ still => still
  unfold retakeInjRecord
  simp only
  split
  · exact taken
  · exact taken.trans (keeps_modInj _ i fun _ still => still)

/-- The early expiries before the commit, in one mode (R39). -/
theorem steady_intervals (cfg : Configuration) (l : List ArmNo) (s : State) :
    Steady s (s.each l fun s a => interval cfg a s) := by
  induction l generalizing s with
  | nil => exact .refl s
  | cons a l ih => exact (steady_interval cfg a s).trans (ih _)

/-- The commit: outside RUN its early expiries post no shot, and the change to RUN settles the rest (R165). -/
theorem keeps_commit (c : Configuration) (digest : BitVec 16) (s : State) :
    KeepsLaws (s.mode ≠ .run) s (commit c digest s) := by
  unfold commit
  refine .trans (keeps_setMode .run fun calm rest => ?_) (keeps_examineTrips _)
  have expired := (steady_intervals s.cfg (allArms.filter (armRecordChanged s.setup.active c)) s).keeps.rest calm rest
  have arms (t : State) (l : List ArmNo) (f : State → ArmNo → Bool) (before : InjectorsAtRest t) :
      InjectorsAtRest (t.each l fun u a => retakeArmRecord (f s a) a u) :=
    before.of_injectors
      (each_keeps State.injectors _ (fun u a => retakeArmRecord_injectors (f s a) a u) l t)
  refine (keeps_drain (calm := True) _ _).rest trivial ?_
  refine (keeps_each (calm := True) _ (fun u i => keeps_retakeInjRecord _ i u) _).rest trivial ?_
  exact arms _ _ (fun s a => s.cfg.arms[a].used) expired

/-! ### What keeps the laws -/

/-- An operation that carries the laws over, that of the solenoids wherever the mode is not RUN. -/
def KeepsOutputs (f : State → State) : Prop := ∀ s, KeepsLaws (s.mode ≠ .run) s (f s)

theorem keepsOutputs_of_plant {f : State → State} (same : ∀ s, (f s).plant = s.plant) : KeepsOutputs f :=
  fun s => .of_plant (same s)

theorem KeepsOutputs.comp {f g : State → State} (second : KeepsOutputs f) (first : ∀ s, (g s).plant = s.plant) :
    KeepsOutputs fun s => f (g s) := fun s => by
  have mode : (g s).mode = s.mode := congrArg Plant.mode (first s)
  exact .trans (.of_plant (first s)) (mode ▸ second (g s))

/-- Whatever state the outcome goes on in, the laws have carried over to it. -/
def KeepsNext (s : State) (x : Host.Outcome State Fault Refusal) : Prop :=
  ∀ t, x = .next t → KeepsLaws (s.mode ≠ .run) s t

theorem keepsNext_next {s t : State} (keeps : KeepsLaws (s.mode ≠ .run) s t) : KeepsNext s (.next t) := by
  intro u same
  cases same
  exact keeps

section Frames

variable {f : State → State}

theorem KeepsOutputs.settled (keeps : KeepsOutputs f) : KeepsOutputs fun s => settleCommand (f s) :=
  fun s => (keeps s).trans (keeps_settleCommand _)

theorem inService_keepsNext (keeps : KeepsOutputs f) (s : State) : KeepsNext s (inService f s) := by
  refine keepsNext_next ?_
  split
  · exact (keeps.settled.comp fresh_plant) s
  · exact .of_plant rfl

theorem onPin_keepsNext {level : State → State} (pins : ∀ t, (level t).plant = t.plant) (keeps : KeepsOutputs f)
    (s : State) : KeepsNext s (onPin level f s) := by
  have levelled (t : State) : (level t.fresh).plant = t.plant := pins t.fresh
  refine keepsNext_next ?_
  split
  · exact (keeps.settled.comp levelled) s
  · exact .of_plant (levelled s)

theorem onReceiver_keepsNext (keeps : KeepsOutputs f) (s : State) : KeepsNext s (.next (onReceiver f s)) := by
  refine keepsNext_next ?_
  unfold onReceiver
  split
  · exact .refl s
  · exact (keeps.comp fresh_plant) s

theorem receiveFrame_keepsNext (keeps : KeepsOutputs f) (s : State) : KeepsNext s (.next (receiveFrame f s)) := by
  have quiet : KeepsLaws (s.mode ≠ .run) s (setReceiver .hunt s.fresh) := .of_plant rfl
  refine keepsNext_next ?_
  unfold receiveFrame
  split
  · exact .refl s
  · split
    · exact .of_plant rfl
    · split
      · exact quiet
      · exact (keeps.comp (g := fun t => setReceiver .hunt t.fresh) fun _ => rfl) s
  · split
    · exact .of_plant rfl
    · split
      · exact quiet
      · exact (keeps.settled.comp (g := fun t => linkUp (setReceiver .hunt t.fresh)) fun _ => rfl) s

end Frames

/-! ### Requests of the host line -/

/-- A message's owner that carries the laws over. -/
def OwnerKeepsOutputs (owner : State → State × Answer) : Prop := KeepsOutputs fun s => (owner s).1

theorem noBody_keepsOutputs {owner : State → State × Answer} (body : List Byte) (keeps : OwnerKeepsOutputs owner) :
    OwnerKeepsOutputs (noBody body owner) := by
  intro s
  unfold noBody
  simp only
  split
  · exact keeps s
  · exact .refl s

theorem addressed_keepsOutputs {owner : State → State × Answer} (kind : Byte) (keeps : OwnerKeepsOutputs owner) :
    KeepsOutputs (addressed kind owner) := by
  intro s
  unfold addressed
  simp only
  split
  · exact (keeps s).trans (.of_plant (sendReply_plant ..))
  · exact .of_plant rfl

theorem allCall_keepsOutputs {owner : State → State × Answer} (kind : Byte) (keeps : OwnerKeepsOutputs owner) :
    KeepsOutputs (allCall kind owner) := by
  intro s
  unfold allCall
  split
  · split
    · next t _ answered =>
      have kept := keeps s
      simp only [answered] at kept
      exact kept
    · exact .refl s
  · exact .refl s

theorem request_keepsNext {owner : State → State × Answer} (kind : Byte) (keeps : OwnerKeepsOutputs owner) (s : State) :
    KeepsNext s (request kind owner s) :=
  receiveFrame_keepsNext (addressed_keepsOutputs kind keeps) s

theorem requestTo_keepsNext {owner : State → State × Answer} (dest : Dest) (kind : Byte)
    (keeps : OwnerKeepsOutputs owner) (s : State) : KeepsNext s (requestTo dest kind owner s) := by
  cases dest
  · exact request_keepsNext kind keeps s
  · exact receiveFrame_keepsNext (allCall_keepsOutputs kind keeps) s

end Sys2Proof.Machine
end

section
/-! Every command and every tick keeps the laws of the outputs (O5), and the laws at reset (O9). -/

namespace Sys2Proof.Machine

variable {calm : Prop}

/-! ### The owners of the messages -/

@[simp] theorem answer_plant (s : State) (r : ResultCode) : (s.answer r).1.plant = s.plant := rfl
@[simp] theorem okBytes_plant (s : State) (l : List Byte) : (s.okBytes l).1.plant = s.plant := rfl

@[simp] theorem ite_owner_plant (c : Prop) [Decidable c] (x y : State × Answer) :
    (if c then x else y).1.plant = if c then x.1.plant else y.1.plant :=
  apply_ite (fun r : State × Answer => r.1.plant) c x y

@[simp] theorem secondPasses_plant (s : State) : (secondPasses s).plant = s.plant := by
  unfold secondPasses
  split
  · rfl
  · simp only [ite_plant, modLine_plant, dayRollover_plant, ite_self]

@[simp] theorem setClock_plant (t : Stamp) (s : State) : (setClock t s).plant = s.plant := by
  unfold setClock
  simp only
  split
  · simp only [ite_plant, modLine_plant, dayRollover_plant, ite_self]
  · rfl

@[simp] theorem clockSetOwner_plant (body : List Byte) (s : State) : (clockSetOwner body s).1.plant = s.plant := by
  simp only [clockSetOwner, ite_owner_plant, answer_plant, setClock_plant, ite_self]

/-- A status message reads (R177). -/
theorem unitStatus_plant {n : Nat} (body : List Byte) (report : Fin n → State → ReplyBody) (s : State) :
    (unitStatus n body report s).1.plant = s.plant := by
  unfold unitStatus
  split
  · split <;> rfl
  · rfl

@[simp] theorem setupOpenOwner_plant (s : State) : (setupOpenOwner s).1.plant = s.plant := by
  unfold setupOpenOwner
  split <;> rfl

@[simp] theorem configPutOwner_plant (body : List Byte) (s : State) : (configPutOwner body s).1.plant = s.plant := by
  unfold configPutOwner
  split
  · rfl
  · split
    · split <;> rfl
    · rfl

@[simp] theorem configReadOwner_plant (body : List Byte) (s : State) :
    (configReadOwner body s).1.plant = s.plant := by
  have read : (match readCopy s with
      | none => s.answer .notFound
      | some c => match c.record (fld body 0 1) (fld body 1 1) with
        | some r => s.okBytes r.bytes
        | none => s.answer .format).1.plant = s.plant := by
    split
    · rfl
    · split <;> rfl
  unfold configReadOwner
  simp only [ite_owner_plant, answer_plant, okBytes_plant, ite_self]
  split
  · rfl
  · split
    · rfl
    · split
      · rfl
      · exact read

@[simp] theorem permitPutOwner_plant (body : List Byte) (s : State) : (permitPutOwner body s).1.plant = s.plant := by
  unfold permitPutOwner
  split
  · rfl
  · split
    · rfl
    · split <;> rfl

@[simp] theorem permitReadOwner_plant (body : List Byte) (s : State) :
    (permitReadOwner body s).1.plant = s.plant := by
  unfold permitReadOwner
  split
  · split <;> rfl
  · rfl

/-- A message that names a permit number leaves the plant where its owner does. -/
theorem namedPermit_plant (body : List Byte) (owner : Nat → State → State × Answer)
    (same : ∀ n s, (owner n s).1.plant = s.plant) (s : State) : (namedPermit body owner s).1.plant = s.plant := by
  unfold namedPermit
  split
  · exact same _ s
  · rfl

@[simp] theorem setPermitState_plant (next : PermitState) (n : Nat) (s : State) :
    (setPermitState next n s).1.plant = s.plant := by
  unfold setPermitState
  split
  · rfl
  · split <;> rfl

@[simp] theorem permitRemoveOwner_plant (n : Nat) (s : State) : (permitRemoveOwner n s).1.plant = s.plant := by
  unfold permitRemoveOwner
  split
  · rfl
  · split <;> rfl

@[simp] theorem quotaSetOwner_plant (body : List Byte) (s : State) : (quotaSetOwner body s).1.plant = s.plant := by
  unfold quotaSetOwner
  split
  · split
    · rfl
    · split <;> rfl
  · rfl

@[simp] theorem orderPutOwner_plant (body : List Byte) (s : State) : (orderPutOwner body s).1.plant = s.plant := by
  unfold orderPutOwner
  split
  · rfl
  · split <;> rfl

@[simp] theorem orderReply_plant (s : State) (o : Option Order) : (orderReply s o).1.plant = s.plant := by
  cases o <;> rfl

@[simp] theorem orderReadOwner_plant (body : List Byte) (s : State) : (orderReadOwner body s).1.plant = s.plant := by
  unfold orderReadOwner
  simp only [ite_owner_plant, answer_plant, okBytes_plant, orderReply_plant, ite_self]
  split
  · rfl
  · split
    · split
      · exact orderReply_plant ..
      · rfl
    · rfl

@[simp] theorem orderCancelOwner_plant (body : List Byte) (s : State) :
    (orderCancelOwner body s).1.plant = s.plant := by
  unfold orderCancelOwner
  split
  · split
    · rfl
    · split
      · rfl
      · split <;> rfl
  · rfl

@[simp] theorem noteReadOwner_plant (body : List Byte) (s : State) : (noteReadOwner body s).1.plant = s.plant := by
  unfold noteReadOwner
  split
  · rfl
  · split <;> rfl

@[simp] theorem noteReleaseOwner_plant (body : List Byte) (s : State) :
    (noteReleaseOwner body s).1.plant = s.plant := by
  unfold noteReleaseOwner
  split
  · rfl
  · split <;> rfl

@[simp] theorem sessionEndOwner_plant (body : List Byte) (s : State) :
    (sessionEndOwner body s).1.plant = s.plant := by
  unfold sessionEndOwner
  split
  · simp only [ite_owner_plant, answer_plant, endSession_plant, ite_self]
  · rfl

theorem setupAbandonOwner_keepsOutputs : OwnerKeepsOutputs setupAbandonOwner := by
  intro s
  unfold setupAbandonOwner
  simp only
  split
  · refine .trans (.trans ?_ (keeps_examineTrips _)) (.of_plant (answer_plant ..))
    exact keeps_setMode .run fun _ rest => rest
  · exact .refl s

theorem setupCloseOwner_keepsOutputs (body : List Byte) : OwnerKeepsOutputs (setupCloseOwner body) := by
  intro s
  unfold setupCloseOwner
  simp only
  split
  · exact .refl s
  · split
    · split
      · exact .refl s
      · split
        · exact (keeps_commit _ _ s).trans (.of_plant (answer_plant ..))
        · exact .refl s
    · exact .refl s

theorem clearOwner_keepsOutputs (body : List Byte) : OwnerKeepsOutputs (clearOwner body) := by
  intro s
  unfold clearOwner
  simp only
  cases parseClear body with
  | none => exact .refl s
  | some x =>
    simp only [apply_ite Prod.fst]
    refine KeepsLaws.ite (.refl s) ?_
    exact (keeps_clearAll _ s).trans (.of_plant (okBytes_plant ..))

theorem tripRequestOwner_keepsOutputs : OwnerKeepsOutputs tripRequestOwner := by
  intro s
  unfold tripRequestOwner
  simp only
  split
  · exact (keeps_startTrip .host s).trans (.of_plant (answer_plant ..))
  · exact .refl s
  · exact .refl s
  · exact .refl s

theorem keeps_returnToRun (s : State) : KeepsLaws (s.mode ≠ .run) s (setMode .run s) := keeps_setMode .run fun _ rest => rest

theorem tripClearOwner_keepsOutputs : OwnerKeepsOutputs tripClearOwner := by
  intro s
  unfold tripClearOwner
  simp only
  split
  · exact .refl s
  · exact .refl s
  · split
    · exact .refl s
    · exact (keeps_returnToRun s).trans (.of_plant (answer_plant ..))
  · exact .refl s

/-! ### The remaining operations -/

theorem setupOpenFrame_keepsOutputs (body : List Byte) : KeepsOutputs fun s =>
    if s.mode = .run ∧ body = [] then setupQuery s else addressed 0x20 (noBody body setupOpenOwner) s := by
  intro s
  simp only
  split
  · exact .of_plant rfl
  · exact addressed_keepsOutputs _ (noBody_keepsOutputs body (keepsOutputs_of_plant setupOpenOwner_plant)) s

theorem replyGone_keepsOutputs : KeepsOutputs replyGone := by
  intro s
  unfold replyGone
  split
  · split
    · exact keeps_beginStartUp .restart s
    · exact .of_plant rfl
  · exact .refl s

theorem rackResetAt_keepsOutputs : KeepsOutputs rackResetAt := by
  intro s
  refine .trans (keeps_clearAll allInsts s) ?_
  unfold rackResetAt tripClearInTripped
  simp only
  split
  · split
    · exact .refl _
    · exact keeps_setMode .run fun _ rest => rest
  · exact .refl _

theorem keeps_switchChanged (a : ArmNo) (s : State) : KeepsLaws calm s (switchChanged a s) := by
  unfold switchChanged
  split
  · simp only
    split
    · exact (keeps_compareSwitches a s).trans (keeps_push _ _)
    · exact keeps_push _ _
  · exact .refl s

theorem keeps_travelAt (a : ArmNo) (s : State) : KeepsLaws calm s (travelAt a s) := by
  have ended : KeepsLaws calm s (s.modArm a fun x => { x with travel := none }) :=
    keeps_modArm s a (fun _ => rfl) (fun _ => rfl) fun _ => rfl
  unfold travelAt
  split
  · simp only
    split
    · exact ended.trans (keeps_compareSwitches a _)
    · exact ended
  · exact .refl s

theorem keeps_quietAt (a : ArmNo) (s : State) : KeepsLaws calm s (quietAt a s) := by
  unfold quietAt
  split
  · refine .trans ?_ (keeps_push _ _)
    exact keeps_modArm s a (fun _ => rfl) (fun _ => rfl) fun _ => rfl
  · exact .refl s

theorem keeps_noFlowAt (a : ArmNo) (s : State) : KeepsLaws calm s (noFlowAt a s) := by
  unfold noFlowAt
  simp only
  split
  · refine .trans ?_ (keeps_setNoFlowCond a true _)
    exact keeps_modArm s a (fun _ => rfl) (fun _ => rfl) fun _ => rfl
  · exact .refl s

theorem keeps_completionDue (a : ArmNo) (s : State) : KeepsLaws calm s (completionDue a s) := by
  unfold completionDue
  split
  · exact keeps_testArm a s
  · split
    · split
      · exact keeps_finishArm a s
      · exact .refl s
    · exact .refl s
  · exact .refl s

theorem keeps_additivePulse (i : InjNo) (s : State) : KeepsLaws calm s (additivePulse i s) := by
  unfold additivePulse
  split
  · refine .trans ?_ (keeps_additivePulseAt i _)
    exact keeps_modInj s i fun _ still => still
  · exact .refl s

/-! ### Pins, edges and readings -/

@[simp] theorem setPulsePin_plant (p : PulsePin) (level : Bool) (s : State) :
    (setPulsePin p level s).plant = s.plant := by
  unfold setPulsePin
  split <;> rfl

@[simp] theorem setSwitch_plant (a : ArmNo) (w : ValveSwitch) (level : Bool) (s : State) :
    (setSwitch a w level s).plant = s.plant := by
  cases w <;> rfl

@[simp] theorem setPermitPin_plant (b : BayNo) (k : PermitInput) (level : Bool) (s : State) :
    (setPermitPin b k level s).plant = s.plant := by
  cases k <;> rfl

@[simp] theorem setDeadmanPin_plant (b : BayNo) (level : Bool) (s : State) :
    (setDeadmanPin b level s).plant = s.plant := rfl
@[simp] theorem setEstopPin_plant (level : Bool) (s : State) : (setEstopPin level s).plant = s.plant := rfl
@[simp] theorem setResetPin_plant (level : Bool) (s : State) : (setResetPin level s).plant = s.plant := rfl

@[simp] theorem raiseMeterPulse_plant (a : ArmNo) (raised : Bool) (s : State) :
    (raiseMeterPulse a raised s).plant = s.plant := by
  unfold raiseMeterPulse
  split <;> rfl

theorem keeps_pulseArrival (a : ArmNo) (s : State) : KeepsLaws calm s (pulseArrival a s) := by
  have quiet : KeepsLaws calm s (s.modArm a fun x => { x with quiet := 0 }) :=
    keeps_modArm s a (fun _ => rfl) (fun _ => rfl) fun _ => rfl
  unfold pulseArrival
  simp only
  split
  · exact (quiet.trans (keeps_startNoFlow a _)).trans (keeps_setNoFlowCond a false _)
  · exact quiet

theorem keeps_risingEdge (a : ArmNo) (ch : Channel) (s : State) : KeepsLaws calm s (risingEdge a ch s) := by
  unfold risingEdge
  simp only
  split
  · cases ch with
    | a =>
      refine .trans (.of_plant ?_) (keeps_pulseArrival a _)
      simp only [ite_plant, raiseMeterPulse_plant, modPulse_plant, ite_self]
    | b =>
      refine .of_plant ?_
      simp only [ite_plant, raiseMeterPulse_plant, modPulse_plant, ite_self]
  · exact .refl s

theorem keeps_fallingEdge (p : PulsePin) (s : State) : KeepsLaws calm s (fallingEdge p s) := by
  unfold fallingEdge
  split
  · split <;> exact .of_plant rfl
  · split
    · exact keeps_modInj s _ fun _ still => still
    · exact .refl s

theorem keeps_followPin (p : PulsePin) (level : Bool) (s : State) : KeepsLaws calm s (followPin p level s) := by
  unfold followPin
  split
  · simp only
    split <;> exact .of_plant rfl
  · split
    · exact keeps_modInj s _ fun _ still => still
    · exact .refl s

@[simp] theorem recordArrival_plant (a : ArmNo) (r : ReadingRecord) (s : State) :
    (recordArrival a r s).plant = s.plant := by
  simp only [recordArrival, ite_plant, setProbeFault_plant, modTemp_plant, ite_self]

@[simp] theorem recordTimerAt_plant (a : ArmNo) (s : State) : (recordTimerAt a s).plant = s.plant := by
  simp only [recordTimerAt, ite_plant, setProbeFault_plant, modTemp_plant, ite_self]

/-! ### Bay events -/

@[simp] theorem permitChanged_plant (b : BayNo) (k : PermitInput) (s : State) :
    (permitChanged b k s).plant = s.plant := by
  simp only [permitChanged, reportPermissives_plant, ite_plant, activity_plant, ite_self]

@[simp] theorem judgePress_plant (b : BayNo) (s : State) : (judgePress b s).plant = s.plant := by
  unfold judgePress
  split
  · rfl
  · simp only [ite_plant, deadmanViolation_plant, restartDeadman_plant, modBay_plant, ite_self]

@[simp] theorem windowOpensAt_plant (b : BayNo) (s : State) : (windowOpensAt b s).plant = s.plant := rfl

@[simp] theorem deadmanLateAt_plant (b : BayNo) (s : State) : (deadmanLateAt b s).plant = s.plant := by
  unfold deadmanLateAt
  split
  · rfl
  · simp only [deadmanViolation_plant, restartDeadman_plant]

@[simp] theorem attentionAt_plant (b : BayNo) (s : State) : (attentionAt b s).plant = s.plant := by
  simp only [attentionAt, ite_plant, sendShow_plant, modBay_plant, ite_self]

@[simp] theorem abandonAt_plant (b : BayNo) (s : State) : (abandonAt b s).plant = s.plant := by
  simp only [abandonAt, ite_plant, endSession_plant, ite_self]

/-- A key record is an activity event before it is judged (R122). -/
theorem withKey_keepsOutputs {f : State → State} (b : BayNo) (keeps : KeepsOutputs f) : KeepsOutputs (withKey b f) :=
  keeps.comp (activity_plant b .key)

@[simp] theorem setReceiver_plant (r : Receiver) (s : State) : (setReceiver r s).plant = s.plant := rfl

@[simp] theorem discardFrame_plant (bytes : List Byte) (s : State) : (discardFrame bytes s).plant = s.plant := by
  simp only [discardFrame, ite_plant, setReceiver_plant, ite_self]

@[simp] theorem linkTimeoutAt_plant (s : State) : (linkTimeoutAt s).plant = s.plant := by
  simp only [linkTimeoutAt, ite_plant, modLine_plant, ite_self]

/-! ### Commands -/

theorem exec_keepsNext (c : Instr) (s : State) : KeepsNext s (exec c s) := by
  cases c with
  | powerUp => exact keepsNext_next (keeps_beginStartUp .power s)
  | startUp damaged =>
    have fresh : KeepsLaws (s.mode ≠ .run) s s.fresh := .of_plant rfl
    refine keepsNext_next ?_
    split
    · exact fresh.trans (keeps_runStartUp _ damaged _)
    · exact fresh
  | acceptedRisingEdge arm channel =>
    exact inService_keepsNext (.comp (f := risingEdge arm channel) (fun t => keeps_risingEdge arm channel t)
      (setPulsePin_plant _ _)) s
  | acceptedFallingEdge pin =>
    exact inService_keepsNext (.comp (f := fallingEdge pin) (fun t => keeps_fallingEdge pin t)
      (setPulsePin_plant _ _)) s
  | pulsePinChange pin level =>
    exact onPin_keepsNext (setPulsePin_plant pin level) (fun t => keeps_followPin pin level t) s
  | readingRecord arm record =>
    cases record with
    | none => exact inService_keepsNext (keepsOutputs_of_plant fun _ => rfl) s
    | some r => exact inService_keepsNext (keepsOutputs_of_plant (recordArrival_plant arm r)) s
  | recordTimerExpiry arm =>
    exact inService_keepsNext (keepsOutputs_of_plant (recordTimerAt_plant arm)) s
  | intervalExpiry arm => 
    show KeepsNext s (inService (fun t => interval t.cfg arm t) s)
    exact inService_keepsNext (fun t => (steady_interval t.cfg arm t).keeps) s
  | valveSwitchChange arm switch level =>
    exact onPin_keepsNext (setSwitch_plant arm switch level)
      (fun t => keeps_switchChanged arm t) s
  | travelAllowanceExpiry arm =>
    exact inService_keepsNext (fun t => keeps_travelAt arm t) s
  | quietTimerExpiry arm =>
    exact inService_keepsNext (fun t => keeps_quietAt arm t) s
  | closingLimitExpiry arm =>
    exact inService_keepsNext (fun t => keeps_closingLimitAt arm t) s
  | noFlowTimerExpiry arm =>
    exact inService_keepsNext (fun t => keeps_noFlowAt arm t) s
  | compartmentCompletion arm =>
    exact inService_keepsNext (fun t => keeps_completionDue arm t) s
  | pumpStartDelayReached arm =>
    exact inService_keepsNext (fun t => keeps_startDelayReached arm t) s
  | stopDelayExpiry pump =>
    exact inService_keepsNext (fun t => keeps_stopDelayAt pump t) s
  | additivePulse inj =>
    exact inService_keepsNext (.comp (f := additivePulse inj) (fun t => keeps_additivePulse inj t)
      (g := fun t => { t with pins := { t.pins with additive := vset t.pins.additive inj true } }) fun _ => rfl) s
  | shotTimeLimit inj =>
    exact inService_keepsNext (fun t => keeps_endShot inj .shortfall t) s
  | settleTimeExpiry inj =>
    exact inService_keepsNext (fun t => keeps_finishShot inj t) s
  | bayPermitChange bay permit level =>
    refine onPin_keepsNext (setPermitPin_plant bay permit level) (keepsOutputs_of_plant fun u => ?_) s
    split
    · rfl
    · exact permitChanged_plant bay permit u
  | deadmanPress bay held =>
    exact onPin_keepsNext (setDeadmanPin_plant bay held)
      (keepsOutputs_of_plant fun t => (judgePress_plant bay _).trans (activity_plant bay .deadman t)) s
  | deadmanWindowOpens bay => exact inService_keepsNext (keepsOutputs_of_plant (windowOpensAt_plant bay)) s
  | deadmanLate bay => exact inService_keepsNext (keepsOutputs_of_plant (deadmanLateAt_plant bay)) s
  | attentionTimerExpiry bay =>
    exact inService_keepsNext (keepsOutputs_of_plant (attentionAt_plant bay)) s
  | abandonTimerExpiry bay =>
    exact inService_keepsNext (keepsOutputs_of_plant (abandonAt_plant bay)) s
  | noteFiling bay => exact inService_keepsNext (keepsOutputs_of_plant (filingTest_plant bay)) s
  | card bay token => exact inService_keepsNext (keepsOutputs_of_plant (cardAt_plant bay token)) s
  | select bay comp arm =>
    exact inService_keepsNext
      (withKey_keepsOutputs bay (fun t => keeps_selectKey bay comp arm t)) s
  | start bay arm =>
    exact inService_keepsNext (withKey_keepsOutputs bay (fun t => keeps_startKey bay arm t)) s
  | resume bay arm =>
    exact inService_keepsNext (withKey_keepsOutputs bay (fun t => keeps_resumeKey bay arm t)) s
  | stop bay arm =>
    exact inService_keepsNext
      (withKey_keepsOutputs bay (fun t => keeps_stopKey bay arm t)) s
  | finish bay arm =>
    exact inService_keepsNext
      (withKey_keepsOutputs bay (fun t => keeps_finishKey bay arm t)) s
  | endKey bay =>
    exact inService_keepsNext
      (withKey_keepsOutputs bay (keepsOutputs_of_plant (endKeyAt_plant bay))) s
  | resetKey bay =>
    exact inService_keepsNext
      (withKey_keepsOutputs bay (fun t => keeps_resetKeyAt bay t)) s
  | malformedRecord bay bytes => exact keepsNext_next (.of_plant rfl)
  | estopInputChange level =>
    exact onPin_keepsNext (setEstopPin_plant level)
      (keepsOutputs_of_plant fun t => push_plant t (.condition .estop (!level))) s
  | rackReset held =>
    exact onPin_keepsNext (setResetPin_plant held)
      rackResetAt_keepsOutputs s
  | filterTimerExpiry inst =>
    exact inService_keepsNext (fun t => keeps_filterExpiry inst t) s
  | tripDelayExpiry => exact inService_keepsNext (fun t => keeps_secondStage t) s
  | setupTimerExpiry => exact inService_keepsNext (fun t => keeps_setupTimerAt t) s
  | setupOpenDecision => exact inService_keepsNext (fun t => keeps_decideSetupOpen t) s
  | linkTimeout =>
    exact inService_keepsNext (keepsOutputs_of_plant linkTimeoutAt_plant) s
  | clockSecond =>
    refine keepsNext_next ?_
    split
    · exact .refl s
    · exact .of_plant (secondPasses_plant s.fresh)
    · exact .trans (.of_plant (secondPasses_plant s.fresh)) (keeps_settleCommand _)
  | interByteGap =>
    exact onReceiver_keepsNext (keepsOutputs_of_plant fun s => by simp only [ite_plant, setReceiver_plant, ite_self]) s
  | lineIdle => exact onReceiver_keepsNext (keepsOutputs_of_plant fun s => by simp only [ite_plant, setReceiver_plant, ite_self]) s
  | frameDiscarded bytes =>
    exact onReceiver_keepsNext (keepsOutputs_of_plant (discardFrame_plant bytes)) s
  | replyComplete => exact onReceiver_keepsNext replyGone_keepsOutputs s
  | unknownKind kind body =>
    simp only [exec, execUnknownKind]
    split
    · exact onReceiver_keepsNext (keepsOutputs_of_plant fun s => by simp only [ite_plant, setReceiver_plant, ite_self]) s
    · exact receiveFrame_keepsNext (keepsOutputs_of_plant fun s => sendReply_plant kind _ s) s
  | rackStatus body => exact request_keepsNext _ (noBody_keepsOutputs body (keepsOutputs_of_plant fun _ => rfl)) s
  | bayStatus body => exact request_keepsNext _ (keepsOutputs_of_plant (unitStatus_plant body _)) s
  | armStatus body => exact request_keepsNext _ (keepsOutputs_of_plant (unitStatus_plant body _)) s
  | injectorStatus body => exact request_keepsNext _ (keepsOutputs_of_plant (unitStatus_plant body _)) s
  | supervisionList body => exact request_keepsNext _ (noBody_keepsOutputs body (keepsOutputs_of_plant fun _ => rfl)) s
  | totaliserRead body => exact request_keepsNext _ (noBody_keepsOutputs body (keepsOutputs_of_plant fun _ => rfl)) s
  | clockSet dest body =>
    exact requestTo_keepsNext dest _ (keepsOutputs_of_plant (clockSetOwner_plant body)) s
  | setupOpen body => exact receiveFrame_keepsNext (setupOpenFrame_keepsOutputs body) s
  | configPut body => exact request_keepsNext _ (keepsOutputs_of_plant (configPutOwner_plant body)) s
  | configRead body => exact request_keepsNext _ (keepsOutputs_of_plant (configReadOwner_plant body)) s
  | setupClose body => exact request_keepsNext _ (setupCloseOwner_keepsOutputs body) s
  | setupAbandon body =>
    exact request_keepsNext _
      (noBody_keepsOutputs body setupAbandonOwner_keepsOutputs) s
  | permitPut body => exact request_keepsNext _ (keepsOutputs_of_plant (permitPutOwner_plant body)) s
  | permitRead body => exact request_keepsNext _ (keepsOutputs_of_plant (permitReadOwner_plant body)) s
  | permitSuspend body =>
    exact request_keepsNext _
      (keepsOutputs_of_plant (namedPermit_plant body _ (setPermitState_plant .suspended))) s
  | permitReinstate body =>
    exact request_keepsNext _
      (keepsOutputs_of_plant (namedPermit_plant body _ (setPermitState_plant .active))) s
  | permitRemove body =>
    exact request_keepsNext _
      (keepsOutputs_of_plant (namedPermit_plant body _ permitRemoveOwner_plant)) s
  | quotaSet body => exact request_keepsNext _ (keepsOutputs_of_plant (quotaSetOwner_plant body)) s
  | orderPut body => exact request_keepsNext _ (keepsOutputs_of_plant (orderPutOwner_plant body)) s
  | orderRead body => exact request_keepsNext _ (keepsOutputs_of_plant (orderReadOwner_plant body)) s
  | orderCancel body =>
    exact request_keepsNext _ (keepsOutputs_of_plant (orderCancelOwner_plant body)) s
  | sessionEnd body => exact request_keepsNext _ (keepsOutputs_of_plant (sessionEndOwner_plant body)) s
  | noteIndex body =>
    exact request_keepsNext _
      (noBody_keepsOutputs body (keepsOutputs_of_plant fun _ => rfl)) s
  | noteRead body => exact request_keepsNext _ (keepsOutputs_of_plant (noteReadOwner_plant body)) s
  | noteRelease body =>
    exact request_keepsNext _ (keepsOutputs_of_plant (noteReleaseOwner_plant body)) s
  | supervisionClear body =>
    exact request_keepsNext _ (clearOwner_keepsOutputs body) s
  | tripRequest dest body =>
    exact requestTo_keepsNext dest _
      (noBody_keepsOutputs body tripRequestOwner_keepsOutputs) s
  | tripClear body =>
    exact request_keepsNext _
      (noBody_keepsOutputs body tripClearOwner_keepsOutputs) s
  | restart body =>
    exact request_keepsNext _
      (noBody_keepsOutputs body (keepsOutputs_of_plant fun _ => rfl)) s
  | powerLoss lost => exact keepsNext_next (keeps_losePower lost s)
  | startByte => exact onReceiver_keepsNext (keepsOutputs_of_plant fun s => by simp only [ite_plant, setReceiver_plant, ite_self]) s
  | lengthAbove1024 =>
    exact onReceiver_keepsNext (keepsOutputs_of_plant fun s => by simp only [ite_plant, setReceiver_plant, ite_self]) s

/-! ### The tick -/

/-- The timers advance, and no output hangs on a timer. -/
theorem keeps_advance (s : State) : KeepsLaws calm s (advance s) := by
  have arm (a : ArmNo) : (advance s).arms[a] = s.arms[a].tick := by simp [advance, vmap_get]
  have pump (p : PumpNo) : (advance s).pumps[p] = s.pumps[p].tick := by simp [advance, vmap_get]
  have inj (i : InjNo) : (advance s).injectors[i] = s.injectors[i].tick := by simp [advance, vmap_get]
  refine ⟨fun safe still => ?_, fun follow a => ?_, fun _ rest i => ?_⟩
  · obtain ⟨stages, pumps, relay⟩ := safe still
    refine ⟨fun a => ?_, fun p => ?_, relay⟩
    · unfold stageS1 stageS2
      rw [arm a]
      exact stages a
    · unfold pumpRun
      rw [pump p]
      exact pumps p
  · rw [arm a]
    exact follow a
  · unfold solenoid
    rw [inj i]
    exact rest i

theorem keeps_performDue (l : List Instr) (s t : State) (performed : performDue exec l s = .next t) :
    KeepsLaws False s t := by
  induction l generalizing s with
  | nil =>
    cases performed
    exact .refl _
  | cons c rest ih =>
    unfold performDue at performed
    split at performed
    · split at performed
      · next u ran =>
        have command : KeepsLaws False s u := (exec_keepsNext c s u ran).mono False.elim
        have kept : KeepsLaws False u (keepEarlier s u) := .of_plant rfl
        exact (command.trans kept).trans (ih _ performed)
      · exact nomatch performed
      · exact nomatch performed
    · exact ih s performed

theorem keeps_tick (s t : State) (ticked : tick exec s = .next t) : KeepsLaws False s t := by
  unfold tick at ticked
  split at ticked
  · have advanced : KeepsLaws False s (advance s.fresh) := .trans (.of_plant (fresh_plant s)) (keeps_advance _)
    exact advanced.trans (keeps_performDue _ _ t ticked)
  · exact (exec_keepsNext (.startUp []) s t ticked).mono False.elim
  · cases ticked
    exact .refl s

theorem keeps_step (s t : State) (stepped : step s = .next t) : KeepsLaws False s t := by
  unfold step at stepped
  split at stepped
  · exact keeps_tick s t stepped
  · next c rest _ =>
    have queued : KeepsLaws False s { s with pending := rest } := .of_plant rfl
    exact queued.trans ((exec_keepsNext c _ t stepped).mono False.elim)

/-! ### O5 and O9 -/

/-- Settles O5: every operation carries the three laws over, that of the solenoids outside RUN; a change of mode
establishes the first two. -/
theorem outOfServiceStaysSafe : Obligations.OutOfServiceStaysSafe :=
  ⟨fun s t safe stepped => (keeps_step s t stepped).safe safe,
    fun s t follow stepped => (keeps_step s t stepped).follow follow,
    fun c s t calm rest ran => (exec_keepsNext c s t ran).rest calm rest, reset_follow, reset_atRest⟩

theorem reset_pulsesBounded : PulsesBounded State.reset := blankVolatile_bounded State.reset

theorem reset_permitsLawful : PermitsLawful State.reset :=
  ⟨⟨List.nodup_nil, List.nodup_nil, Nat.zero_le _⟩, fun _ held => absurd held (Option.some_ne_none _).symm,
    fun _ none => absurd none List.not_mem_nil⟩

theorem reset_queuesBounded : QueuesBounded State.reset := fun i => by
  rw [(reset_atRest i).2]
  exact Nat.zero_le _

/-- Settles O9: nothing is commanded or running, no count is above 0, and the table and the queues are empty. -/
theorem invariantsHoldAtReset : Obligations.InvariantsHoldAtReset :=
  ⟨reset_safe, reset_pulsesBounded, reset_permitsLawful, reset_queuesBounded⟩

end Sys2Proof.Machine
end

section
/-! A completion (R35 to R37, R55 to R57, R79), said once: what it makes of the compartment, the arm and the notices, and what it
leaves alone. With it the settled test, the closing limit and the completion command (O25 to O27). -/

namespace Sys2Proof.Machine

/-! ### What a completion makes -/

/-- The overrun that a completion finds (R57). -/
def overranAt (a : ArmNo) (oc : OnArm) (r : CompRec) (s : State) : Bool :=
  overrunNow (s.armCfg a) oc.preset oc.basis r

/-- The result that a completion writes (R35, R36). -/
def resultAt (a : ArmNo) (oc : OnArm) (r : CompRec) (s : State) : CompResult :=
  compResult r.acc s.meters[a].totaliser (tempValue s a) (r.overrun || overranAt a oc r s) r.valveNotConfirmed

/-- A compartment record closed with a result (R55, R79). -/
def CompRec.closedWith (r : CompRec) (reason : EndReason) (overran : Bool) (x : CompResult) : CompRec :=
  { (r.modLines AdditiveLine.close) with
      overrun := r.overrun || overran, result := some x, endReason := some reason, state := .complete }

/-- The close-ahead after a completion: taught by one as PRESET whose valve was confirmed (R56). -/
def closeAheadAt (a : ArmNo) (reason : EndReason) (oc : OnArm) (r : CompRec) (s : State) : Nat :=
  if reason = .preset ∧ r.valveNotConfirmed = false then
    learn s.arms[a].closeAhead (s.armCfg a).closeAheadMax ((resultAt a oc r s).deliveredOn oc.basis) oc.preset
  else s.arms[a].closeAhead

/-- `s` with what a completion changes taken from `t`. -/
def armBayFrom (s t : State) : State := { s with arms := t.arms, bays := t.bays, inbox := t.inbox }

theorem armBayFrom_trans {s t u : State} (first : t = armBayFrom s t) (second : u = armBayFrom t u) :
    u = armBayFrom s u :=
  calc u
    _ = armBayFrom t u := second
    _ = armBayFrom (armBayFrom s t) u := congrArg (armBayFrom · u) first
    _ = armBayFrom s u := rfl

/-- What the completion of the compartment `r` on arm `a` makes of `s`. -/
structure Completes (a : ArmNo) (reason : EndReason) (oc : OnArm) (r : CompRec) (s t : State) : Prop where
  record : t.compRec oc.bay oc.comp = some (r.closedWith reason (overranAt a oc r s) (resultAt a oc r s))
  state : t.arms[a].state = .idle
  command : t.arms[a].command = .close
  comp : t.arms[a].comp = none
  outstanding : t.arms[a].outstanding = 0
  closingLimit : t.arms[a].closingLimit = none
  closeAhead : t.arms[a].closeAhead = closeAheadAt a reason oc r s
  handed : .completed oc.bay oc.comp ∈ t.inbox
  told : .armChanged a ∈ t.inbox
  others : OtherArmsSame a s t
  bays : ∀ x : BayNo, x ≠ oc.bay → t.bays[x] = s.bays[x]
  prompts : ∀ x : BayNo, t.bays[x].lastPrompt = s.bays[x].lastPrompt
  frame : t = armBayFrom s t

/-- The bay after the result has been written. -/
def resultWritten (a : ArmNo) (reason : EndReason) (oc : OnArm) (r : CompRec) (s : State) : State :=
  s.modComp oc.bay oc.comp fun x => x.closedWith reason (overranAt a oc r s) (resultAt a oc r s)

/-- The arm emptied, before it is IDLE (R55, R56). -/
def armEmptied (a : ArmNo) (reason : EndReason) (oc : OnArm) (r : CompRec) (s : State) : State :=
  (resultWritten a reason oc r s).modArm a fun x =>
    { x with comp := none, outstanding := 0, closingLimit := none
             closeAhead := if reason = .preset ∧ r.valveNotConfirmed = false then
                 learn x.closeAhead (s.armCfg a).closeAheadMax ((resultAt a oc r s).deliveredOn oc.basis) oc.preset
               else x.closeAhead }

/-- The arm in IDLE, before its command follows. -/
def armIdled (a : ArmNo) (reason : EndReason) (oc : OnArm) (r : CompRec) (s : State) : State :=
  (armEmptied a reason oc r s).modArm a fun x => { x with state := .idle }

theorem completeArm_eq {a : ArmNo} {reason : EndReason} {oc : OnArm} {r : CompRec} {s : State}
    (onArm : s.arms[a].comp = some oc) (found : s.compRec oc.bay oc.comp = some r) :
    completeArm a reason s = (refreshCommand a (armIdled a reason oc r s)).pushFirst
      ((if overranAt a oc r s then [.event (.overrun a)] else []) ++ [.completed oc.bay oc.comp, .armChanged a]) := by
  have record : s.armComp a = some r := (armComp_of_onArm onArm).trans found
  simp only [completeArm, onArm, record, modArmComp_of_onArm onArm]
  rfl

section Completion

variable (a : ArmNo) (reason : EndReason) (oc : OnArm) (r : CompRec) (s : State)

theorem armOnly_pushFirst (l : List Notice) : ArmOnly a s (s.pushFirst l) := ⟨rfl, fun _ _ => rfl⟩

theorem armIdled_arm :
    (armIdled a reason oc r s).arms[a] = { s.arms[a] with
      state := .idle, comp := none, outstanding := 0, closingLimit := none
      closeAhead := closeAheadAt a reason oc r s } := by
  simp only [armIdled, armEmptied, modArm_arms, Fin.getElem_fin, vmod_self]
  rfl

theorem completed_armOnly (l : List Notice) :
    ArmOnly a (resultWritten a reason oc r s) ((refreshCommand a (armIdled a reason oc r s)).pushFirst l) :=
  ((armOnly_modArm ..).trans (armOnly_modArm ..)).trans ((armOnly_refreshCommand ..).trans (armOnly_pushFirst ..))

end Completion

/-- A completion of a compartment that the arm carries. -/
theorem completeArm_completes {a : ArmNo} (reason : EndReason) {oc : OnArm} {r : CompRec} {s : State}
    (onArm : s.arms[a].comp = some oc) (found : s.compRec oc.bay oc.comp = some r) :
    Completes a reason oc r s (completeArm a reason s) := by
  rw [completeArm_eq onArm found]
  obtain ⟨state, comp, -, outstanding, closingLimit, closeAhead, -⟩ :=
    refreshCommand_keeps a a (armIdled a reason oc r s)
  have command := refreshCommand_command a (armIdled a reason oc r s)
  rw [armIdled_arm] at state comp outstanding closingLimit closeAhead command
  obtain ⟨frame, others⟩ := completed_armOnly a reason oc r s
    ((if overranAt a oc r s then [.event (.overrun a)] else []) ++ [.completed oc.bay oc.comp, .armChanged a])
  have bays := congrArg State.bays frame
  have inbox := pushFirst_inbox (refreshCommand a (armIdled a reason oc r s))
    ((if overranAt a oc r s then [.event (.overrun a)] else []) ++ [.completed oc.bay oc.comp, .armChanged a])
  have arms := pushFirst_arms (refreshCommand a (armIdled a reason oc r s))
    ((if overranAt a oc r s then [.event (.overrun a)] else []) ++ [.completed oc.bay oc.comp, .armChanged a])
  generalize State.pushFirst (refreshCommand a (armIdled a reason oc r s)) _ = t at *
  rw [← arms] at state comp outstanding closingLimit closeAhead command
  refine ⟨?_, state, command.trans (commandFor_close _ _ rfl), comp, outstanding, closingLimit, closeAhead, ?_, ?_,
    others, fun x other => ?_, fun x => ?_, ?_⟩
  · have session : t.session oc.bay = (resultWritten a reason oc r s).session oc.bay :=
      congrArg (fun v : Vector Bay 4 => v[oc.bay].session) bays
    rw [compRec_congr session]
    exact compRec_modComp (fun _ => rfl) found
  · rw [inbox]
    exact List.mem_append_left _ (List.mem_append_right _ (.head _))
  · rw [inbox]
    exact List.mem_append_left _ (List.mem_append_right _ (.tail _ (.head _)))
  · rw [bays]
    exact vmod_other _ _ _ _ other
  · rw [bays]
    show (vmod s.bays oc.bay _)[x.val].lastPrompt = _
    rw [vmod_get]
    split <;> rfl
  · calc t
      _ = armsFrom (resultWritten a reason oc r s) t := frame
      _ = armBayFrom s t := by rw [armBayFrom, bays]; rfl

/-! ### A halting arm comes to rest (R50, R52) -/

theorem enterHeld_armOnly (a : ArmNo) (s : State) : ArmOnly a s (enterHeld a s) :=
  (armOnly_modArm ..).trans (armOnly_enterState ..)

theorem enterHeld_arm (a : ArmNo) (s : State) :
    (enterHeld a s).arms[a].state = .held ∧ (enterHeld a s).arms[a].comp = s.arms[a].comp
      ∧ (enterHeld a s).arms[a].closingLimit = none := by
  have stopped : ((s.modArm a fun x => { x with closingLimit := none }).modArm a fun x =>
      { x with state := .held }).arms[a] = { s.arms[a] with state := .held, closingLimit := none } := by
    simp only [modArm_arms, Fin.getElem_fin, vmod_self]
  obtain ⟨-, comp, -, -, closingLimit, -⟩ := refreshCommand_keeps a a
    ((s.modArm a fun x => { x with closingLimit := none }).modArm a fun x => { x with state := .held })
  rw [stopped] at comp closingLimit
  exact ⟨enterState_state a .held _, comp, closingLimit⟩

/-! ### The settled test (R48 to R50, R52) -/

section SettledTest

variable {a : ArmNo} {s : State}

theorem testArm_settled (state : s.arms[a].state = .halting) (settled : valveSettled s a = true) :
    testArm a s = enterHeld a s := by
  simp only [testArm, state, settled, if_true]

theorem testArm_moving (state : s.arms[a].state = .halting) (moving : valveSettled s a = false) : testArm a s = s := by
  simp only [testArm, state, moving, Bool.false_eq_true, if_false]

/-- A closing arm may complete once its valve has settled, or its closing limit has run out, and no shot is outstanding. -/
theorem testArm_closing (state : s.arms[a].state = .closing) :
    testArm a s = if (valveSettled s a = true ∨ hasRunOut s.arms[a].closingLimit = true) ∧ s.arms[a].outstanding = 0
      then completeArm a .preset s else s := by
  simp only [testArm, state, Bool.or_eq_true]

theorem testArm_completes (state : s.arms[a].state = .closing)
    (rests : valveSettled s a = true ∨ hasRunOut s.arms[a].closingLimit = true) (quiet : s.arms[a].outstanding = 0) :
    testArm a s = completeArm a .preset s :=
  (testArm_closing state).trans (if_pos ⟨rests, quiet⟩)

theorem testArm_waits (state : s.arms[a].state = .closing)
    (waits : (valveSettled s a = false ∧ hasRunOut s.arms[a].closingLimit = false) ∨ s.arms[a].outstanding ≠ 0) :
    testArm a s = s := by
  refine (testArm_closing state).trans (if_neg fun ready => ?_)
  rcases waits with ⟨moving, running⟩ | shots
  · simp only [moving, running, Bool.false_eq_true, or_self, false_and] at ready
  · exact shots ready.2

theorem testArm_other (notClosing : s.arms[a].state ≠ .closing) (notHalting : s.arms[a].state ≠ .halting) :
    testArm a s = s := by
  simp only [testArm]

end SettledTest

/-! ### The timers of O25 -/

theorem exec_quietTimerExpiry {s : State} (ready : Ready s) {a : ArmNo} (short : s.arms[a].quiet < 200000) :
    exec (.quietTimerExpiry a) s = .next (settleCommand
      { s.fresh with arms := vmod s.arms a fun x => { x with quiet := 200000 }, inbox := [.testArm a] }) := by
  have timed : quietAt a s.fresh = (s.fresh.modArm a fun x => { x with quiet := 200000 }).push (.testArm a) := if_pos short
  have run : exec (.quietTimerExpiry a) s = .next (settleCommand (quietAt a s.fresh)) :=
    inService_ready (quietAt a) s ready
  have inbox : s.fresh.inbox = [] := ready.2
  rw [run, timed, State.push, modArm_inbox, inbox]
  rfl

theorem exec_noFlowTimerExpiry {s : State} (ready : Ready s) {a : ArmNo} {t : Timer}
    (timer : s.arms[a].noFlowTimer = some t) (running : t.elapsed < t.limit) (absent : s.arms[a].noFlowCond = false)
    (flows : s.arms[a].state = .lowStart ∨ s.arms[a].state = .highFlow) :
    exec (.noFlowTimerExpiry a) s = .next (settleCommand
      { s.fresh with
          arms := vmod s.arms a fun x => { x with noFlowTimer := some ⟨t.limit, t.limit⟩, noFlowCond := true }
          inbox := [.condition (.noFlow a) true] }) := by
  have out : isRunning s.arms[a].noFlowTimer = true := by
    rw [timer]
    exact decide_eq_true running
  have timed : noFlowAt a s.fresh
      = setNoFlowCond a true (s.fresh.modArm a fun x => { x with noFlowTimer := x.noFlowTimer.map Timer.atLimit }) :=
    if_pos ⟨out, flows⟩
  have run : exec (.noFlowTimerExpiry a) s = .next (settleCommand (noFlowAt a s.fresh)) :=
    inService_ready (noFlowAt a) s ready
  have inbox : s.fresh.inbox = [] := ready.2
  have arms : vmod (vmod s.arms a fun x => { x with noFlowTimer := x.noFlowTimer.map Timer.atLimit }) a
        (fun x => { x with noFlowCond := true })
      = vmod s.arms a fun x => { x with noFlowTimer := some ⟨t.limit, t.limit⟩, noFlowCond := true } := by
    rw [vmod_vmod]
    refine vmod_congr ?_
    simp only [Fin.getElem_fin] at timer
    simp only [timer]
    rfl
  have still : (vmod s.arms a fun x => { x with noFlowTimer := x.noFlowTimer.map Timer.atLimit })[a].noFlowCond = false := by
    rw [Fin.getElem_fin, vmod_self]
    exact absent
  rw [run, timed, setNoFlowCond_eq]
  simp only [modArm_arms, modArm_inbox, inbox, fresh_arms, arms, still, Bool.false_eq_true, if_false, List.nil_append]
  rfl

/-- Settles O25: the two timers, and the settled test by the arm's state. -/
theorem armTimersAndTheSettledTest : Obligations.ArmTimersAndTheSettledTest := by
  refine ⟨fun s a ready => ⟨exec_quietTimerExpiry ready, fun t timer running absent flows =>
    exec_noFlowTimerExpiry ready timer running absent flows⟩, fun s a => ⟨fun state settled => ?_, testArm_moving,
    testArm_waits, fun oc r state quiet rests onArm found => ?_, testArm_other⟩⟩
  · have held : take (.testArm a) s = enterHeld a s := testArm_settled state settled
    obtain ⟨state', -, closingLimit⟩ := enterHeld_arm a s
    rw [held]
    exact ⟨state', closingLimit, (enterHeld_armOnly a s).2⟩
  · have completes := completeArm_completes .preset onArm found
    have taken : take (.testArm a) s = completeArm a .preset s := testArm_completes state rests quiet
    rw [taken]
    exact ⟨completes.state, completes.comp, completes.handed, congrArg (Option.map CompRec.endReason) completes.record,
      completes.others, completes.bays⟩

/-! ### The closing limit (O26) -/

/-- The closing limit timer run out and the compartment marked valve-not-confirmed (R50). -/
def limitMarked (a : ArmNo) (s : State) : State :=
  markNotConfirmed a (s.modArm a fun x => { x with closingLimit := x.closingLimit.map Timer.atLimit })

section Limit

variable {a : ArmNo} {s : State} {oc : OnArm} {r : CompRec}

theorem limitMarked_arm :
    (limitMarked a s).arms[a] = { s.arms[a] with closingLimit := s.arms[a].closingLimit.map Timer.atLimit } := by
  rw [limitMarked, markNotConfirmed, modArmComp_frame]
  exact vmod_self ..

theorem limitMarked_eq (onArm : s.arms[a].comp = some oc) :
    limitMarked a s = (s.modArm a fun x => { x with closingLimit := x.closingLimit.map Timer.atLimit }).modComp oc.bay
      oc.comp fun r => { r with valveNotConfirmed := true } :=
  modArmComp_of_onArm ((congrArg Arm.comp (vmod_self ..)).trans onArm) _

/-- The compartment carries the mark. -/
theorem limitMarked_compRec (onArm : s.arms[a].comp = some oc) (found : s.compRec oc.bay oc.comp = some r) :
    (limitMarked a s).compRec oc.bay oc.comp = some { r with valveNotConfirmed := true } := by
  rw [limitMarked_eq onArm]
  exact compRec_modComp (s := s.modArm a _) (fun _ => rfl) found

theorem limitMarked_others : OtherArmsSame a s (limitMarked a s) := by
  intro x other
  rw [limitMarked, markNotConfirmed, modArmComp_frame]
  exact vmod_other _ _ _ _ other

theorem limitMarked_bays (onArm : s.arms[a].comp = some oc) (x : BayNo) (other : x ≠ oc.bay) :
    (limitMarked a s).bays[x] = s.bays[x] := by
  rw [limitMarked_eq onArm]
  exact vmod_other _ _ _ _ other

theorem limitMarked_frame : limitMarked a s = armBayFrom s (limitMarked a s) := by
  rw [limitMarked, markNotConfirmed, modArmComp_frame]
  rfl

variable (running : isRunning s.arms[a].closingLimit = true)
include running

theorem closingLimitAt_halting (state : s.arms[a].state = .halting) :
    closingLimitAt a s = enterHeld a (limitMarked a s) := by
  simp only [closingLimitAt, running, if_true, state]
  rfl

theorem closingLimitAt_closing (state : s.arms[a].state = .closing) :
    closingLimitAt a s = testArm a (limitMarked a s) := by
  simp only [closingLimitAt, running, if_true, state]
  rfl

theorem closingLimitAt_other (notClosing : s.arms[a].state ≠ .closing) (notHalting : s.arms[a].state ≠ .halting) :
    closingLimitAt a s = s.modArm a fun x => { x with closingLimit := x.closingLimit.map Timer.atLimit } := by
  simp only [closingLimitAt, running, if_true]

end Limit

theorem exec_closingLimitExpiry {s : State} (ready : Ready s) (a : ArmNo) :
    exec (.closingLimitExpiry a) s = .next (settleCommand (closingLimitAt a s.fresh)) :=
  inService_ready (closingLimitAt a) s ready

/-- The closing limit that runs out at an arm that is neither closing nor halting stops, and that is all. -/
theorem closingLimit_idle {s : State} {a : ArmNo} {oc : OnArm} {r : CompRec} (ready : Ready s)
    (running : isRunning s.arms[a].closingLimit = true) (found : s.compRec oc.bay oc.comp = some r)
    (notClosing : s.arms[a].state ≠ .closing) (notHalting : s.arms[a].state ≠ .halting) :
    ∃ u, exec (.closingLimitExpiry a) s = .next (settleCommand u) ∧ u.compRec oc.bay oc.comp = some r
      ∧ OtherArmsSame a s u ∧ OtherBaysSame oc.bay s u
      ∧ u = { s.fresh with arms := u.arms, bays := u.bays, inbox := u.inbox } := by
  refine ⟨s.fresh.modArm a fun x => { x with closingLimit := x.closingLimit.map Timer.atLimit }, ?_,
    (fresh_compRec oc.bay oc.comp s).trans found, fun x other => vmod_other _ _ _ _ other, fun _ _ => rfl, rfl⟩
  rw [exec_closingLimitExpiry ready, closingLimitAt_other (s := s.fresh) running notClosing notHalting]

/-- Settles O26: by the arm's state and its outstanding shots. -/
theorem closingLimitEndsTheWait : Obligations.ClosingLimitEndsTheWait := by
  intro s a oc r ready _ running onArm found
  have found : s.fresh.compRec oc.bay oc.comp = some r := (fresh_compRec oc.bay oc.comp s).trans found
  have arm := limitMarked_arm (a := a) (s := s.fresh)
  have record := limitMarked_compRec (s := s.fresh) onArm found
  have others : OtherArmsSame a s (limitMarked a s.fresh) := limitMarked_others (s := s.fresh)
  have bays := limitMarked_bays (s := s.fresh) onArm
  have frame := limitMarked_frame (a := a) (s := s.fresh)
  have out : hasRunOut (limitMarked a s.fresh).arms[a].closingLimit = true := by
    rw [arm]
    exact hasRunOut_atLimit running
  have comp : (limitMarked a s.fresh).arms[a].comp = some oc := by rw [arm]; exact onArm
  have state' : (limitMarked a s.fresh).arms[a].state = s.arms[a].state := by rw [arm]; rfl
  have outstanding' : (limitMarked a s.fresh).arms[a].outstanding = s.arms[a].outstanding := by rw [arm]; rfl
  have closeAhead' : (limitMarked a s.fresh).arms[a].closeAhead = s.arms[a].closeAhead := by rw [arm]; rfl
  have run := exec_closingLimitExpiry ready a
  by_cases halting : s.arms[a].state = .halting
  · rw [closingLimitAt_halting (s := s.fresh) running halting] at run
    obtain ⟨held, heldComp, -⟩ := enterHeld_arm a (limitMarked a s.fresh)
    obtain ⟨heldFrame, heldOthers⟩ := enterHeld_armOnly a (limitMarked a s.fresh)
    have heldBays : (enterHeld a (limitMarked a s.fresh)).bays = (limitMarked a s.fresh).bays := by rw [heldFrame]; rfl
    have closing : s.arms[a].state ≠ .closing := by rw [halting]; decide
    refine ⟨_, { r with valveNotConfirmed := true }, run, ?_, fun _ => rfl, fun _ => ⟨held, heldComp.trans comp⟩, fun state => absurd state closing,
      fun state => absurd state closing, fun x other => (heldOthers x other).trans (others x other), fun x other => ?_, ?_⟩
    · exact (compRec_congr (congrArg (fun v : Vector Bay 4 => v[oc.bay].session) heldBays) oc.comp).trans record
    · rw [heldBays]
      exact bays x other
    · rw [heldBays]
      exact heldFrame.trans (congrArg (armsFrom · (enterHeld a (limitMarked a s.fresh))) frame)
  by_cases closing : s.arms[a].state = .closing
  · rw [closingLimitAt_closing (s := s.fresh) running closing] at run
    by_cases quiet : s.arms[a].outstanding = 0
    · rw [testArm_completes (state'.trans closing) (.inr out) (outstanding'.trans quiet)] at run
      have completes := completeArm_completes .preset comp record
      refine ⟨_, _, run, completes.record, fun _ => rfl, fun state => absurd state halting,
        fun _ _ => ⟨completes.state, completes.comp, ?_, rfl, rfl⟩, fun _ shots => absurd quiet (Nat.ne_of_gt shots),
        fun x other => (completes.others x other).trans (others x other),
        fun x other => (completes.bays x other).trans (bays x other), ?_⟩
      · exact completes.closeAhead.trans ((if_neg fun taught => nomatch taught.2).trans closeAhead')
      · exact armBayFrom_trans frame completes.frame
    · rw [testArm_waits (state'.trans closing) (.inr (by rwa [outstanding']))] at run
      exact ⟨_, _, run, record, fun _ => rfl, fun state => absurd state halting, fun _ none => absurd none quiet,
        fun _ _ => ⟨state'.trans closing, comp, rfl⟩, others, bays, frame⟩
  · obtain ⟨u, run, record, others, bays, frame⟩ := closingLimit_idle ready running
      ((fresh_compRec oc.bay oc.comp s).symm.trans found) closing halting
    exact ⟨u, r, run, record, fun state => (state.elim halting closing).elim, fun state => absurd state halting,
      fun state => absurd state closing, fun state => absurd state closing, others, bays, frame⟩

/-! ### The completion command (O27) -/

theorem exec_compartmentCompletion {s : State} (ready : Ready s) (a : ArmNo) :
    exec (.compartmentCompletion a) s = .next (settleCommand (completionDue a s.fresh)) :=
  inService_ready (completionDue a) s ready

theorem finishArm_held {s : State} {a : ArmNo} (state : s.arms[a].state = .held) :
    finishArm a s = completeArm a .stopped s := by
  simp only [finishArm, state]

/-- A completion that falls due: as PRESET in CLOSING, as STOPPED in HELD (R49, R53, R118). -/
theorem completionDue_completes {s : State} {a : ArmNo} {oc : OnArm} (onArm : s.arms[a].comp = some oc)
    (falls : (s.arms[a].state = .closing ∧ valveSettled s a = true ∧ s.arms[a].outstanding = 0) ∨
      (s.arms[a].state = .held ∧ SessionIn s oc.bay .ending)) :
    completionDue a s = completeArm a (if s.arms[a].state = .closing then .preset else .stopped) s := by
  rcases falls with ⟨state, settled, quiet⟩ | ⟨state, ending⟩
  · rw [if_pos state, ← testArm_completes state (.inl settled) quiet]
    simp only [completionDue, state]
  · have notClosing : s.arms[a].state ≠ .closing := by rw [state]; decide
    have asked : (s.session oc.bay).map Session.state = some .ending := ending
    rw [if_neg notClosing, ← finishArm_held state]
    simp only [completionDue, state, onArm, asked, if_true]

/-- Every line of a closed record has its schedule at its end (R79). -/
theorem closedWith_lines (r : CompRec) (reason : EndReason) (overran : Bool) (x : CompResult) :
    ∀ l ∈ (r.closedWith reason overran x).lines, l.next = l.due := by
  intro l mem
  obtain ⟨_, _, rfl⟩ := List.mem_map.1 mem
  rfl

/-- Settles O27: the completion that falls due, part by part. -/
theorem completionClosesTheCompartment : Obligations.CompletionClosesTheCompartment := by
  intro s a oc r ready _ onArm found falls
  have found : s.fresh.compRec oc.bay oc.comp = some r := (fresh_compRec oc.bay oc.comp s).trans found
  have falls : (s.fresh.arms[a].state = .closing ∧ valveSettled s.fresh a = true ∧ s.fresh.arms[a].outstanding = 0) ∨
      (s.fresh.arms[a].state = .held ∧ SessionIn s.fresh oc.bay .ending) := by
    rw [SessionIn, fresh_session]
    exact falls
  have run := exec_compartmentCompletion ready a
  rw [completionDue_completes (s := s.fresh) onArm falls] at run
  have completes := completeArm_completes (s := s.fresh)
    (if s.fresh.arms[a].state = .closing then .preset else .stopped) onArm found
  refine ⟨_, _, _, run, completes.record, rfl, rfl, rfl, rfl, rfl, rfl, rfl, completes.state, completes.command,
    completes.comp, completes.outstanding, completes.closingLimit, completes.closeAhead.trans ?_, completes.handed,
    fun _ mem => closedWith_lines _ _ _ _ _ mem, completes.others, completes.bays, completes.frame⟩
  by_cases closing : s.arms[a].state = .closing
  · simp only [closeAheadAt, fresh_arms, closing, if_true, true_and]
    rfl
  · simp only [closeAheadAt, fresh_arms, closing, if_false, false_and, reduceCtorEq]

end Sys2Proof.Machine
end

section
/-! The position switches after travel (O24), and the delays of the pumps (O28). -/

namespace Sys2Proof.Machine

/-! ### The comparison of the switches (R58) -/

/-- A VALVE condition set (R58): the whole state after it. -/
theorem setValveCond_eq (a : ArmNo) (p : Bool) (s : State) :
    setValveCond a p s = { s with
      arms := vmod s.arms a fun x => { x with valveCond := p }
      inbox := s.inbox ++ if s.arms[a].valveCond = p then [] else [.condition (.valve a) p] } := by
  rw [(armOnly_setValveCond a p s).1, armsFrom, setValveCond_arms, setValveCond_inbox]

section Switches

variable {s : State} {a : ArmNo} (ready : Ready s) (used : (s.armCfg a).used = true)
include ready used

/-- A switch change once the allowance is over: the comparison, and the settled test. -/
theorem exec_valveSwitchChange_compared (w : ValveSwitch) (level : Bool) {pins : Pins}
    (pinned : setSwitch a w level s.fresh = { s.fresh with pins := pins }) (still : s.arms[a].travel = none) :
    let present := !switchesAgree s.arms[a].command pins.closedSwitch[a] pins.openSwitch[a]
    exec (.valveSwitchChange a w level) s = .next (settleCommand
      { s.fresh with
          pins := pins
          arms := vmod s.arms a fun x => { x with valveCond := present }
          inbox := (if s.arms[a].valveCond = present then [] else [.condition (.valve a) present]) ++ [.testArm a] }) := by
  intro present
  have run : exec (.valveSwitchChange a w level) s
      = .next (settleCommand (switchChanged a (setSwitch a w level s.fresh))) :=
    onPin_ready (setSwitch a w level) (switchChanged a) s ready
  have inbox : s.fresh.inbox = [] := ready.2
  have compared : switchChanged a { s.fresh with pins := pins }
      = (setValveCond a present { s.fresh with pins := pins }).push (.testArm a) := by
    have used : (State.armCfg { s.fresh with pins := pins } a).used = true := used
    have still : s.fresh.arms[a].travel = none := still
    simp only [switchChanged, used, if_true, still]
    rfl
  rw [run, pinned, compared, setValveCond_eq]
  simp only [State.push, inbox, List.nil_append]
  rfl

/-- A switch change during the allowance: the settled test alone. -/
theorem exec_valveSwitchChange_travelling (w : ValveSwitch) (level : Bool) {pins : Pins}
    (pinned : setSwitch a w level s.fresh = { s.fresh with pins := pins }) (moves : s.arms[a].travel ≠ none) :
    exec (.valveSwitchChange a w level) s
      = .next (settleCommand { s.fresh with pins := pins, inbox := [.testArm a] }) := by
  have run : exec (.valveSwitchChange a w level) s
      = .next (settleCommand (switchChanged a (setSwitch a w level s.fresh))) :=
    onPin_ready (setSwitch a w level) (switchChanged a) s ready
  have inbox : s.fresh.inbox = [] := ready.2
  obtain ⟨t, travels⟩ := Option.ne_none_iff_exists'.1 moves
  have tested : switchChanged a { s.fresh with pins := pins }
      = ({ s.fresh with pins := pins } : State).push (.testArm a) := by
    have used : (State.armCfg { s.fresh with pins := pins } a).used = true := used
    have travels : s.fresh.arms[a].travel = some t := travels
    simp only [switchChanged, used, if_true, travels]
  rw [run, pinned, tested]
  simp only [State.push, inbox, List.nil_append]

theorem exec_travelAllowanceExpiry (running : isRunning s.arms[a].travel = true) :
    let present := !switchesAgree s.arms[a].command s.pins.closedSwitch[a] s.pins.openSwitch[a]
    exec (.travelAllowanceExpiry a) s = .next (settleCommand
      { s.fresh with
          arms := vmod s.arms a fun x => { x with travel := none, valveCond := present }
          inbox := if s.arms[a].valveCond = present then [] else [.condition (.valve a) present] }) := by
  intro present
  have run : exec (.travelAllowanceExpiry a) s = .next (settleCommand (travelAt a s.fresh)) :=
    inService_ready (travelAt a) s ready
  have inbox : s.fresh.inbox = [] := ready.2
  have stopped : (s.fresh.modArm a fun x => { x with travel := none }).arms[a] = { s.arms[a] with travel := none } :=
    vmod_self ..
  have compared : travelAt a s.fresh = setValveCond a present (s.fresh.modArm a fun x => { x with travel := none }) := by
    have cfg : ((s.fresh.modArm a fun x => { x with travel := none }).armCfg a).used = true := used
    have running : isRunning s.fresh.arms[a].travel = true := running
    simp only [travelAt, running, if_true, cfg, compareSwitches, stopped]
    rfl
  rw [run, compared, setValveCond_eq, stopped]
  simp only [modArm_inbox, inbox, List.nil_append, modArm_arms, vmod_vmod]
  rfl

end Switches

/-- Settles O24: each switch by the travel allowance, and the end of the allowance. -/
theorem switchesAreComparedAfterTravel : Obligations.SwitchesAreComparedAfterTravel := by
  intro s a ready used reported closedPin openPin
  have closed (level : Bool) : (closedPin level).closedSwitch[a] = level := vset_self ..
  have opened (level : Bool) : (openPin level).openSwitch[a] = level := vset_self ..
  refine ⟨fun level still => ?_, fun level still => ?_, fun level moves => ⟨?_, ?_⟩,
    exec_travelAllowanceExpiry ready used⟩
  · have compared := exec_valveSwitchChange_compared ready used .closed level (pins := closedPin level) rfl still
    rw [closed] at compared
    exact compared
  · have compared := exec_valveSwitchChange_compared ready used .opened level (pins := openPin level) rfl still
    rw [opened] at compared
    exact compared
  · exact exec_valveSwitchChange_travelling ready used .closed level rfl moves
  · exact exec_valveSwitchChange_travelling ready used .opened level rfl moves

/-! ### The end of a pump wait (R44, R62) -/

/-- The arm whose wait ends where the mode lets it flow: LOW, with its travel allowance and its no-flow timer from 0. -/
theorem endPumpWait_arm {a : ArmNo} {s : State} (used : (s.armCfg a).used = true) (flows : s.mode.mayFlow = true)
    (state : s.arms[a].state = .lowStart) (waiting : s.arms[a].waiting = true) (command : s.arms[a].command = .close) :
    (endPumpWait a s).arms[a] = { s.arms[a] with
      waiting := false, command := .low, valveCond := false
      travel := some ⟨0, (s.armCfg a).valveTravel * 10000⟩, noFlowTimer := some ⟨0, (s.armCfg a).noFlowTime * 10000⟩ } := by
  have ended : (s.modArm a fun x => { x with waiting := false }).arms[a] = { s.arms[a] with waiting := false } :=
    vmod_self ..
  have low : commandFor s.mode (s.armCfg a).used { s.arms[a] with waiting := false } = .low := by
    simp only [commandFor, flows, used, state]
    rfl
  have calls : commandFor (s.modArm a fun x => { x with waiting := false }).mode
      ((s.modArm a fun x => { x with waiting := false }).armCfg a).used
      (s.modArm a fun x => { x with waiting := false }).arms[a] = .low := by
    rw [ended]
    exact low
  have turns : (s.modArm a fun x => { x with waiting := false }).arms[a].command
      ≠ commandFor (s.modArm a fun x => { x with waiting := false }).mode
        ((s.modArm a fun x => { x with waiting := false }).armCfg a).used
        (s.modArm a fun x => { x with waiting := false }).arms[a] := by
    rw [calls, ended]
    show s.arms[a].command ≠ .low
    rw [command]
    decide
  have after : endPumpWait a s = startNoFlow a (refreshCommand a (s.modArm a fun x => { x with waiting := false })) :=
    (if_pos ⟨state, waiting⟩).trans (if_pos ((refreshCommand_command a _).trans calls))
  have refreshed := refreshCommand_arms a _ turns
  have setup : (refreshCommand a (s.modArm a fun x => { x with waiting := false })).setup = s.setup :=
    (armOnly_refreshCommand a _).rack.2.1
  rw [calls] at refreshed
  rw [after, startNoFlow, armCfg_of_setup setup]
  simp only [modArm_arms, refreshed, Fin.getElem_fin, vmod_self]
  rfl

/-! ### The start delay (R62) -/

/-- A pump that has run for an arm's start delay, the arm out of its waiting arms. -/
def Pump.reached (u : Pump) (delay : Nat) (a : ArmNo) : Pump :=
  { u with run := u.run.map (max delay), waiting := u.waiting.filter fun w => w ≠ a }

theorem runReached_max {u : Pump} (delay : Nat) (runs : u.run.isSome = true) :
    ({ u with run := u.run.map (max delay) } : Pump).runReached delay = true := by
  obtain ⟨t, run⟩ := Option.isSome_iff_exists.1 runs
  simp [Pump.runReached, run]

theorem startDelayReached_releases {a : ArmNo} {p : PumpNo} {s : State} (pump : pumpOf s a = some p)
    (waits : a ∈ s.pumps[p].waiting) (runs : s.pumps[p].run.isSome = true) :
    startDelayReached a s = endPumpWait a (s.modPump p fun u => u.reached (startDelayOf s a) a) := by
  have timed : (s.modPump p fun u => { u with run := u.run.map (max (startDelayOf s a)) }).pumps[p]
      = { s.pumps[p] with run := s.pumps[p].run.map (max (startDelayOf s a)) } := vmod_self ..
  have pump' : pumpOf (s.modPump p fun u => { u with run := u.run.map (max (startDelayOf s a)) }) a = some p := pump
  have ready : a ∈ (s.modPump p fun u => { u with run := u.run.map (max (startDelayOf s a)) }).pumps[p].waiting
      ∧ (s.modPump p fun u => { u with run := u.run.map (max (startDelayOf s a)) }).pumps[p].runReached
        (startDelayOf (s.modPump p fun u => { u with run := u.run.map (max (startDelayOf s a)) }) a) = true := by
    rw [timed]
    exact ⟨waits, runReached_max _ runs⟩
  have released : releaseIfReady a (s.modPump p fun u => { u with run := u.run.map (max (startDelayOf s a)) })
      = endPumpWait a ((s.modPump p fun u => { u with run := u.run.map (max (startDelayOf s a)) }).modPump p
          fun u => { u with waiting := u.waiting.filter fun w => w ≠ a }) := by
    unfold releaseIfReady
    rw [pump']
    exact if_pos ready
  have one : (s.modPump p fun u => { u with run := u.run.map (max (startDelayOf s a)) }).modPump p
        (fun u => { u with waiting := u.waiting.filter fun w => w ≠ a })
      = s.modPump p fun u => u.reached (startDelayOf s a) a := by
    simp only [State.modPump, vmod_vmod]
    rfl
  rw [← one, ← released]
  unfold startDelayReached
  rw [pump]
  exact if_pos ⟨waits, runs⟩

/-- A pump whose stop delay runs out is off, and nothing is sent (R63). -/
theorem exec_stopDelayExpiry {s : State} (ready : Ready s) {p : PumpNo} (state : s.pumps[p].state = .runDown) :
    exec (.stopDelayExpiry p) s = .next
      ({ s.fresh with
          pumps := vmod s.pumps p fun u => { u with state := .off, run := none, stopDelay := none } } : State).write := by
  have run : exec (.stopDelayExpiry p) s = .next (settleCommand (stopDelayAt p s.fresh)) :=
    inService_ready (stopDelayAt p) s ready
  have stopped : stopDelayAt p s.fresh = s.fresh.modPump p Pump.stopped := if_pos state
  have inbox : (s.fresh.modPump p Pump.stopped).inbox = [] := ready.2
  rw [run, stopped, settleCommand_nil _ inbox]
  rfl

/-- Settles O28: the wait that ends at the start delay, and the pump that stops at its stop delay. -/
theorem pumpDelaysEnd : Obligations.PumpDelaysEnd := by
  refine fun s ready => ⟨fun a p used flows state waiting command pump waits runs => ?_,
    fun p state => exec_stopDelayExpiry ready state⟩
  have released : startDelayReached a s.fresh
      = endPumpWait a (s.fresh.modPump p fun u => u.reached (startDelayOf s a) a) :=
    startDelayReached_releases (s := s.fresh) pump waits runs
  have run : exec (.pumpStartDelayReached a) s = .next (settleCommand (startDelayReached a s.fresh)) :=
    inService_ready (startDelayReached a) s ready
  rw [released] at run
  have arm := endPumpWait_arm (s := s.fresh.modPump p fun u => u.reached (startDelayOf s a) a) used flows state waiting
    command
  obtain ⟨frame, others⟩ := endPumpWait_armOnly a (s.fresh.modPump p fun u => u.reached (startDelayOf s a) a)
  have pumps := endPumpWait_pumps a (s.fresh.modPump p fun u => u.reached (startDelayOf s a) a)
  have here : (s.fresh.modPump p fun u => u.reached (startDelayOf s a) a).pumps[p]
      = s.pumps[p].reached (startDelayOf s a) a := vmod_self ..
  refine ⟨_, run, congrArg Arm.waiting arm, (congrArg Arm.state arm).trans state, congrArg Arm.command arm,
    congrArg Arm.noFlowTimer arm, congrArg Arm.travel arm, ?_, ?_, ?_, others, fun x other => ?_, ?_⟩
  · rw [pumps, here]
    exact fun mem => by simpa using (List.mem_filter.1 mem).2
  · rw [pumps, here]
    rfl
  · rw [pumps, here]
    rfl
  · rw [pumps]
    exact vmod_other _ _ _ _ other
  · rw [pumps]
    exact frame

end Sys2Proof.Machine
end

section
/-! The end of a flow (R47, R52, R77), said once for CLOSING and HALTING: what it makes of the arm, and what it leaves
alone. -/

namespace Sys2Proof.Machine

/-! ### The flow ends -/

/-- An arm that has left the flowing states for `st`: its demand gone, its closing limit started, its no-flow timer
stopped. -/
def flowEnded (a : ArmNo) (st : ArmState) (s : State) : State :=
  stopNoFlow a (startClosingLimit a (enterState a st (removeDemand a s)))

theorem enterClosing_eq (a : ArmNo) (s : State) : enterClosing a s = (flowEnded a .closing s).push (.testArm a) := rfl

theorem enterHalting_eq (a : ArmNo) (cause : StopCause) (s : State) :
    enterHalting a cause s = (withdrawShots a (flowEnded a .halting
      (s.modArm a fun x => { x with lastStop := cause }))).push (.testArm a) := rfl

theorem removeDemand_frame (a : ArmNo) (s : State) : removeDemand a s = { s with pumps := (removeDemand a s).pumps } := by
  unfold removeDemand
  split <;> rfl

section Ended

variable (a : ArmNo) (st : ArmState) (s : State)

theorem flowEnded_armOnly : ArmOnly a (removeDemand a s) (flowEnded a st s) :=
  (armOnly_enterState ..).trans ((armOnly_modArm ..).trans (armOnly_stopNoFlow ..))

/-- What the timers leave of the arm that has entered its state. -/
theorem flowEnded_entered :
    (flowEnded a st s).arms[a] = { (enterState a st (removeDemand a s)).arms[a] with
      closingLimit := some ⟨0, 3 * (s.armCfg a).valveTravel * 10000 + 200000⟩
      noFlowTimer := none, noFlowCond := false } := by
  have setup : (enterState a st (removeDemand a s)).setup = s.setup := by
    rw [(armOnly_enterState a st (removeDemand a s)).rack.2.1, removeDemand_frame]
  simp only [flowEnded, stopNoFlow, setNoFlowCond_arms, modArm_arms, startClosingLimit, armCfg_of_setup setup,
    Fin.getElem_fin, vmod_self]
  rfl

theorem flowEnded_others : OtherArmsSame a s (flowEnded a st s) := by
  intro x other
  rw [(flowEnded_armOnly a st s).2 x other, removeDemand_frame]

theorem flowEnded_frame :
    flowEnded a st s = { s with
      arms := (flowEnded a st s).arms, pumps := (flowEnded a st s).pumps, inbox := (flowEnded a st s).inbox } := by
  have pumps : (flowEnded a st s).pumps = (removeDemand a s).pumps := (flowEnded_armOnly a st s).rack.2.2.2.1
  calc flowEnded a st s
    _ = armsFrom (removeDemand a s) (flowEnded a st s) := (flowEnded_armOnly a st s).1
    _ = armsFrom { s with pumps := (removeDemand a s).pumps } (flowEnded a st s) :=
      congrArg (armsFrom · (flowEnded a st s)) (removeDemand_frame a s)
    _ = _ := by rw [pumps]; rfl

end Ended

/-- The arm whose flow has ended: CLOSE commanded, the closing limit from 0, no no-flow timer, its compartment and stop
cause as they were. -/
structure FlowEnded (a : ArmNo) (st : ArmState) (cause : StopCause) (s t : State) : Prop where
  state : t.arms[a].state = st
  command : t.arms[a].command = .close
  comp : t.arms[a].comp = s.arms[a].comp
  lastStop : t.arms[a].lastStop = cause
  noFlowTimer : t.arms[a].noFlowTimer = none
  closingLimit : t.arms[a].closingLimit = some ⟨0, 3 * (s.armCfg a).valveTravel * 10000 + 200000⟩
  others : OtherArmsSame a s t

theorem flowEnded_arm (a : ArmNo) {st : ArmState} (s : State) (still : st.flowing = false) :
    FlowEnded a st s.arms[a].lastStop s (flowEnded a st s) := by
  have arms : (removeDemand a s).arms = s.arms := by rw [removeDemand_frame]
  have set : ((removeDemand a s).modArm a fun x => { x with state := st }).arms[a] = { s.arms[a] with state := st } := by
    rw [modArm_arms, arms]
    exact vmod_self ..
  obtain ⟨-, comp, -, -, -, -, lastStop⟩ := refreshCommand_keeps a a
    ((removeDemand a s).modArm a fun x => { x with state := st })
  rw [set] at comp lastStop
  have arm := flowEnded_entered a st s
  exact ⟨(congrArg Arm.state arm).trans (enterState_state ..), (congrArg Arm.command arm).trans
    (enterState_command a _ still), (congrArg Arm.comp arm).trans comp, (congrArg Arm.lastStop arm).trans lastStop,
    congrArg Arm.noFlowTimer arm, congrArg Arm.closingLimit arm, flowEnded_others a st s⟩

/-! ### Shots withdrawn (R52, R77) -/

theorem eachInj_frame {f : State → InjNo → State} (only : ∀ s i, f s i = { s with injectors := (f s i).injectors })
    (l : List InjNo) (s : State) : s.each l f = { s with injectors := (s.each l f).injectors } := by
  induction l generalizing s with
  | nil => rfl
  | cons i l ih =>
    calc (f s i).each l f
      _ = { f s i with injectors := ((f s i).each l f).injectors } := ih (f s i)
      _ = { s with injectors := ((f s i).each l f).injectors } :=
        congrArg (fun t : State => { t with injectors := ((f s i).each l f).injectors }) (only s i)

theorem modArmComp_lastPrompt (a : ArmNo) (f : CompRec → CompRec) (s : State) (b : BayNo) :
    (s.modArmComp a f).bays[b].lastPrompt = s.bays[b].lastPrompt := by
  unfold State.modArmComp
  split
  · simp only [modComp_bays, Fin.getElem_fin, vmod_get]
    split <;> rfl
  · rfl

theorem reportFrom_trans {s t u : State} (first : t = reportFrom s t) (second : u = reportFrom t u) :
    u = reportFrom s u :=
  calc u
    _ = reportFrom t u := second
    _ = reportFrom (reportFrom s t) u := congrArg (reportFrom · u) first
    _ = reportFrom s u := rfl

theorem modArm_reportFrom (a : ArmNo) (f : Arm → Arm) (s : State) : s.modArm a f = reportFrom s (s.modArm a f) := rfl

theorem push_reportFrom (n : Notice) (s : State) : s.push n = reportFrom s (s.push n) := rfl

/-- A withdrawal changes the arm's outstanding shots, the queues and the lines, and nothing else. -/
structure Withdrawn (a : ArmNo) (s t : State) : Prop where
  arm : t.arms[a] = { s.arms[a] with outstanding := t.arms[a].outstanding }
  others : OtherArmsSame a s t
  prompts : ∀ b : BayNo, t.bays[b].lastPrompt = s.bays[b].lastPrompt
  frame : t = reportFrom s t

theorem withdrawShots_withdrawn (a : ArmNo) (s : State) : Withdrawn a s (withdrawShots a s) := by
  unfold withdrawShots
  split
  · exact ⟨rfl, fun _ _ => rfl, fun _ => rfl, rfl⟩
  · next r _ =>
    simp only
    generalize (List.flatMap _ allInjs : List ShotRequest) = taken
    have frame := eachInj_frame (f := fun s i => if r.names i then s.modInj i fun x =>
      { x with queue := x.queue.filter fun q => q.arm ≠ a } else s) (fun s i => by split <;> rfl) allInjs s
    generalize State.each s allInjs _ = u at *
    have arms : u.arms = s.arms := by rw [frame]
    refine ⟨?_, fun x other => ?_, fun b => ?_, ?_⟩
    · rw [modArmComp_frame]
      simp only [modArm_arms, arms, Fin.getElem_fin, vmod_self]
    · rw [modArmComp_frame]
      simp only [modArm_arms, arms]
      exact vmod_other _ _ _ _ other
    · rw [modArmComp_lastPrompt, frame]
      rfl
    · have queues : u = reportFrom s u := by rw [frame]; rfl
      have shots := modArm_reportFrom a (fun x => { x with outstanding := x.outstanding - taken.length }) u
      refine reportFrom_trans queues (reportFrom_trans shots ?_)
      rw [modArmComp_frame]
      rfl

/-! ### HALTING (R51, R52) -/

theorem FlowEnded.push {a : ArmNo} {st : ArmState} {cause : StopCause} {s t : State} (ended : FlowEnded a st cause s t)
    (n : Notice) : FlowEnded a st cause s (t.push n) :=
  ⟨ended.state, ended.command, ended.comp, ended.lastStop, ended.noFlowTimer, ended.closingLimit, ended.others⟩

theorem FlowEnded.withdrawn {a : ArmNo} {st : ArmState} {cause : StopCause} {s t u : State}
    (ended : FlowEnded a st cause s t) (withdrawn : Withdrawn a t u) : FlowEnded a st cause s u := by
  obtain ⟨arm, others, -, -⟩ := withdrawn
  exact ⟨(congrArg Arm.state arm).trans ended.state, (congrArg Arm.command arm).trans ended.command,
    (congrArg Arm.comp arm).trans ended.comp, (congrArg Arm.lastStop arm).trans ended.lastStop,
    (congrArg Arm.noFlowTimer arm).trans ended.noFlowTimer, (congrArg Arm.closingLimit arm).trans ended.closingLimit,
    fun x other => (others x other).trans (ended.others x other)⟩

/-- A stop request at a flowing arm (R51, R52). -/
theorem enterHalting_ends (a : ArmNo) (cause : StopCause) (s : State) :
    FlowEnded a .halting cause s (enterHalting a cause s) := by
  have caused : (s.modArm a fun x => { x with lastStop := cause }).arms[a] = { s.arms[a] with lastStop := cause } :=
    vmod_self ..
  obtain ⟨state, command, comp, lastStop, noFlowTimer, closingLimit, others⟩ :=
    flowEnded_arm a (s.modArm a fun x => { x with lastStop := cause }) (st := .halting) rfl
  rw [caused] at comp lastStop
  have ended : FlowEnded a .halting cause s (flowEnded a .halting (s.modArm a fun x => { x with lastStop := cause })) :=
    ⟨state, command, comp, lastStop, noFlowTimer, closingLimit, fun x other => by
      rw [others x other]
      exact vmod_other _ _ _ _ other⟩
  exact (ended.withdrawn (withdrawShots_withdrawn a _)).push _

theorem enterHalting_frame (a : ArmNo) (cause : StopCause) (s : State) :
    enterHalting a cause s = reportFrom s (enterHalting a cause s) := by
  have ended (t : State) : flowEnded a .halting t = reportFrom t (flowEnded a .halting t) := by
    rw [flowEnded_frame]
    rfl
  have withdrawn (t : State) := (withdrawShots_withdrawn a t).frame
  rw [enterHalting_eq]
  have halted := reportFrom_trans (modArm_reportFrom a (fun x => { x with lastStop := cause }) s) (ended _)
  exact reportFrom_trans (reportFrom_trans halted (withdrawn _)) (push_reportFrom _ _)

theorem enterHalting_lastPrompt (a : ArmNo) (cause : StopCause) (s : State) (b : BayNo) :
    (enterHalting a cause s).bays[b].lastPrompt = s.bays[b].lastPrompt := by
  have prompts := (withdrawShots_withdrawn a (flowEnded a .halting (s.modArm a fun x =>
    { x with lastStop := cause }))).prompts b
  rw [flowEnded_frame] at prompts
  rw [enterHalting_eq, push_bays]
  rw [flowEnded_frame]
  exact prompts

theorem stopArm_flowing {a : ArmNo} {cause : StopCause} {s : State} (flowing : s.arms[a].state.flowing = true) :
    stopArm a cause s = enterHalting a cause s := if_pos flowing

theorem stopArm_still {a : ArmNo} {cause : StopCause} {s : State} (still : s.arms[a].state.flowing = false) :
    stopArm a cause s = s := if_neg (by rw [still]; exact Bool.false_ne_true)

/-! ### A key with its prompt -/

/-- The state of a key that has shown its prompt. -/
def keyShown (b : BayNo) (p : Prompt) (numbers : List Nat) (s : State) : State := (keyed b s).sendShow b p numbers

section Shown

variable (b : BayNo) (p : Prompt) (numbers : List Nat) (s : State)

theorem keyShown_frame : keyShown b p numbers s = { s.fresh with bays := (keyShown b p numbers s).bays } :=
  congrArg (fun t => { t with bays := (keyShown b p numbers s).bays }) (keyed_frame b s)

theorem keyShown_arms : (keyShown b p numbers s).arms = s.arms := by
  rw [keyShown_frame]
  rfl

theorem keyShown_lastPrompt : (keyShown b p numbers s).bays[b].lastPrompt = some ⟨p, numbers⟩ :=
  congrArg Bay.lastPrompt (vmod_self ..)

theorem keyShown_otherBays : OtherBaysSame b s (keyShown b p numbers s) := fun _ other =>
  (vmod_other _ _ _ _ other).trans (keyed_bay_other s other)

theorem keyShown_sessions : SessionsSame s (keyShown b p numbers s) := by
  intro x
  by_cases here : x = b
  · subst here
    exact (congrArg Bay.session (vmod_self ..)).trans (keyed_session x s)
  · exact (congrArg Bay.session (keyShown_otherBays b p numbers s x here)).trans (fresh_session x s)

/-- A key that shows a prompt and does nothing else. -/
theorem keyShown_written {c : Instr} (ready : Ready s) (run : exec c s = .next (settleCommand (keyShown b p numbers s))) :
    ∃ t, exec c s = .next t ∧ t.bays[b].lastPrompt = some ⟨p, numbers⟩ ∧ SessionsSame s t ∧ OtherBaysSame b s t
      ∧ t = ({ s.fresh with bays := t.bays } : State).write := by
  have quiet : (keyShown b p numbers s).inbox = [] := by
    rw [keyShown_frame]
    exact ready.2
  rw [settleCommand_nil _ quiet] at run
  exact ⟨_, run, keyShown_lastPrompt b p numbers s, keyShown_sessions b p numbers s, keyShown_otherBays b p numbers s,
    congrArg State.write (keyShown_frame b p numbers s)⟩

end Shown

/-! ### STOP and FINISH (R115) -/

/-- The tests of STOP and FINISH before the arm is looked at pass for an arm of a bay with a session. -/
theorem keyed_armOfBay {s : State} {b : BayNo} {a : ArmNo} (open_ : (s.session b).isSome = true)
    (mine : s.armOfBay a b = true) : ((keyed b s).session b).isNone = false ∧ (keyed b s).armOfBay a b = true := by
  constructor
  · rw [keyed_session, ← Option.not_isSome, open_]
    rfl
  · rw [keyed_frame]
    exact mine

section Keys

variable {s : State} {b : BayNo} {a : ArmNo} (ready : Ready s) (open_ : (s.session b).isSome = true)
  (mine : s.armOfBay a b = true)
include ready open_ mine

theorem exec_stop :
    exec (.stop b a) s
      = .next (settleCommand (stopArm a .key (keyShown b (stopAnswer s.arms[a].state) [unitNo a] s))) := by
  have run : exec (.stop b a) s = .next (settleCommand (stopKey b a (keyed b s))) :=
    inService_ready (withKey b (stopKey b a)) s ready
  obtain ⟨session, arm⟩ := keyed_armOfBay open_ mine
  rw [run]
  simp only [stopKey, session, arm, keyed_arms, Bool.false_eq_true, Bool.true_eq_false, if_false]
  rfl

theorem exec_finish_held {oc : OnArm} (held : s.arms[a].state = .held) (onArm : s.arms[a].comp = some oc) :
    exec (.finish b a) s
      = .next (settleCommand (completeArm a .stopped (keyShown b .finished [unitNo a, unitNo oc.comp] s))) := by
  have run : exec (.finish b a) s = .next (settleCommand (finishKey b a (keyed b s))) :=
    inService_ready (withKey b (finishKey b a)) s ready
  obtain ⟨session, arm⟩ := keyed_armOfBay open_ mine
  have shown : (keyShown b .finished [unitNo a, unitNo oc.comp] s).arms[a].state = .held := by
    rw [keyShown_arms]
    exact held
  rw [run, ← finishArm_held shown]
  simp only [finishKey, session, arm, keyed_arms, held, onArm, Bool.false_eq_true, Bool.true_eq_false, if_false]
  rfl

theorem exec_finish_notHeld (state : s.arms[a].state ≠ .held) :
    exec (.finish b a) s = .next (settleCommand (keyShown b .notHeld [unitNo a] s)) := by
  have run : exec (.finish b a) s = .next (settleCommand (finishKey b a (keyed b s))) :=
    inService_ready (withKey b (finishKey b a)) s ready
  obtain ⟨session, arm⟩ := keyed_armOfBay open_ mine
  rw [run]
  simp only [finishKey, session, arm, keyed_arms, Bool.false_eq_true, Bool.true_eq_false, if_false]
  split
  · next held _ => exact absurd held state
  · rfl

end Keys

/-- What an arm that does not flow answers to a STOP (R51). -/
theorem stopAnswer_still {st : ArmState} (still : st.flowing = false) :
    stopAnswer st = if st = .closing then .alreadyClosing else .notFlowing := by
  cases st with
  | lowStart | highFlow | lowFinish => exact nomatch still
  | idle | armed | closing | halting | held => rfl

theorem stopAnswer_flowing {st : ArmState} (flowing : st.flowing = true) : stopAnswer st = .halted := by
  cases st with
  | lowStart | highFlow | lowFinish => rfl
  | idle | armed | closing | halting | held => exact nomatch flowing

/-- Settles O41: STOP at a flowing arm and at another, FINISH at a HELD arm and at another. -/
theorem stopHaltsAndFinishCompletes : Obligations.StopHaltsAndFinishCompletes := by
  refine ⟨fun s b a ready open_ mine => ⟨fun flowing => ?_, fun still => ?_⟩,
    fun s b a ready open_ mine => ⟨fun oc r held onArm found => ?_, fun state => ?_⟩⟩
  · have run := exec_stop ready open_ mine
    rw [stopAnswer_flowing flowing] at run
    have arms := keyShown_arms b .halted [unitNo a] s
    have cfg : (keyShown b .halted [unitNo a] s).armCfg a = s.armCfg a :=
      armCfg_of_setup (congrArg State.setup (keyShown_frame ..)) a
    rw [stopArm_flowing (by rw [arms]; exact flowing)] at run
    have ended := enterHalting_ends a .key (keyShown b .halted [unitNo a] s)
    have frame := enterHalting_frame a .key (keyShown b .halted [unitNo a] s)
    have prompt := enterHalting_lastPrompt a .key (keyShown b .halted [unitNo a] s) b
    have shownFrame : keyShown b .halted [unitNo a] s = reportFrom s.fresh (keyShown b .halted [unitNo a] s) := by
      rw [keyShown_frame]
      rfl
    refine ⟨_, run, ended.state, ended.command, ended.lastStop, ended.noFlowTimer, ended.comp.trans (by rw [arms]),
      ended.closingLimit.trans (by rw [cfg]), prompt.trans (keyShown_lastPrompt ..), fun x other => ?_,
      reportFrom_trans shownFrame frame⟩
    rw [ended.others x other, arms]
  · have run := exec_stop ready open_ mine
    rw [stopArm_still (by rw [keyShown_arms]; exact still), stopAnswer_still still] at run
    exact keyShown_written b _ _ s ready run
  · have run := exec_finish_held ready open_ mine held onArm
    have arms := keyShown_arms b .finished [unitNo a, unitNo oc.comp] s
    have found : (keyShown b .finished [unitNo a, unitNo oc.comp] s).compRec oc.bay oc.comp = some r :=
      (compRec_congr (keyShown_sessions b .finished [unitNo a, unitNo oc.comp] s oc.bay) oc.comp).trans found
    have completes := completeArm_completes .stopped (by rw [arms]; exact onArm) found
    have shownFrame : keyShown b .finished [unitNo a, unitNo oc.comp] s
        = armBayFrom s.fresh (keyShown b .finished [unitNo a, unitNo oc.comp] s) := by
      rw [keyShown_frame]
      rfl
    refine ⟨_, _, run, completes.state, completes.comp, ?_, completes.record, rfl, rfl,
      (completes.prompts b).trans (keyShown_lastPrompt ..), completes.handed, fun x other => ?_,
      armBayFrom_trans shownFrame completes.frame⟩
    · exact completes.closeAhead.trans ((if_neg fun taught => nomatch taught.1).trans (by rw [arms]))
    · rw [completes.others x other, arms]
  · exact keyShown_written b _ _ s ready (exec_finish_notHeld ready open_ mine state)

end Sys2Proof.Machine
end

section
/-! A session enters ENDING (R117, R118), said once; what an arm of the bay does with what it is asked (R51, R54), and what a
completion does at its bay (R103, R116). With them O42. -/

namespace Sys2Proof.Machine

/-! ### The entry into ENDING -/

/-- What the ending of a session asks of the arms of the bay (R118). -/
def endingAsks (b : BayNo) (s : State) : List Notice := (s.armsOf b).flatMap fun a => endingAction a s.arms[a].state

/-- What the entry of a session into ENDING makes of `s`. -/
structure Ends (b : BayNo) (cause : EndCause) (s t : State) : Prop where
  session : t.session b = (s.session b).map fun x => { x with state := .ending, endCause := some cause }
  timers : t.bays[b].attention = none ∧ t.bays[b].abandon = none ∧ t.bays[b].attentionFlag = false
  prompt : t.bays[b].lastPrompt = some ⟨.ending, [cause.code]⟩
  inbox : t.inbox = s.inbox ++ endingAsks b s ++ [.filingTest b]
  others : ∀ x : BayNo, x ≠ b → t.bays[x] = s.bays[x]
  frame : t = { s with bays := t.bays, inbox := t.inbox }

/-- The bay of a session that has entered ENDING. -/
def Bay.ended (x : Bay) (cause : EndCause) : Bay :=
  { x with session := x.session.map fun y => { y with state := .ending, endCause := some cause }
           attention := none, abandon := none, attentionFlag := false
           lastPrompt := some ⟨.ending, [cause.code]⟩, sent := x.sent ++ [⟨.ending, [cause.code]⟩] }

theorem enterEnding_eq (b : BayNo) (cause : EndCause) (s : State) :
    enterEnding b cause s = { s with
      bays := vmod s.bays b fun x => x.ended cause, inbox := s.inbox ++ endingAsks b s ++ [.filingTest b] } := by
  simp only [enterEnding, State.push, State.pushAll, State.sendShow, State.modSession, State.modBay, vmod_vmod]
  rfl

theorem enterEnding_ends (b : BayNo) (cause : EndCause) (s : State) : Ends b cause s (enterEnding b cause s) := by
  rw [enterEnding_eq]
  have here : (vmod s.bays b fun x => x.ended cause)[b] = s.bays[b].ended cause := vmod_self ..
  exact ⟨congrArg Bay.session here, ⟨congrArg Bay.attention here, congrArg Bay.abandon here,
    congrArg Bay.attentionFlag here⟩, congrArg Bay.lastPrompt here, rfl, fun x other => vmod_other _ _ _ _ other, rfl⟩

theorem Ends.comps {b : BayNo} {cause : EndCause} {s t : State} (ends : Ends b cause s t) :
    (t.session b).map Session.comps = (s.session b).map Session.comps := by
  rw [ends.session, Option.map_map]
  rfl

/-- An open session is then ENDING with the cause. -/
theorem Ends.ending {b : BayNo} {cause : EndCause} {s t : State} (ends : Ends b cause s t)
    (open_ : (s.session b).isSome = true) :
    SessionIn t b .ending ∧ (t.session b).map Session.endCause = some (some cause) := by
  obtain ⟨x, session⟩ := Option.isSome_iff_exists.1 open_
  rw [SessionIn, ends.session, session]
  exact ⟨rfl, rfl⟩

theorem Ends.compRec {b : BayNo} {cause : EndCause} {s t : State} (ends : Ends b cause s t) (c : CompNo) :
    t.compRec b c = s.compRec b c := by
  rw [compRec_eq_bind, compRec_eq_bind, ends.session]
  cases s.session b <;> rfl

theorem sessionRuns_open {s : State} {b : BayNo} (runs : sessionRuns s b = true) : (s.session b).isSome = true := by
  unfold sessionRuns at runs
  split at runs
  · next session => rw [session]; rfl
  · cases runs

theorem sessionRuns_congr {s t : State} {b : BayNo} (same : t.session b = s.session b) :
    sessionRuns t b = sessionRuns s b := by
  simp only [sessionRuns, same]

theorem sessionRuns_ending {s : State} {b : BayNo} (ending : SessionIn s b .ending) : sessionRuns s b = false := by
  obtain ⟨x, session, state⟩ := Option.map_eq_some_iff.1 ending
  simp [sessionRuns, session, state]

theorem sessionRuns_vacant {s : State} {b : BayNo} (vacant : s.session b = none) : sessionRuns s b = false := by
  simp only [sessionRuns, vacant]

theorem endSession_runs {s : State} {b : BayNo} {cause : EndCause} (runs : sessionRuns s b = true) :
    endSession b cause s = enterEnding b cause s := if_pos runs

theorem endSession_stands {s : State} {b : BayNo} {cause : EndCause} (stands : sessionRuns s b = false) :
    endSession b cause s = s := if_neg (by rw [stands]; exact Bool.false_ne_true)

/-! ### The END key -/

theorem exec_endKey {s : State} (ready : Ready s) (b : BayNo) :
    exec (.endKey b) s = .next (settleCommand (endKeyAt b (keyed b s))) :=
  inService_ready (withKey b (endKeyAt b)) s ready

theorem endKeyAt_refused {s : State} {b : BayNo} {p : Prompt} (refused : keySession s b = some p) :
    endKeyAt b s = s.sendShow b p [] := by
  simp only [endKeyAt, refused]

/-- A key at a bay whose session does not run restarts no timer (R122). -/
theorem keyed_stands {s : State} {b : BayNo} (stands : sessionRuns s b = false) : keyed b s = s.fresh := by
  have stands : sessionRuns s.fresh b = false := (sessionRuns_congr (fresh_session b s)).trans stands
  simp only [keyed, activity, stands, Bool.false_and, Bool.false_eq_true, if_false]

/-- A refused END shows its answer, and that is all. -/
theorem exec_endKey_refused {s : State} (ready : Ready s) {b : BayNo} {p : Prompt} (stands : sessionRuns s b = false)
    (refused : keySession s b = some p) : exec (.endKey b) s = .next (s.fresh.sendShow b p []).write := by
  have refused : keySession s.fresh b = some p := by
    rw [← refused, keySession, fresh_session]
    rfl
  have quiet : (s.fresh.sendShow b p []).inbox = [] := ready.2
  rw [exec_endKey ready, keyed_stands stands, endKeyAt_refused refused, settleCommand_nil _ quiet]

theorem endingAsks_keyed (b : BayNo) (s : State) : endingAsks b (keyed b s) = endingAsks b s := by
  rw [keyed_frame]
  rfl

/-- The accepted END (R117, R118). -/
theorem exec_endKey_accepted {s : State} (ready : Ready s) {b : BayNo} (runs : sessionRuns s b = true) :
    ∃ u, exec (.endKey b) s = .next (settleCommand u)
      ∧ SessionIn u b .ending ∧ (u.session b).map Session.endCause = some (some .driverEnd)
      ∧ u.bays[b].attention = none ∧ u.bays[b].abandon = none ∧ u.bays[b].attentionFlag = false
      ∧ u.bays[b].lastPrompt = some ⟨.ending, [2]⟩ ∧ u.inbox = endingAsks b s ++ [.filingTest b]
      ∧ OtherBaysSame b s u ∧ u = { s.fresh with bays := u.bays, inbox := u.inbox } := by
  have running : sessionRuns (keyed b s) b = true := (sessionRuns_congr (keyed_session b s)).trans runs
  have run := exec_endKey ready b
  have accepted : endKeyAt b (keyed b s) = enterEnding b .driverEnd (keyed b s) := by
    simp only [endKeyAt, keySession_runs running]
  rw [accepted] at run
  have ends := enterEnding_ends b .driverEnd (keyed b s)
  have inbox : (keyed b s).inbox = [] := by
    rw [keyed_frame]
    exact ready.2
  obtain ⟨ending, cause⟩ := ends.ending (sessionRuns_open running)
  obtain ⟨attention, abandon, flag⟩ := ends.timers
  refine ⟨_, run, ending, cause, attention, abandon, flag, ends.prompt, ?_, fun x other => ?_, ?_⟩
  · rw [ends.inbox, inbox, endingAsks_keyed]
    rfl
  · rw [ends.others x other, keyed_bay_other s other]
  · calc enterEnding b .driverEnd (keyed b s)
      _ = { keyed b s with bays := (enterEnding b .driverEnd (keyed b s)).bays
                           inbox := (enterEnding b .driverEnd (keyed b s)).inbox } := ends.frame
      _ = _ := congrArg (fun t : State => { t with bays := (enterEnding b .driverEnd (keyed b s)).bays
                                                   inbox := (enterEnding b .driverEnd (keyed b s)).inbox })
        (keyed_frame b s)

/-! ### SESSION END -/

theorem sessionEndOwner_of_unitNo (b : BayNo) (s : State) :
    sessionEndOwner (be 1 (unitNo b)) s
      = if (s.session b).isNone then s.answer .notFound else (endSession b .hostEnd s).answer .ok := by
  have number : fld (be 1 (unitNo b)) 0 1 = unitNo b := fld_be 1 (unitNo b) (by
    have := b.isLt
    simp only [unitNo]
    omega)
  simp only [sessionEndOwner, number, unitOf_unitNo, be_length, ne_eq, not_true, if_false]

theorem heard_session (b : BayNo) (s : State) : (heard s).session b = s.session b := fresh_session b s

section Asked

variable {s : State} {b : BayNo} (taken : Taken 0x50 s)
include taken

theorem exec_sessionEnd_vacant (vacant : s.session b = none) :
    exec (.sessionEnd (be 1 (unitNo b))) s = .next (sendReply 0x50 (.notFound, .bytes []) (heard s)).write := by
  have owner : sessionEndOwner (be 1 (unitNo b)) (heard s) = (heard s, .notFound, .bytes []) := by
    rw [sessionEndOwner_of_unitNo, heard_session, vacant]
    rfl
  exact request_quiet 0x50 _ s _ _ taken owner taken.1.2

theorem exec_sessionEnd_ending (ending : SessionIn s b .ending) :
    exec (.sessionEnd (be 1 (unitNo b))) s = .next (sendReply 0x50 (.ok, .bytes []) (heard s)).write := by
  obtain ⟨x, session, _⟩ := Option.map_eq_some_iff.1 ending
  have stands : sessionRuns (heard s) b = false :=
    (sessionRuns_congr (heard_session b s)).trans (sessionRuns_ending ending)
  have owner : sessionEndOwner (be 1 (unitNo b)) (heard s) = (heard s, .ok, .bytes []) := by
    rw [sessionEndOwner_of_unitNo, heard_session, session, endSession_stands stands]
    rfl
  exact request_quiet 0x50 _ s _ _ taken owner taken.1.2

theorem exec_sessionEnd_accepted (runs : sessionRuns s b = true) :
    ∃ u, exec (.sessionEnd (be 1 (unitNo b))) s = .next (settleCommand u)
      ∧ SessionIn u b .ending ∧ (u.session b).map Session.endCause = some (some .hostEnd)
      ∧ u.bays[b].attention = none ∧ u.bays[b].abandon = none ∧ u.bays[b].attentionFlag = false
      ∧ u.bays[b].lastPrompt = some ⟨.ending, [4]⟩ ∧ u.line.reply = bytesReply 0x50 .ok []
      ∧ u.inbox = endingAsks b s ++ [.filingTest b]
      ∧ OtherBaysSame b s u ∧ u = { heard s with line := u.line, bays := u.bays, inbox := u.inbox } := by
  have running : sessionRuns (heard s) b = true := (sessionRuns_congr (heard_session b s)).trans runs
  have owner : sessionEndOwner (be 1 (unitNo b)) (heard s) = (enterEnding b .hostEnd (heard s), .ok, .bytes []) := by
    have open_ : (s.session b).isNone = false := by
      rw [← Option.not_isSome, sessionRuns_open runs]
      rfl
    rw [sessionEndOwner_of_unitNo, heard_session, open_, endSession_runs running]
    rfl
  have run : exec (.sessionEnd (be 1 (unitNo b))) s = .next (settleCommand
      (sendReply 0x50 (.ok, .bytes []) (enterEnding b .hostEnd (heard s)))) := by
    have asked := request_taken 0x50 (sessionEndOwner (be 1 (unitNo b))) s taken
    rw [owner] at asked
    exact asked
  have ends := enterEnding_ends b .hostEnd (heard s)
  obtain ⟨ending, cause⟩ := ends.ending (sessionRuns_open running)
  obtain ⟨attention, abandon, flag⟩ := ends.timers
  have inbox : (heard s).inbox = [] := taken.1.2
  have told : (enterEnding b .hostEnd (heard s)).inbox = endingAsks b s ++ [.filingTest b] := by
    rw [ends.inbox, inbox]
    rfl
  have line : (enterEnding b .hostEnd (heard s)).line = (heard s).line := by rw [ends.frame]
  have frame := congrArg (sendReply 0x50 (.ok, .bytes [])) ends.frame
  generalize enterEnding b .hostEnd (heard s) = u at *
  rw [sendReply, State.modLine, ← line] at frame
  exact ⟨_, run, ending, cause, attention, abandon, flag, ends.prompt, rfl, told, ends.others, frame⟩

end Asked

end Sys2Proof.Machine
end

section
/-! What an arm does with the requests of an ending session (R51, R54, R118), a completion at its bay (R103, R116), and
O42. -/

namespace Sys2Proof.Machine

/-! ### The release of an ARMED arm (R54) -/

/-- The drip and the record of a release, before the arm is IDLE. -/
def compReleased (a : ArmNo) (oc : OnArm) (r : CompRec) (s : State) : State :=
  (s.modMeter a fun m => { m with unattended := addModulo m.unattended r.acc.g }).modComp oc.bay oc.comp CompRec.released

section Release

variable {a : ArmNo} {s : State} {oc : OnArm} {r : CompRec}

theorem releaseArm_armed (state : s.arms[a].state = .armed) (onArm : s.arms[a].comp = some oc)
    (found : s.compRec oc.bay oc.comp = some r) :
    releaseArm a s = enterState a .idle ((compReleased a oc r s).modArm a fun x => { x with comp := none }) := by
  have record : s.armComp a = some r := (armComp_of_onArm onArm).trans found
  have released := modArmComp_of_onArm (a := a) (oc := oc)
    (s := s.modMeter a fun m => { m with unattended := addModulo m.unattended r.acc.g }) onArm CompRec.released
  simp only [releaseArm, state, record, released]
  rfl

theorem releaseArm_other (state : s.arms[a].state ≠ .armed) : releaseArm a s = s := by
  unfold releaseArm
  split
  · next armed _ => exact absurd armed state
  · rfl

theorem released_armOnly (a : ArmNo) (oc : OnArm) (r : CompRec) (s : State) :
    ArmOnly a (compReleased a oc r s)
      (enterState a .idle ((compReleased a oc r s).modArm a fun x => { x with comp := none })) :=
  (armOnly_modArm ..).trans (armOnly_enterState ..)

theorem released_arm (a : ArmNo) (oc : OnArm) (r : CompRec) (s : State) :
    (enterState a .idle ((compReleased a oc r s).modArm a fun x => { x with comp := none })).arms[a].state = .idle
      ∧ (enterState a .idle ((compReleased a oc r s).modArm a fun x => { x with comp := none })).arms[a].comp = none :=
  ⟨enterState_state .., (reported_enterState ..).comp.trans (congrArg Arm.comp (vmod_self ..))⟩

theorem released_meter (a : ArmNo) (oc : OnArm) (r : CompRec) (s : State) :
    (compReleased a oc r s).meters[a].unattended = (s.meters[a].unattended + r.acc.g) % 1000000000000000 :=
  congrArg MeterEngine.unattended (vmod_self ..)

theorem released_compRec (a : ArmNo) (found : s.compRec oc.bay oc.comp = some r) :
    (compReleased a oc r s).compRec oc.bay oc.comp = some r.released :=
  compRec_modComp (s := s.modMeter a _) (fun _ => rfl) found

/-- The released arm, its meter and its compartment. -/
theorem take_releaseArm (state : s.arms[a].state = .armed) (onArm : s.arms[a].comp = some oc)
    (found : s.compRec oc.bay oc.comp = some r) :
    let t := take (.releaseArm a) s
    t.arms[a].state = .idle ∧ t.arms[a].comp = none ∧ OtherArmsSame a s t
      ∧ t.meters[a].unattended = (s.meters[a].unattended + r.acc.g) % 1000000000000000
      ∧ t.compRec oc.bay oc.comp = some r.released := by
  intro t
  have released : t = enterState a .idle ((compReleased a oc r s).modArm a fun x => { x with comp := none }) :=
    releaseArm_armed state onArm found
  obtain ⟨frame, others⟩ := released_armOnly a oc r s
  obtain ⟨idle, comp⟩ := released_arm a oc r s
  rw [← released] at frame others idle comp
  have meters : t.meters = (compReleased a oc r s).meters := by rw [frame]; rfl
  have session : t.session oc.bay = (compReleased a oc r s).session oc.bay := by rw [frame]; rfl
  refine ⟨idle, comp, others, ?_, (compRec_congr session oc.comp).trans (released_compRec a found)⟩
  rw [meters]
  exact released_meter a oc r s

end Release

/-! ### An arm that comes to HELD (R118) -/

theorem followDeadman_session (b x : BayNo) (s : State) : (followDeadman b s).session x = s.session x := by
  unfold followDeadman
  simp only
  split
  · split
    · split
      · rfl
      · simp only [State.session, modBay_bays, Fin.getElem_fin, vmod_get]
        split <;> rfl
    · rfl
  · simp only [State.session, modBay_bays, Fin.getElem_fin, vmod_get]
    split <;> rfl

theorem armChanged_held {a : ArmNo} {b : BayNo} {s : State} (bay : (s.armCfg a).bay = some b)
    (ending : SessionIn s b .ending) (held : s.arms[a].state = .held) :
    .finishArm a ∈ (armChanged a s).inbox := by
  obtain ⟨x, session, state⟩ := Option.map_eq_some_iff.1 ending
  have told : (reportPermissives b (followDeadman b s)).session b = some x :=
    (followDeadman_session b b s).trans session
  have arms : (reportPermissives b (followDeadman b s)).arms = s.arms :=
    congrArg Plant.arms (followDeadman_plant b s)
  simp only [armChanged, bay, told, state, arms, held, if_true, push_inbox]
  exact List.mem_append_right _ (List.mem_singleton.2 rfl)

/-! ### A completion at its bay (R103, R116, R117) -/

/-- The line made inactive, the quota settled and COMPLETED shown. -/
def completionShown (b : BayNo) (c : CompNo) (x : Session) (r : CompRec) (y : CompResult) (s : State) : State :=
  (settle x.permit r.preset y.standardDl
    (s.modComp b c fun r => { (r.modLines fun l => { l with active := false }) with active := false })).sendShow b .completed
      [unitNo c, y.deliveredOn r.basis, endReasonCode r.endReason]

section Completion

variable {b : BayNo} {c : CompNo} {x : Session} {r : CompRec} {y : CompResult} {s : State}

theorem completed_eq (session : s.session b = some x) (found : s.compRec b c = some r) (result : r.result = some y) :
    completed b c s =
      if x.state = .loading ∧ x.comps.all (fun r => r.state = .complete) = true then
        enterEnding b .complete (completionShown b c x r y s)
      else if x.state = .ending then (completionShown b c x r y s).push (.filingTest b)
      else completionShown b c x r y s := by
  simp only [completed, session, found, result]
  rfl

variable (b c x r y s)

theorem completionShown_frame : completionShown b c x r y s = { s with
    permits := modPermit s.permits x.permit fun p => p.settled r.preset y.standardDl
    bays := (completionShown b c x r y s).bays } := rfl

theorem completionShown_session :
    (completionShown b c x r y s).session b = (s.session b).map fun z => z.modComp c fun r =>
      { (r.modLines fun l => { l with active := false }) with active := false } := by
  simp only [State.session, completionShown, sendShow_bays, Fin.getElem_fin, vmod_self]
  exact session_modComp_self b c _ s

theorem completionShown_lastPrompt :
    (completionShown b c x r y s).bays[b].lastPrompt
      = some ⟨.completed, [unitNo c, y.deliveredOn r.basis, endReasonCode r.endReason]⟩ :=
  congrArg Bay.lastPrompt (vmod_self ..)

theorem completionShown_bays (z : BayNo) (other : z ≠ b) : (completionShown b c x r y s).bays[z] = s.bays[z] :=
  (vmod_other _ _ _ _ other).trans (vmod_other _ _ _ _ other)

variable {b c x r y s}

theorem completionShown_compRec (found : s.compRec b c = some r) :
    (completionShown b c x r y s).compRec b c
      = some { (r.modLines fun l => { l with active := false }) with active := false } := by
  have session : (completionShown b c x r y s).session b = (s.modComp b c fun r =>
      { (r.modLines fun l => { l with active := false }) with active := false }).session b :=
    (completionShown_session b c x r y s).trans (session_modComp_self b c _ s).symm
  rw [compRec_congr session]
  exact compRec_modComp (fun _ => rfl) found

/-- The completion of a compartment at its bay, part by part. -/
theorem take_completed (session : s.session b = some x) (found : s.compRec b c = some r) (result : r.result = some y) :
    let t := take (.completed b c) s
    let ends := x.state = .loading ∧ ∀ q ∈ x.comps, q.state = .complete
    t.compRec b c = some { (r.modLines fun l => { l with active := false }) with active := false }
      ∧ t.permits = modPermit s.permits x.permit (fun p => p.settled r.preset y.standardDl)
      ∧ t.arms = s.arms ∧ t.orders = s.orders ∧ t.notes = s.notes
      ∧ (∀ z : BayNo, z ≠ b → t.bays[z] = s.bays[z])
      ∧ (ends → SessionIn t b .ending ∧ (t.session b).map Session.endCause = some (some .complete)
          ∧ t.bays[b].lastPrompt = some ⟨.ending, [1]⟩)
      ∧ (¬ends → (t.session b).map Session.state = some x.state
          ∧ (t.session b).map Session.endCause = some x.endCause
          ∧ t.bays[b].lastPrompt = some ⟨.completed, [unitNo c, y.deliveredOn r.basis, endReasonCode r.endReason]⟩
          ∧ t.inbox = s.inbox ++ (if x.state = .ending then [.filingTest b] else [])) := by
  intro t ends
  have taken : t = if ends then enterEnding b .complete (completionShown b c x r y s)
      else if x.state = .ending then (completionShown b c x r y s).push (.filingTest b)
      else completionShown b c x r y s := by
    refine (completed_eq session found result).trans (if_congr ?_ rfl rfl)
    simp [ends]
  have record := completionShown_compRec (x := x) (y := y) found
  have frame := completionShown_frame b c x r y s
  have prompt := completionShown_lastPrompt b c x r y s
  have bays := completionShown_bays b c x r y s
  have shown := completionShown_session b c x r y s
  rw [session] at shown
  generalize completionShown b c x r y s = u at *
  have rest : u.permits = modPermit s.permits x.permit (fun p => p.settled r.preset y.standardDl) ∧ u.arms = s.arms
      ∧ u.orders = s.orders ∧ u.notes = s.notes ∧ u.inbox = s.inbox := by
    rw [frame]
    exact ⟨rfl, rfl, rfl, rfl, rfl⟩
  obtain ⟨permits, arms, orders, notes, inbox⟩ := rest
  by_cases all : ends
  · rw [if_pos all] at taken
    have ended := enterEnding_ends b .complete u
    rw [← taken] at ended
    obtain ⟨ending, cause⟩ := ended.ending (by rw [shown]; rfl)
    have kept : t.permits = u.permits ∧ t.arms = u.arms ∧ t.orders = u.orders ∧ t.notes = u.notes := by
      rw [ended.frame]
      exact ⟨rfl, rfl, rfl, rfl⟩
    obtain ⟨permits', arms', orders', notes'⟩ := kept
    exact ⟨(ended.compRec c).trans record, permits'.trans permits, arms'.trans arms, orders'.trans orders,
      notes'.trans notes, fun z other => (ended.others z other).trans (bays z other),
      fun _ => ⟨ending, cause, ended.prompt⟩, fun notAll => absurd all notAll⟩
  · rw [if_neg all] at taken
    have pushed : t = { u with inbox := s.inbox ++ if x.state = .ending then [.filingTest b] else [] } := by
      rw [taken, ← inbox]
      split
      · rfl
      · rw [List.append_nil]
    have sessions : t.session b = u.session b := by rw [pushed]; rfl
    rw [SessionIn, sessions, shown, compRec_congr sessions, pushed]
    exact ⟨record, permits, arms, orders, notes, bays, fun all' => absurd all' all,
      fun _ => ⟨rfl, rfl, prompt, rfl⟩⟩

end Completion

/-- Settles O42: the key and the message, the arm's answers, and the completion at the bay. -/
theorem endingIsEnteredOnce : Obligations.EndingIsEnteredOnce := by
  refine ⟨fun s b => ⟨fun ready runs => exec_endKey_accepted ready runs,
      fun ready vacant => exec_endKey_refused ready (sessionRuns_vacant vacant) (keySession_vacant vacant),
      fun ready ending => exec_endKey_refused ready (sessionRuns_ending ending) (keySession_ending ending),
      exec_sessionEnd_accepted, exec_sessionEnd_ending, exec_sessionEnd_vacant⟩,
    fun s a => ⟨fun flowing => ?_, stopArm_still, fun oc r armed onArm found => ?_, releaseArm_other,
      fun b => armChanged_held⟩,
    fun s b c x r y session found result => take_completed session found result⟩
  · have halting : take (.stopArm a .ending) s = enterHalting a .ending s := stopArm_flowing flowing
    have ended := enterHalting_ends a .ending s
    rw [halting]
    exact ⟨ended.state, ended.lastStop, ended.command, ended.comp, ended.others⟩
  · obtain ⟨idle, comp, others, meter, record⟩ := take_releaseArm armed onArm found
    exact ⟨idle, comp, others, meter, r.released, record, rfl, rfl, rfl, rfl, rfl, rfl, rfl, rfl, rfl, rfl⟩

end Sys2Proof.Machine
end

section
/-! The second stage of a trip (O46): its beginning, what an arm and a bay do on its notices, and the last report. -/

namespace Sys2Proof.Machine

/-! ### The second stage begins (R142) -/

theorem secondStage_begins {s : State} (trips : s.mode = .tripping) (first : s.trip.stageTwo = false) :
    SecondStageBegins s (secondStage s) := by
  have begun : secondStage s = (forcePumpsOff { s with
      relay := false
      trip := { s.trip with delay := s.trip.delay.map Timer.atLimit, stageTwo := true, awaiting := allBays } }).pushAll
        (allArms.map .forceArm ++ allInjs.map .stageTwoInjector ++ allBays.map .stageTwoNotice) := if_pos ⟨trips, first⟩
  have stopped (p : PumpNo) : (vmap Pump.stopped s.pumps)[p] = s.pumps[p].stopped := vmap_get ..
  rw [begun]
  refine ⟨trips, rfl, rfl, rfl, rfl, fun p => ⟨forcePumpsOff_pumpRun _ p, ?_⟩, rfl, rfl⟩
  exact ⟨congrArg Pump.run (stopped p), congrArg Pump.stopDelay (stopped p), (congrArg Pump.demand (stopped p)).trans rfl⟩

theorem secondStage_other {s : State} (out : s.mode ≠ .tripping ∨ s.trip.stageTwo = true) : secondStage s = s := by
  refine if_neg fun ⟨trips, first⟩ => ?_
  rcases out with other | second
  · exact other trips
  · rw [first] at second
    exact Bool.false_ne_true second

/-! ### A completion forced (R50, R142) -/

section Force

variable {a : ArmNo} {s : State} {oc : OnArm} {r : CompRec}

theorem markNotConfirmed_arms (a : ArmNo) (s : State) : (markNotConfirmed a s).arms = s.arms := by
  rw [markNotConfirmed, modArmComp_frame]

theorem markNotConfirmed_frame (a : ArmNo) (s : State) : markNotConfirmed a s = armBayFrom s (markNotConfirmed a s) := by
  rw [markNotConfirmed, modArmComp_frame]
  rfl

theorem markNotConfirmed_eq (onArm : s.arms[a].comp = some oc) :
    markNotConfirmed a s = s.modComp oc.bay oc.comp fun r => { r with valveNotConfirmed := true } :=
  modArmComp_of_onArm onArm _

theorem forceArm_eq (falls : s.arms[a].state = .closing ∨ s.arms[a].state = .halting) :
    forceArm a s = completeArm a (if s.arms[a].state = .closing then .preset else .stopped) (markNotConfirmed a s) := by
  rcases falls with state | state
  · simp only [forceArm, state, if_true]
  · simp only [forceArm, state, reduceCtorEq, if_false]

theorem forceArm_other (notClosing : s.arms[a].state ≠ .closing) (notHalting : s.arms[a].state ≠ .halting) :
    forceArm a s = s := by
  simp only [forceArm]

/-- A forced completion closes the marked compartment and teaches nothing (R50, R56). -/
theorem take_forceArm (falls : s.arms[a].state = .closing ∨ s.arms[a].state = .halting)
    (onArm : s.arms[a].comp = some oc) (found : s.compRec oc.bay oc.comp = some r) :
    let t := take (.forceArm a) s
    t.arms[a].state = .idle ∧ t.arms[a].comp = none ∧ t.arms[a].outstanding = 0
      ∧ t.arms[a].closingLimit = none ∧ t.arms[a].closeAhead = s.arms[a].closeAhead
      ∧ (∃ r' y, t.compRec oc.bay oc.comp = some r' ∧ r'.state = .complete ∧ r'.valveNotConfirmed = true
          ∧ r'.endReason = some (if s.arms[a].state = .closing then .preset else .stopped)
          ∧ r'.result = some y ∧ y.valveNotConfirmed = true
          ∧ y.grossDl = (r.acc.g + 50000) / 100000 ∧ y.standardDl = (r.acc.s + 50000) / 100000
          ∧ y.totEnd = s.meters[a].totaliser)
      ∧ .completed oc.bay oc.comp ∈ t.inbox ∧ .armChanged a ∈ t.inbox
      ∧ OtherArmsSame a s t ∧ (∀ x : BayNo, x ≠ oc.bay → t.bays[x] = s.bays[x])
      ∧ t = { s with arms := t.arms, bays := t.bays, inbox := t.inbox } := by
  intro t
  have arms := markNotConfirmed_arms a s
  have carried : (markNotConfirmed a s).arms[a].comp = some oc := by rw [arms]; exact onArm
  have marked : (markNotConfirmed a s).compRec oc.bay oc.comp = some { r with valveNotConfirmed := true } := by
    rw [markNotConfirmed_eq onArm]
    exact compRec_modComp (fun _ => rfl) found
  have meters : (markNotConfirmed a s).meters = s.meters := by rw [markNotConfirmed_frame]; rfl
  have bays (x : BayNo) (other : x ≠ oc.bay) : (markNotConfirmed a s).bays[x] = s.bays[x] := by
    rw [markNotConfirmed_eq onArm]
    exact vmod_other _ _ _ _ other
  have completes := completeArm_completes (if s.arms[a].state = .closing then .preset else .stopped) carried marked
  have closeAhead := completes.closeAhead.trans (if_neg fun taught => nomatch taught.2)
  rw [arms] at closeAhead
  have taken : t = _ := forceArm_eq falls
  rw [taken]
  refine ⟨completes.state, completes.comp, completes.outstanding, completes.closingLimit, closeAhead,
    ⟨_, _, completes.record, rfl, rfl, rfl, rfl, rfl, rfl, rfl, congrArg (·[a].totaliser) meters⟩, completes.handed,
    completes.told, fun x other => ?_, fun x other => (completes.bays x other).trans (bays x other),
    armBayFrom_trans (markNotConfirmed_frame a s) completes.frame⟩
  rw [completes.others x other, arms]

end Force

/-! ### A bay told of the trip (R120) -/

section Bays

variable {b : BayNo} {s : State}

theorem stageTwoNotice_open {x : Session} (session : s.session b = some x) :
    stageTwoNotice b s = if x.state = .ending then s.push (.filingTest b) else enterEnding b .trip s := by
  simp only [stageTwoNotice, session]

/-- A session that runs is brought into ENDING by either notice. -/
theorem notices_end (runs : sessionRuns s b = true) :
    take (.tripNotice b) s = enterEnding b .trip s ∧ take (.stageTwoNotice b) s = enterEnding b .trip s := by
  obtain ⟨x, session⟩ := Option.isSome_iff_exists.1 (sessionRuns_open runs)
  have running : x.state ≠ .ending := fun ending => by
    have stands := sessionRuns_ending (s := s) (b := b) (by rw [SessionIn, session, Option.map_some, ending])
    rw [stands] at runs
    exact Bool.false_ne_true runs
  exact ⟨endSession_runs runs, (stageTwoNotice_open session).trans (if_neg running)⟩

theorem notices_ending (ending : SessionIn s b .ending) :
    take (.tripNotice b) s = s ∧ take (.stageTwoNotice b) s = s.push (.filingTest b) := by
  obtain ⟨x, session, state⟩ := Option.map_eq_some_iff.1 ending
  exact ⟨endSession_stands (sessionRuns_ending ending), (stageTwoNotice_open session).trans (if_pos state)⟩

theorem notices_vacant (vacant : s.session b = none) :
    take (.tripNotice b) s = s ∧ take (.stageTwoNotice b) s = s.push (.bayReport b) := by
  refine ⟨endSession_stands (sessionRuns_vacant vacant), ?_⟩
  show stageTwoNotice b s = _
  simp only [stageTwoNotice, vacant]

end Bays

/-! ### The last report (R142) -/

section Reports

variable {b : BayNo} {s : State}

/-- A bay that has reported is no longer awaited. -/
def reportTaken (b : BayNo) (s : State) : State :=
  { s with trip := { s.trip with awaiting := s.trip.awaiting.filter fun x => x ≠ b } }

theorem bayReport_awaited (trips : s.mode = .tripping) (second : s.trip.stageTwo = true) (awaited : b ∈ s.trip.awaiting) :
    bayReport b s = if s.trip.awaiting.filter (fun x => x ≠ b) = [] then setMode .tripped (reportTaken b s)
      else reportTaken b s := if_pos ⟨trips, second, awaited⟩

theorem bayReport_other (out : s.mode ≠ .tripping ∨ s.trip.stageTwo = false ∨ b ∉ s.trip.awaiting) : bayReport b s = s := by
  refine if_neg fun ⟨trips, second, awaited⟩ => ?_
  rcases out with other | first | reported
  · exact other trips
  · rw [first] at second
    exact Bool.false_ne_true second
  · exact reported awaited

/-- The refreshing of a list of arms changes commands and sends notices, and nothing else. -/
theorem refreshEach_frame (l : List ArmNo) (s : State) :
    (s.each l fun s a => refreshCommand a s) = armsFrom s (s.each l fun s a => refreshCommand a s) := by
  induction l generalizing s with
  | nil => rfl
  | cons a l ih =>
    calc (refreshCommand a s).each l fun s a => refreshCommand a s
      _ = armsFrom (refreshCommand a s) _ := ih (refreshCommand a s)
      _ = armsFrom (armsFrom s (refreshCommand a s)) _ := congrArg (armsFrom · _) (armOnly_refreshCommand a s).1
      _ = _ := rfl

theorem refreshEach_arm (l : List ArmNo) (a : ArmNo) (s : State) :
    (s.each l fun s a => refreshCommand a s).arms[a].state = s.arms[a].state
      ∧ (s.each l fun s a => refreshCommand a s).arms[a].comp = s.arms[a].comp := by
  have each := each_keeps (fun s : State => (s.arms[a].state, s.arms[a].comp)) (fun s x => refreshCommand x s)
    (fun s x => by
      obtain ⟨state, comp, -⟩ := refreshCommand_keeps x a s
      simp only [state, comp]) l s
  simpa only [Prod.mk.injEq] using each

/-- The rack that has come to TRIPPED: the first cause kept, every valve CLOSE, every pump off. -/
theorem setMode_tripped (s : State) :
    let t := setMode .tripped s
    t.mode = .tripped ∧ t.relay = false
      ∧ t.trip = { s.trip with delay := none, stageTwo := false }
      ∧ (∀ p : PumpNo, pumpRun t p = false)
      ∧ (∀ a : ArmNo, t.arms[a].command = .close ∧ t.arms[a].state = s.arms[a].state ∧ t.arms[a].comp = s.arms[a].comp)
      ∧ t = { s with
          mode := t.mode, relay := t.relay, trip := t.trip, arms := t.arms, pumps := t.pumps, inbox := t.inbox } := by
  intro t
  have told : modeSet .tripped s = forcePumpsOff (modeTold .tripped s) := modeSet_out rfl s
  have frame : t = armsFrom (modeSet .tripped s) t := refreshEach_frame allArms (modeSet .tripped s)
  obtain ⟨-, -, -, pumps, -⟩ := refreshEach_rack allArms (modeSet .tripped s)
  have arm (a : ArmNo) := refreshEach_arm allArms a (modeSet .tripped s)
  have follows := setMode_follow .tripped s
  rw [told] at frame pumps arm
  have pumps : t.pumps = (forcePumpsOff (modeTold .tripped s)).pumps := pumps
  have trip : t.trip = (modeTold .tripped s).trip := by rw [frame]; rfl
  refine ⟨setMode_mode .tripped s, setMode_relay .tripped s, trip.trans ?_, fun p => ?_, fun a => ⟨?_, arm a⟩, ?_⟩
  · simp [modeTold]
  · have off := forcePumpsOff_pumpRun (modeTold .tripped s) p
    unfold pumpRun at off ⊢
    rw [pumps]
    exact off
  · have command := (stagesFollow_iff _).1 follows a
    exact command.trans (commandFor_safe _ _ _ (by rw [setMode_mode]; rfl))
  · have mode : t.mode = (modeTold .tripped s).mode := setMode_mode .tripped s
    have relay : t.relay = (modeTold .tripped s).relay := setMode_relay .tripped s
    rw [mode, relay, trip, pumps]
    exact frame

end Reports

/-- Settles O46: the beginning of the second stage, the arm and the bay told of it, and the reports. -/
theorem tripDelayBeginsTheSecondStage : Obligations.TripDelayBeginsTheSecondStage := by
  refine ⟨fun s trips first => ⟨fun ready => ⟨_, inService_ready secondStage s ready, secondStage_begins trips first⟩,
      secondStage_begins trips first⟩, fun s => secondStage_other,
    fun s a => ⟨fun oc r => take_forceArm, forceArm_other⟩,
    fun s b => ⟨fun runs => ?_, notices_ending, notices_vacant⟩,
    fun s b => ⟨fun trips second awaited some_ => ?_, fun trips second awaited none_ => ?_, bayReport_other⟩⟩
  · have ends := enterEnding_ends b .trip s
    obtain ⟨ending, cause⟩ := ends.ending (sessionRuns_open runs)
    obtain ⟨attention, abandon, flag⟩ := ends.timers
    obtain ⟨tripped, second⟩ := notices_end runs
    rw [tripped, second, and_self_iff]
    exact ⟨ending, cause, ends.comps, attention, abandon, flag, ends.prompt, ends.inbox, ends.others, ends.frame⟩
  · exact (bayReport_awaited trips second awaited).trans (if_neg some_)
  · have taken : take (.bayReport b) s = setMode .tripped (reportTaken b s) :=
      (bayReport_awaited trips second awaited).trans (if_pos none_)
    obtain ⟨mode, relay, trip, pumps, arms, frame⟩ := setMode_tripped (reportTaken b s)
    rw [taken]
    refine ⟨mode, relay, trip.trans ?_, pumps, arms, frame⟩
    simp only [reportTaken, none_]

end Sys2Proof.Machine
end

section
/-! The compare points on an interval report (O23): what the report makes of a flowing arm, and that the shots and the bay's
timers leave it there. -/

namespace Sys2Proof.Machine

/-! ### What the report decides -/

/-- The part of an arm that the compare points decide (R45, R47). -/
def Arm.stage (x : Arm) : ArmState × Stage × Option Timer × Option Timer :=
  (x.state, x.command, x.noFlowTimer, x.closingLimit)

/-- The stage of an arm of the rack. -/
def State.stageOf (a : ArmNo) (s : State) : ArmState × Stage × Option Timer × Option Timer := s.arms[a].stage

theorem stageOf_congr {a : ArmNo} {s t : State} (same : t.arms = s.arms) : t.stageOf a = s.stageOf a := by
  rw [State.stageOf, State.stageOf, same]

section Shots

variable (a : ArmNo) (s : State)

theorem takeOldest_arms (i : InjNo) : (takeOldest i s).arms = s.arms := by
  unfold takeOldest
  simp only
  split <;> rfl

theorem postShot_stage (i : InjNo) (q : ShotRequest) : (postShot i q s).stageOf a = s.stageOf a := by
  unfold postShot
  split
  · rfl
  · refine (stageOf_congr (takeOldest_arms _ i)).trans ?_
    simp only [State.stageOf, shotJoined, modArm_arms, Fin.getElem_fin, vmod_get]
    split <;> rfl

theorem postLine_stage (b : BayNo) (c : CompNo) (number fuel : Nat) :
    (postLine a b c number fuel s).stageOf a = s.stageOf a := by
  induction fuel generalizing s with
  | zero => rfl
  | succ fuel ih =>
    unfold postLine
    split
    · split
      · exact (ih _).trans (postShot_stage a _ _ _)
      · rfl
    · rfl

/-- The shots that fall due change the count of outstanding ones alone (R68, R70). -/
theorem postShots_stage (st : ArmState) : (postShots a st s).stageOf a = s.stageOf a := by
  have line (oc : OnArm) (number : Nat) (t : State) :
      (match t.lineOf ⟨a, oc.bay, oc.comp, number, 0⟩ with
        | some l => postLine a oc.bay oc.comp number (l.due - l.next) t
        | none => t).stageOf a = t.stageOf a := by
    split
    · exact postLine_stage a t ..
    · rfl
  unfold postShots
  split
  · split
    · exact (line _ 2 _).trans (line _ 1 s)
    · rfl
  · rfl

theorem interval_stage (cfg : Configuration) :
    (interval cfg a s).stageOf a
      = (armReport a (account cfg a s).meters[a].q s.pulses[a].locked (account cfg a s)).stageOf a := by
  have posted := postShots_stage a (armReport a (account cfg a s).meters[a].q s.pulses[a].locked (account cfg a s))
    s.arms[a].state
  have active (b : BayNo) (t : State) : (activity b .flow t).arms = t.arms := by
    rcases activity_cases b .flow t with same | timed
    · rw [same]
    · rw [timed]; rfl
  unfold interval
  simp only
  split
  · split
    · exact (stageOf_congr (active ..)).trans posted
    · exact posted
  · exact posted

end Shots

/-! ### The furthest state (R45) -/

theorem furthestState_eq (x : Arm) (oc : OnArm) (v : Int) (locked : Bool) :
    furthestState x oc v locked =
      if oc.closePoint ≤ v then .closing
      else if oc.tripDownPoint ≤ v ∧ (x.state = .lowStart → x.waiting = false) then .lowFinish
      else if oc.startPoint ≤ v ∧ locked = true ∧ v < oc.tripDownPoint ∧ x.state = .lowStart ∧ x.waiting = false then
        .highFlow
      else x.state := by
  simp only [furthestState, imp_iff_not_or, ne_eq]

/-- A flowing arm closes, finishes LOW, flows HIGH, or stays in LOW_START. -/
theorem furthestState_cases {x : Arm} (oc : OnArm) (v : Int) (locked : Bool) (flowing : x.state.flowing = true) :
    furthestState x oc v locked = .closing ∨ furthestState x oc v locked = .lowFinish
      ∨ furthestState x oc v locked = .highFlow ∨ (furthestState x oc v locked = .lowStart ∧ x.state = .lowStart) := by
  unfold furthestState
  simp only
  split
  · exact .inl rfl
  · split
    · exact .inr (.inl rfl)
    · split
      · exact .inr (.inr (.inl rfl))
      · cases state : x.state with
        | lowStart => exact .inr (.inr (.inr ⟨rfl, rfl⟩))
        | highFlow => exact .inr (.inr (.inl rfl))
        | lowFinish => exact .inr (.inl rfl)
        | idle | armed | closing | halting | held => rw [state] at flowing; exact nomatch flowing

/-! ### The arm after the report -/

section Report

variable (a : ArmNo) (s : State)

theorem stopNoFlow_state : (stopNoFlow a s).arms[a].state = s.arms[a].state := by
  simp [stopNoFlow, setNoFlowCond_arms]

theorem watchFlow_state (q : Nat) : (watchFlow a q s).arms[a].state = s.arms[a].state := by
  unfold watchFlow
  split
  · split
    · exact (startNoFlow_keeps a s).1
    · rfl
  · exact stopNoFlow_state a s

/-- The arm that has come to a state by its compare points: at CLOSING with the command CLOSE and its closing limit from
0 (R45, R47). -/
def Arm.CameTo (x : Arm) (st : ArmState) (valveTravel : Nat) : Prop :=
  x.state = st ∧ (st = .closing → x.command = .close ∧ x.noFlowTimer = none
    ∧ x.closingLimit = some ⟨0, 3 * valveTravel * 10000 + 200000⟩)

theorem enterClosing_cameTo : (enterClosing a s).arms[a].CameTo .closing (s.armCfg a).valveTravel := by
  have ended := (flowEnded_arm a s (st := .closing) rfl).push (.testArm a)
  rw [enterClosing_eq]
  exact ⟨ended.state, fun _ => ⟨ended.command, ended.noFlowTimer, ended.closingLimit⟩⟩

theorem entered_cameTo {st : ArmState} (still : st ≠ .closing) (valveTravel : Nat) :
    (stopNoFlow a (enterState a st s)).arms[a].CameTo st valveTravel :=
  ⟨(stopNoFlow_state a _).trans (enterState_state a st s), fun closing => absurd closing still⟩

variable {a s}

/-- A report brings a flowing arm to the furthest state it allows (R45). -/
theorem flowingReport_cameTo {oc : OnArm} {r : CompRec} (q : Nat) (locked : Bool) (onArm : s.arms[a].comp = some oc)
    (found : s.compRec oc.bay oc.comp = some r) (flowing : s.arms[a].state.flowing = true) :
    (flowingReport a q locked s).arms[a].CameTo
      (furthestState s.arms[a] oc (basisVolume oc.basis r.acc) locked) (s.armCfg a).valveTravel := by
  have record : s.armComp a = some r := (armComp_of_onArm onArm).trans found
  rcases furthestState_cases oc (basisVolume oc.basis r.acc) locked flowing with
    furthest | furthest | furthest | ⟨furthest, already⟩ <;>
    simp only [flowingReport, onArm, record, furthest]
  · exact enterClosing_cameTo a s
  · split
    · next already => exact ⟨already, fun closing => nomatch closing⟩
    · exact entered_cameTo a s (by decide) _
  · split
    · next already => exact ⟨(watchFlow_state a s q).trans already, fun closing => nomatch closing⟩
    · exact entered_cameTo a s (by decide) _
  · exact ⟨already, fun closing => nomatch closing⟩

theorem armReport_flowing (q : Nat) (locked : Bool) (flowing : s.arms[a].state.flowing = true) :
    armReport a q locked s = flowingReport a q locked s := by
  unfold armReport
  cases state : s.arms[a].state with
  | lowStart | highFlow | lowFinish => rfl
  | idle | armed | closing | halting | held => rw [state] at flowing; exact nomatch flowing

end Report

/-- Settles O23: the report judges the accumulators that the expiry leaves, and what follows it keeps the arm's stage. -/
theorem reportsMoveTheArmForward : Obligations.ReportsMoveTheArmForward := by
  intro s a oc ready used flowing onArm carried
  obtain ⟨r, record⟩ := Option.isSome_iff_exists.1 carried
  have found : s.compRec oc.bay oc.comp = some r := (armComp_of_onArm onArm).symm.trans record
  have away : s.arms[a].state ≠ .idle := fun idle => by rw [idle] at flowing; exact nomatch flowing
  obtain ⟨r', found', acc⟩ := interval_compRec used away onArm found
  have onArm' := (interval_onArm s a).trans onArm
  have arms := account_arms s.cfg a s.fresh
  have setup : (account s.cfg a s.fresh).setup = s.setup := by rw [account_frame]; rfl
  have accounted := account_compRec (cfg := s.cfg) (s := s.fresh) (unattended_false away) onArm
    ((fresh_compRec ..).trans found)
  rw [expiryGross_fresh used] at accounted
  have cameTo := flowingReport_cameTo (s := account s.cfg a s.fresh) (account s.cfg a s.fresh).meters[a].q
    s.pulses[a].locked (by rw [arms]; exact onArm) accounted (by rw [arms]; exact flowing)
  rw [← armReport_flowing _ _ (by rw [arms]; exact flowing)] at cameTo
  have stage := interval_stage a s.fresh s.cfg
  simp only [State.stageOf, Arm.stage, Prod.mk.injEq] at stage
  obtain ⟨state, command, noFlowTimer, closingLimit⟩ := stage
  obtain ⟨came, closes⟩ := cameTo
  have furthest := state.trans came
  rw [arms, furthestState_eq] at furthest
  refine ⟨_, r', exec_intervalExpiry ready a, (armComp_of_onArm onArm').trans found', onArm', interval_otherArms s a,
    interval_frame s a, ?_, fun closing => ?_⟩
  · rw [acc]
    exact furthest
  · obtain ⟨closed, stopped, limited⟩ := closes (came.symm.trans (state.symm.trans closing))
    rw [armCfg_of_setup setup] at limited
    exact ⟨command.trans closed, noFlowTimer.trans stopped, closingLimit.trans limited⟩

end Sys2Proof.Machine
end

section
/-! The closing of the retained sessions at start-up (R156, R168 step 3): what each step of it keeps, what it settles in the
permit table and what it adds to the unattended volumes. -/

namespace Sys2Proof.Machine

/-! ### What closing changes -/

/-- `s` with what the closing of retained sessions may change taken from `t`. -/
def closedFrom (s t : State) : State :=
  { s with meters := t.meters, permits := t.permits, orders := t.orders, bays := t.bays, notes := t.notes
           nv := t.nv, undo := t.undo }

/-- The configuration in force is the one that start-up has read from the retained copy. -/
def ConfigRead (s : State) : Prop :=
  s.setup.active = validConfig s.nv.config ∧ s.setup.digest = retainedDigest s.nv.config

/-- From a lawful table `ps` to `ps'` each permit that is not RETIRING stays, and its used figure rises by what `owed` gives
for its number, up to the limit (R103). -/
def Settled (owed : Nat → Nat) (ps ps' : List Permit) : Prop :=
  TableLawful ps → TableLawful ps' ∧ ∀ p ∈ ps, p.state ≠ .retiring → p.used ≤ Config.usedLimit →
    ∃ p' ∈ ps', p'.number = p.number ∧ p'.token = p.token ∧ p'.state = p.state
      ∧ p'.used = min Config.usedLimit (p.used + owed p.number)

/-- From `s` to `t` retained sessions are closed: permits are settled by `owed`, and each arm's unattended volume takes its
`drip`. -/
structure Closing (owed : Nat → Nat) (drip : ArmNo → Nat) (s t : State) : Prop where
  frame : t = closedFrom s t
  permits : Settled owed s.permits t.permits
  drips : ∀ a : ArmNo, t.meters[a].unattended % Config.totaliserModulus
    = (s.meters[a].unattended + drip a) % Config.totaliserModulus
  config : ConfigRead s → t.nv.config = s.nv.config

theorem Settled.refl (ps : List Permit) : Settled (fun _ => 0) ps ps := fun lawful =>
  ⟨lawful, fun p mem _ within => ⟨p, mem, rfl, rfl, rfl, (Nat.min_eq_right within).symm⟩⟩

theorem Settled.trans {d e : Nat → Nat} {ps qs rs : List Permit} (first : Settled d ps qs) (second : Settled e qs rs) :
    Settled (fun n => d n + e n) ps rs := by
  intro lawful
  obtain ⟨lawful1, stays1⟩ := first lawful
  obtain ⟨lawful2, stays2⟩ := second lawful1
  refine ⟨lawful2, fun p mem live within => ?_⟩
  obtain ⟨q, memq, number1, token1, state1, used1⟩ := stays1 p mem live within
  obtain ⟨r, memr, number2, token2, state2, used2⟩ := stays2 q memq (state1 ▸ live) (used1 ▸ Nat.min_le_left _ _)
  refine ⟨r, memr, number2.trans number1, token2.trans token1, state2.trans state1, ?_⟩
  rw [used2, used1, number1]
  show _ = min Config.usedLimit (p.used + (d p.number + e p.number))
  omega

theorem settled_modPermit (ps : List Permit) (n preset delivered : Nat) :
    Settled (fun k => if k = n then delivered else 0) ps (modPermit ps n fun p => p.settled preset delivered) := by
  intro lawful
  refine ⟨modPermit_lawful ps n _ (fun _ => rfl) (fun _ => rfl) lawful, fun p mem _ within =>
    ⟨_, List.mem_map_of_mem mem, ?_⟩⟩
  by_cases here : p.number = n
  · rw [if_pos here]
    exact ⟨rfl, rfl, rfl, congrArg (fun d => min Config.usedLimit (p.used + d)) (if_pos here).symm⟩
  · rw [if_neg here]
    have still : (fun k => if k = n then delivered else 0) p.number = 0 := if_neg here
    rw [still]
    exact ⟨rfl, rfl, rfl, (Nat.min_eq_right within).symm⟩

/-- A close request keeps every permit that is not RETIRING, with its used figure (R94). -/
theorem settled_closeRequest (n : Nat) (b : BayNo) (s : State) :
    Settled (fun _ => 0) s.permits (closeRequest n b s).1.permits := by
  rcases closeRequest_cases n b s with ⟨_, same⟩ | ⟨_, _, _, same⟩ | ⟨q, found, _, retiring, same⟩ | ⟨_, _, _, _, same⟩ <;>
    rw [same]
  · exact .refl _
  · exact .refl _
  · refine fun lawful => ⟨filter_lawful _ _ lawful, fun p mem live within =>
      ⟨p, List.mem_filter.2 ⟨mem, ?_⟩, rfl, rfl, rfl, (Nat.min_eq_right within).symm⟩⟩
    refine decide_eq_true fun number => live ?_
    have same : p = q := List.inj_on_of_nodup_map lawful.1 mem (List.mem_of_find?_eq_some found)
      (number.trans (findPermit_number _ _ _ found).symm)
    exact same ▸ retiring
  · refine fun lawful => ⟨modPermit_lawful _ n _ (fun _ => rfl) (fun _ => rfl) lawful, fun p mem _ within =>
      ⟨_, List.mem_map_of_mem mem, ?_⟩⟩
    split <;> exact ⟨rfl, rfl, rfl, (Nat.min_eq_right within).symm⟩

/-! ### Composition -/

theorem Closing.trans {d d' : Nat → Nat} {e e' : ArmNo → Nat} {s t u : State} (first : Closing d e s t)
    (second : Closing d' e' t u) : Closing (fun n => d n + d' n) (fun a => e a + e' a) s u where
  frame := calc u
    _ = closedFrom t u := second.frame
    _ = closedFrom (closedFrom s t) u := congrArg (closedFrom · u) first.frame
    _ = closedFrom s u := rfl
  permits := first.permits.trans second.permits
  drips a := by
    rw [second.drips, Nat.add_mod, first.drips, ← Nat.add_mod, Nat.add_assoc]
  config read := by
    have setup : t.setup = s.setup := by rw [first.frame]; rfl
    have same := first.config read
    refine (second.config ?_).trans same
    rw [ConfigRead, setup, same]
    exact read

/-- A step that leaves permits, meters and retained memory. -/
theorem Closing.of_still {s t : State} (frame : t = closedFrom s t) (permits : t.permits = s.permits)
    (meters : t.meters = s.meters) (nv : t.nv = s.nv) : Closing (fun _ => 0) (fun _ => 0) s t :=
  ⟨frame, permits ▸ .refl _, fun a => by rw [meters, Nat.add_zero], fun _ => congrArg Retained.config nv⟩

theorem Closing.refl (s : State) : Closing (fun _ => 0) (fun _ => 0) s s := .of_still rfl rfl rfl rfl

/-! ### One compartment (R54, R103, R168) -/

/-- What the closing of a compartment owes to its permit. -/
def CompRec.owed (r : CompRec) : Nat :=
  if r.state = .onArm ∧ r.started = true ∧ r.arm ≠ none then (r.acc.s + 50000) / 100000 else 0

/-- What the closing of a compartment leaves in an arm's unattended volume. -/
def CompRec.drip (r : CompRec) (a : ArmNo) : Nat :=
  if r.state = .onArm ∧ r.started = false ∧ r.arm = some a then r.acc.g else 0

/-! #### Its line (R54, R84, R151, R152) -/

theorem noteLine_head (r : CompRec) :
    (noteLine r).comp = r.no ∧ (noteLine r).preset = r.preset ∧ (noteLine r).basis = r.basis ∧ (noteLine r).code = r.code := by
  unfold noteLine
  split <;> exact ⟨rfl, rfl, rfl, rfl⟩

theorem noteLine_none {r : CompRec} (none_ : r.result = none) :
    (noteLine r).endReason = none ∧ (noteLine r).arm = none ∧ (noteLine r).grossDl = 0 ∧ (noteLine r).standardDl = 0
      ∧ (noteLine r).additives = [] := by
  simp only [noteLine, none_, and_self]

theorem noteLine_some {r : CompRec} {y : CompResult} (result : r.result = some y) :
    (noteLine r).endReason = r.endReason ∧ (noteLine r).arm = r.arm ∧ (noteLine r).grossDl = y.grossDl
      ∧ (noteLine r).standardDl = y.standardDl := by
  simp only [noteLine, result, and_self]

/-- A compartment cut short: STOPPED with its volumes, the shots not delivered missed. -/
theorem closedLine_completed {r : CompRec} (a : ArmNo) (s : State) (cut : CutShort r) :
    ClosedLine r (noteLine (completeRetained a r s)) := by
  have onArm : r.state ≠ .complete := by rw [cut.1]; decide
  refine ⟨rfl, rfl, rfl, rfl, fun _ => ⟨rfl, rfl, rfl, rfl, rfl, rfl⟩, fun _ complete => absurd complete onArm,
    fun notCut => absurd cut notCut, fun _ => ?_⟩
  show List.map _ (List.map _ (r.lines.map _)) = _
  simp only [List.map_map]
  rfl

/-- Any other record that keeps what its line shows. -/
theorem closedLine_kept {r q : CompRec} (whole : ¬CutShort r) (no : q.no = r.no) (preset : q.preset = r.preset)
    (basis : q.basis = r.basis) (code : q.code = r.code) (result : q.result = r.result)
    (complete : r.state = .complete → q.endReason = r.endReason ∧ q.arm = r.arm) : ClosedLine r (noteLine q) := by
  obtain ⟨comp', preset', basis', code'⟩ := noteLine_head q
  refine ⟨comp'.trans no, preset'.trans preset, basis'.trans basis, code'.trans code, fun cut => absurd cut whole,
    fun y done found => ?_, fun _ _ none_ => noteLine_none (result.trans none_), fun cut => absurd cut whole⟩
  obtain ⟨endReason, arm, gross, standard⟩ := noteLine_some (result.trans found)
  obtain ⟨reason, on⟩ := complete done
  exact ⟨endReason.trans reason, arm.trans on, gross, standard⟩

/-! #### Its closing -/

/-- What the closing of the compartment of the record `r` at bay `b` makes of `s`. -/
structure CompCloses (b : BayNo) (permit : Nat) (r : CompRec) (s t : State) : Prop where
  closing : Closing (fun n => if n = permit then r.owed else 0) r.drip s t
  record : ∃ f : CompRec → CompRec, t.session b = (s.session b).map (·.modComp r.no f)
    ∧ (∀ q, q.no = r.no → (f q).no = r.no) ∧ ClosedLine r (noteLine (f r))
  others : ∀ x : BayNo, x ≠ b → t.session x = s.session x
  notes : t.notes = s.notes
  nv : t.nv = s.nv

section Comp

variable (b : BayNo) (permit : Nat) {r : CompRec} (s : State)

theorem owed_drip_idle (off : ∀ a, r.state = .onArm → r.arm ≠ some a) : r.owed = 0 ∧ r.drip = fun _ => 0 := by
  refine ⟨if_neg fun ⟨state, _, arm⟩ => ?_, funext fun x => if_neg fun ⟨state, _, arm⟩ => off x state arm⟩
  obtain ⟨a, arm⟩ := Option.ne_none_iff_exists'.1 arm
  exact off a state arm

/-- A started compartment completes, and its quota is settled. -/
theorem closes_started {a : ArmNo} (state : r.state = .onArm) (arm : r.arm = some a) (started : r.started = true) :
    CompCloses b permit r s (settle permit r.preset (deciOf r.acc.s) (s.modComp b r.no fun _ => completeRetained a r s)) := by
  have cut : CutShort r := ⟨state, started, by rw [arm]; exact Option.some_ne_none a⟩
  have owed : r.owed = deciOf r.acc.s := if_pos cut
  have dry : r.drip = fun _ => 0 := funext fun x => if_neg fun armed => by
    rw [started] at armed
    exact nomatch armed.2.1
  refine ⟨?_, ⟨_, session_modComp_self b r.no _ s, fun _ _ => rfl, closedLine_completed a s cut⟩,
    fun x other => session_modComp_other _ _ s other, rfl, rfl⟩
  rw [owed, dry]
  exact ⟨rfl, settled_modPermit s.permits permit r.preset _, fun _ => rfl, fun _ => rfl⟩

/-- A compartment not started is released, its drip in the unattended volume. -/
theorem closes_armed {a : ArmNo} (state : r.state = .onArm) (arm : r.arm = some a) (armed : r.started = false) :
    CompCloses b permit r s ((s.modMeter a fun m => { m with unattended := addModulo m.unattended r.acc.g }).modComp b r.no
      CompRec.released) := by
  have whole : ¬CutShort r := fun ⟨_, started, _⟩ => by
    rw [armed] at started
    exact Bool.false_ne_true started
  have onArm : r.state ≠ .complete := by rw [state]; decide
  have owed : r.owed = 0 := if_neg whole
  have drip (x : ArmNo) : r.drip x = if x = a then r.acc.g else 0 := by
    simp only [CompRec.drip, state, arm, armed, true_and, Option.some.injEq]
    exact if_congr eq_comm rfl rfl
  refine ⟨?_, ⟨_, session_modComp_self b r.no _ _, fun _ no => no, closedLine_kept whole rfl rfl rfl rfl rfl
    fun complete => absurd complete onArm⟩, fun x other => session_modComp_other _ _ _ other, rfl, rfl⟩
  simp only [owed, ite_self]
  refine ⟨rfl, .refl _, fun x => ?_, fun _ => rfl⟩
  show (vmod s.meters a _)[x.val].unattended % _ = _
  rw [vmod_get, drip]
  split
  · exact Nat.mod_mod _ _
  · rfl

/-- A COMPLETE compartment keeps its result. -/
theorem closes_complete (state : r.state = .complete) :
    CompCloses b permit r s (s.modComp b r.no fun q => q.modLines AdditiveLine.closeAtStartUp) := by
  have off : ∀ a, r.state = .onArm → r.arm ≠ some a := fun a on => by rw [state] at on; exact nomatch on
  have whole : ¬CutShort r := fun ⟨onArm, _⟩ => by rw [state] at onArm; exact nomatch onArm
  obtain ⟨owed, dry⟩ := owed_drip_idle off
  refine ⟨?_, ⟨_, session_modComp_self b r.no _ s, fun _ no => no, closedLine_kept whole rfl rfl rfl rfl rfl
    fun _ => ⟨rfl, rfl⟩⟩, fun x other => session_modComp_other _ _ s other, rfl, rfl⟩
  simp only [owed, dry, ite_self]
  exact .of_still rfl rfl rfl rfl

/-- Any other compartment stays as it is. -/
theorem closes_other (off : ∀ a, r.state = .onArm → r.arm ≠ some a) : CompCloses b permit r s s := by
  have whole : ¬CutShort r := fun ⟨state, _, arm⟩ => by
    obtain ⟨a, arm⟩ := Option.ne_none_iff_exists'.1 arm
    exact off a state arm
  have same : s.session b = (s.session b).map (·.modComp r.no id) := by
    cases s.session b <;> simp [Session.modComp]
  obtain ⟨owed, dry⟩ := owed_drip_idle off
  refine ⟨?_, ⟨id, same, fun _ no => no, closedLine_kept whole rfl rfl rfl rfl rfl fun _ => ⟨rfl, rfl⟩⟩,
    fun _ _ => rfl, rfl, rfl⟩
  simp only [owed, dry, ite_self]
  exact .refl s

/-- One compartment of a retained session closed (R54, R103, R168). -/
theorem closeRetainedComp_closes (r : CompRec) : CompCloses b permit r s (closeRetainedComp b permit s r) := by
  unfold closeRetainedComp
  split
  · next a state arm =>
    split
    · next started => exact closes_started b permit s state arm started
    · next armed => exact closes_armed b permit s state arm (Bool.eq_false_iff.2 armed)
  · next state => exact closes_complete b permit s state
  · next off => exact closes_other b permit s off

end Comp

end Sys2Proof.Machine
end

section
/-! The notes that start-up files for the retained sessions (R150, R156, R168 step 3), and what the closing of all four bays
comes to. -/

namespace Sys2Proof.Machine

/-! ### The compartments of one session -/

/-- What the closing of the compartments `rs` of bay `b` makes of `s`. -/
structure CompsClose (b : BayNo) (permit : Nat) (rs : List CompRec) (s t : State) : Prop where
  closing : Closing (fun n => (rs.map fun r => if n = permit then r.owed else 0).sum)
    (fun a => (rs.map fun r => r.drip a).sum) s t
  records : ∃ g : CompRec → CompRec, t.session b = (s.session b).map (fun x => { x with comps := x.comps.map g })
    ∧ (∀ q, q.no ∉ rs.map CompRec.no → g q = q)
    ∧ ((rs.map CompRec.no).Nodup → ∀ r ∈ rs, ClosedLine r (noteLine (g r)))
  others : ∀ x : BayNo, x ≠ b → t.session x = s.session x
  notes : t.notes = s.notes
  nv : t.nv = s.nv

theorem closeComps_close (b : BayNo) (permit : Nat) (rs : List CompRec) (s : State) :
    CompsClose b permit rs s (rs.foldl (closeRetainedComp b permit) s) := by
  induction rs generalizing s with
  | nil =>
    refine ⟨.refl s, ⟨id, ?_, fun _ _ => rfl, fun _ _ none_ => absurd none_ List.not_mem_nil⟩, fun _ _ => rfl, rfl, rfl⟩
    cases session : s.session b <;> simp [session]
  | cons r rs ih =>
    obtain ⟨closing1, ⟨f, session1, keeps, line⟩, others1, notes1, nv1⟩ := closeRetainedComp_closes b permit s r
    obtain ⟨closing2, ⟨g, session2, still, lines⟩, others2, notes2, nv2⟩ := ih (closeRetainedComp b permit s r)
    refine ⟨?_, ⟨fun q => g (if q.no = r.no then f q else q), ?_, fun q away => ?_, fun distinct q mem => ?_⟩,
      fun x other => (others2 x other).trans (others1 x other), notes2.trans notes1, nv2.trans nv1⟩
    · simp only [List.map_cons, List.sum_cons]
      exact closing1.trans closing2
    · rw [List.foldl_cons, session2, session1]
      cases s.session b <;> simp [Session.modComp]
    · rw [List.map_cons, List.mem_cons, not_or] at away
      simp only [away.1, if_false]
      exact still q away.2
    · rw [List.map_cons, List.nodup_cons] at distinct
      obtain ⟨first, distinct⟩ := distinct
      rcases List.mem_cons.1 mem with rfl | mem
      · have closed : g (f q) = f q := still (f q) (by rw [keeps q rfl]; exact first)
        simp only [if_true, closed]
        exact line
      · have other : q.no ≠ r.no := fun same => first (same ▸ List.mem_map_of_mem mem)
        simp only [other, if_false]
        exact lines distinct q mem

/-! ### One retained session -/

/-- What the closing of a session owes to a permit. -/
def sessionOwed (x : Option Session) (n : Nat) : Nat :=
  match x with
  | some x => if x.permit = n then (x.comps.map CompRec.owed).sum else 0
  | none => 0

/-- What the closing of a session leaves in an arm's unattended volume. -/
def sessionDrip (x : Option Session) (a : ArmNo) : Nat :=
  match x with
  | some x => (x.comps.map fun r => r.drip a).sum
  | none => 0

/-- What the closing of the sessions of the bays `l` makes of `s`. -/
structure Filed (cause : StartCause) (l : List BayNo) (s t : State) : Prop where
  closing : Closing (fun n => (l.map fun b => sessionOwed (s.session b) n).sum)
    (fun a => (l.map fun b => sessionDrip (s.session b) a).sum) s t
  sessions : ∀ b : BayNo, t.session b = if b ∈ l then none else s.session b
  notes : ∃ filed : List Note, t.notes.held = s.notes.held ++ filed
    ∧ filed.map Note.bay = l.filter (fun b => (s.session b).isSome)
    ∧ (ConfigRead s → ∀ b ∈ l, ∀ x, s.session b = some x →
        ∃ n ∈ filed, ClosedNote cause (retainedRackId s.nv.config) s.line.clock b x n)

theorem sum_owed_of_permit (rs : List CompRec) (permit n : Nat) :
    (rs.map fun r => if n = permit then r.owed else 0).sum = if permit = n then (rs.map CompRec.owed).sum else 0 := by
  by_cases here : n = permit
  · subst here
    simp
  · simp [here, Ne.symm here]

/-- The note of a session whose compartments are closed. -/
theorem closedNote_build (cause : StartCause) (b : BayNo) (x : Session) (rackId : Nat) (clock : Option Stamp) (number : Nat)
    {g : CompRec → CompRec} (lines : (x.comps.map CompRec.no).Nodup → ∀ r ∈ x.comps, ClosedLine r (noteLine (g r))) :
    ClosedNote cause rackId clock b x { buildNote b { x with comps := x.comps.map g } rackId clock cause.endCause
      (cause = .power) with number := number } := by
  have stamp (t : Option Stamp) : stampOf t = t.getD ⟨0, 0⟩ := by cases t <;> rfl
  refine ⟨rfl, rfl, rfl, rfl, rfl, rfl, rfl, ?_, decide_eq_true_iff, stamp x.start, rfl, stamp clock, rfl, ?_,
    fun distinct k r l found line => ?_⟩
  · cases cause <;> rfl
  · simp [buildNote]
  · have made : (x.comps.map g).map noteLine = x.comps.map fun r => noteLine (g r) := List.map_map ..
    simp only [buildNote, made, List.getElem?_map, found, Option.map_some, Option.some.injEq] at line
    exact line ▸ lines distinct r (List.mem_of_getElem? found)

theorem closeRequest_frame (n : Nat) (b : BayNo) (s : State) :
    (closeRequest n b s).1 = { s with
      permits := (closeRequest n b s).1.permits, orders := (closeRequest n b s).1.orders } := by
  rcases closeRequest_cases n b s with ⟨_, same⟩ | ⟨_, _, _, same⟩ | ⟨_, _, _, _, same⟩ | ⟨_, _, _, _, same⟩ <;>
    simp only [same, deletePermit]

theorem image_config {s : State} (read : ConfigRead s) : s.image.config = s.nv.config := by
  obtain ⟨active, digest⟩ := read
  cases config : s.nv.config with
  | none =>
    rw [config] at active
    simp [State.image, active, config, validConfig]
  | some copy =>
    obtain ⟨c, d⟩ := copy
    rw [config] at active digest
    by_cases valid : c.digestOf = d <;>
      simp [State.image, active, digest, config, validConfig, retainedDigest, valid]

/-- The note filed, the order removed, the permit closed and the bay VACANT (R94, R156). -/
def noteFiled (b : BayNo) (x : Session) (note : Note) (s : State) : State :=
  ((closeRequest x.permit b (removeOrder x.order { s with notes := s.notes.file note })).1).modBay b
    fun y => { y with session := none }

/-- The note that start-up builds of a session whose compartments are now `comps`. -/
def closingNote (cause : StartCause) (b : BayNo) (x : Session) (comps : List CompRec) (s : State) : Note :=
  buildNote b { x with comps := comps } (retainedRackId s.nv.config) s.line.clock cause.endCause (cause = .power)

theorem closeRetained_vacant (cause : StartCause) {b : BayNo} {s : State} (vacant : s.session b = none) :
    closeRetained cause s b = s := by
  simp only [closeRetained, vacant]

theorem closeRetained_open (cause : StartCause) {b : BayNo} {x y : Session} {s t : State} (session : s.session b = some x)
    (comps : x.comps.foldl (closeRetainedComp b x.permit) s = t) (closed : t.session b = some y) :
    closeRetained cause s b = (noteFiled b x (closingNote cause b x y.comps t) t).write := by
  simp only [closeRetained, session, comps, closed]
  rfl

section Note

variable (b : BayNo) (x : Session) (note : Note) (s : State)

theorem noteFiled_frame : noteFiled b x note s = { s with
    permits := (noteFiled b x note s).permits, orders := (noteFiled b x note s).orders
    notes := s.notes.file note, bays := vmod s.bays b fun y => { y with session := none } } := by
  simp only [noteFiled]
  rw [closeRequest_frame]
  rfl

theorem noteFiled_permits : Settled (fun _ => 0) s.permits (noteFiled b x note s).permits :=
  settled_closeRequest x.permit b (removeOrder x.order { s with notes := s.notes.file note })

theorem noteFiled_closing : Closing (fun _ => 0) (fun _ => 0) s (noteFiled b x note s).write := by
  have frame := noteFiled_frame b x note s
  have permits := noteFiled_permits b x note s
  generalize noteFiled b x note s = t at *
  have meters : t.meters = s.meters := by rw [frame]
  refine ⟨?_, permits, fun a => ?_, fun read => ?_⟩
  · rw [frame]
    rfl
  · show t.meters[a].unattended % _ = _
    rw [meters, Nat.add_zero]
  · have setup : t.setup = s.setup := by rw [frame]
    have nv : t.nv = s.nv := by rw [frame]
    have kept : ConfigRead t := by
      rw [ConfigRead, setup, nv]
      exact read
    exact (image_config kept).trans (congrArg Retained.config nv)

theorem noteFiled_session (y : BayNo) :
    (noteFiled b x note s).write.session y = if y = b then none else s.session y := by
  have bays : (noteFiled b x note s).write.bays = vmod s.bays b fun y => { y with session := none } := by
    rw [noteFiled_frame]
    rfl
  simp only [State.session, bays, Fin.getElem_fin, vmod_get]
  split <;> rfl

theorem noteFiled_held :
    (noteFiled b x note s).write.notes.held = s.notes.held ++ [{ note with number := s.notes.numberFor }] := by
  show (noteFiled b x note s).notes.held = _
  rw [noteFiled_frame]
  rfl

end Note

/-- The closing of one retained session (R156). -/
theorem closeRetained_open_filed (cause : StartCause) {b : BayNo} {x : Session} {s : State}
    (session : s.session b = some x) : Filed cause [b] s (closeRetained cause s b) := by
  obtain ⟨closing, ⟨g, records, -, lines⟩, others, notes, nv⟩ := closeComps_close b x.permit x.comps s
  rw [session, Option.map_some] at records
  rw [closeRetained_open cause session rfl records]
  generalize x.comps.foldl (closeRetainedComp b x.permit) s = t at *
  have line : t.line = s.line := by rw [closing.frame]; rfl
  refine ⟨?_, fun y => ?_, ⟨[{ closingNote cause b x (x.comps.map g) t with number := t.notes.numberFor }], ?_, ?_,
    fun _ y mem z found => ⟨_, List.mem_singleton.2 rfl, ?_⟩⟩⟩
  · have closed := closing.trans (noteFiled_closing b x (closingNote cause b x (x.comps.map g) t) t)
    simpa only [List.map_cons, List.map_nil, List.sum_cons, List.sum_nil, Nat.add_zero, session, sessionOwed, sessionDrip,
      sum_owed_of_permit] using closed
  · rw [noteFiled_session]
    simp only [List.mem_singleton]
    split
    · rfl
    · next other => exact others y other
  · rw [noteFiled_held, notes]
  · simp only [List.map_cons, List.map_nil, session, Option.isSome_some, List.filter_cons_of_pos, List.filter_nil]
    rfl
  · obtain rfl := List.mem_singleton.1 mem
    obtain rfl : x = z := Option.some.inj (session.symm.trans found)
    have note := closedNote_build cause y x (retainedRackId t.nv.config) t.line.clock t.notes.numberFor lines
    rw [← nv, ← line]
    exact note

theorem closeRetained_vacant_filed (cause : StartCause) {b : BayNo} {s : State} (vacant : s.session b = none) :
    Filed cause [b] s (closeRetained cause s b) := by
  rw [closeRetained_vacant cause vacant]
  refine ⟨?_, fun y => ?_, ⟨[], (List.append_nil _).symm, ?_, fun _ y mem z found => ?_⟩⟩
  · simpa only [List.map_cons, List.map_nil, List.sum_cons, List.sum_nil, Nat.add_zero, vacant, sessionOwed, sessionDrip]
      using Closing.refl s
  · simp only [List.mem_singleton]
    split
    · next here => rw [here, vacant]
    · rfl
  · simp [vacant]
  · rw [List.mem_singleton.1 mem, vacant] at found
    exact nomatch found

theorem closeRetained_filed (cause : StartCause) (b : BayNo) (s : State) : Filed cause [b] s (closeRetained cause s b) := by
  cases session : s.session b with
  | none => exact closeRetained_vacant_filed cause session
  | some x => exact closeRetained_open_filed cause session

/-! ### The four bays -/

theorem Filed.cons {cause : StartCause} {b : BayNo} {l : List BayNo} {s t u : State} (first : Filed cause [b] s t)
    (rest : Filed cause l t u) (away : b ∉ l) : Filed cause (b :: l) s u := by
  obtain ⟨closing1, sessions1, filed1, held1, bays1, notes1⟩ := first
  obtain ⟨closing2, sessions2, filed2, held2, bays2, notes2⟩ := rest
  have same (y : BayNo) (mem : y ∈ l) : t.session y = s.session y := by
    refine (sessions1 y).trans (if_neg fun here => away ?_)
    rwa [← List.mem_singleton.1 here]
  have owed (n : Nat) : (l.map fun y => sessionOwed (t.session y) n) = l.map fun y => sessionOwed (s.session y) n :=
    List.map_congr_left fun y mem => by rw [same y mem]
  have drip (a : ArmNo) : (l.map fun y => sessionDrip (t.session y) a) = l.map fun y => sessionDrip (s.session y) a :=
    List.map_congr_left fun y mem => by rw [same y mem]
  have line : t.line = s.line := by rw [closing1.frame]; rfl
  refine ⟨?_, fun y => ?_, ⟨filed1 ++ filed2, ?_, ?_, fun read y mem x session => ?_⟩⟩
  · have both := closing1.trans closing2
    simp only [owed, drip, List.map_nil, List.map_cons, List.sum_nil, List.sum_cons, Nat.add_zero] at both
    simpa only [List.map_cons, List.sum_cons] using both
  · rw [sessions2, sessions1]
    simp only [List.mem_cons, List.not_mem_nil, or_false]
    by_cases here : y = b <;> by_cases mem : y ∈ l <;> simp [here, mem]
  · rw [held2, held1, List.append_assoc]
  · have later : l.filter (fun y => (t.session y).isSome) = l.filter fun y => (s.session y).isSome :=
      List.filter_congr fun y mem => by rw [same y mem]
    rw [List.map_append, bays1, bays2, later, ← List.filter_append]
    rfl
  · rcases List.mem_cons.1 mem with rfl | mem
    · obtain ⟨n, filed, note⟩ := notes1 read y (List.mem_singleton.2 rfl) x session
      exact ⟨n, List.mem_append_left _ filed, note⟩
    · have config := closing1.config read
      have setup : t.setup = s.setup := by rw [closing1.frame]; rfl
      have read' : ConfigRead t := by
        rw [ConfigRead, setup, config]
        exact read
      obtain ⟨n, filed, note⟩ := notes2 read' y mem x ((same y mem).trans session)
      rw [config, line] at note
      exact ⟨n, List.mem_append_right _ filed, note⟩

/-- The closing of the sessions of a list of bays (R156, R168). -/
theorem closeAll_filed (cause : StartCause) {l : List BayNo} (distinct : l.Nodup) (s : State) :
    Filed cause l s (l.foldl (closeRetained cause) s) := by
  induction l generalizing s with
  | nil =>
    exact ⟨.refl s, fun _ => (if_neg List.not_mem_nil).symm, ⟨[], (List.append_nil _).symm, rfl,
      fun _ _ none_ => absurd none_ List.not_mem_nil⟩⟩
  | cons b l ih =>
    obtain ⟨away, distinct⟩ := List.nodup_cons.1 distinct
    exact (closeRetained_filed cause b s).cons (ih distinct _) away

end Sys2Proof.Machine
end

section
/-! The end of start-up (R168 steps 2 and 4, R169): what is read, every block put into service, and the mode it ends in. -/

namespace Sys2Proof.Machine

/-! ### Reading retained memory (R168 step 2) -/

section Read

variable (s : State)

theorem readRetained_session (b : BayNo) : (readRetained s).session b = s.nv.sessions[b] :=
  congrArg Bay.session (vmap_get _ s.nv.sessions b)

theorem readRetained_unattended (a : ArmNo) :
    (readRetained s).meters[a].unattended = match s.nv.totals[a] with
      | some x => x.unattended
      | none => 0 := by
  have read : (readRetained s).meters[a] = readTotals s.nv.totals[a] := vmap_get ..
  rw [read]
  cases s.nv.totals[a] <;> rfl

theorem readRetained_config : ConfigRead (readRetained s) := ⟨rfl, rfl⟩

end Read

/-! ### The blocks put into service (R12, R17, R60, R64, R84, R125, R144) -/

theorem eachStartArm_frame (l : List ArmNo) (s : State) : s.each l startArm = { s with
    pulses := (s.each l startArm).pulses, temps := (s.each l startArm).temps, arms := (s.each l startArm).arms } := by
  induction l generalizing s with
  | nil => rfl
  | cons a l ih =>
    calc (startArm s a).each l startArm
      _ = { startArm s a with
              pulses := ((startArm s a).each l startArm).pulses, temps := ((startArm s a).each l startArm).temps
              arms := ((startArm s a).each l startArm).arms } := ih (startArm s a)
      _ = _ := rfl

/-- An arm as start-up puts it into service, its close-ahead and its travel allowance aside. -/
def Arm.AtRest (x : Arm) : Prop := x.state = .idle ∧ x.command = .close ∧ x.comp = none

theorem startArm_atRest (s : State) (a x : ArmNo) (rests : x = a ∨ s.arms[x].AtRest) : (startArm s a).arms[x].AtRest := by
  show Arm.AtRest (vmod s.arms a _)[x.val]
  rw [vmod_get]
  split
  · exact ⟨rfl, rfl, rfl⟩
  · next other => exact rests.resolve_left other

theorem eachStartArm_atRest {x : ArmNo} (l : List ArmNo) (s : State) (rests : x ∈ l ∨ s.arms[x].AtRest) :
    (s.each l startArm).arms[x].AtRest := by
  induction l generalizing s with
  | nil => exact rests.resolve_left List.not_mem_nil
  | cons a l ih =>
    refine ih (startArm s a) ?_
    rcases rests with mem | rests
    · rcases List.mem_cons.1 mem with here | mem
      · exact .inr (startArm_atRest s a x (.inl here))
      · exact .inl mem
    · exact .inr (startArm_atRest s a x (.inr rests))

theorem eachStartInj_idle {i : InjNo} (l : List InjNo) (s : State) (rests : i ∈ l ∨ s.injectors[i].state = .idle) :
    (s.each l startInj).injectors[i].state = .idle := by
  induction l generalizing s with
  | nil => exact rests.resolve_left List.not_mem_nil
  | cons j l ih =>
    have started (rests : i = j ∨ s.injectors[i].state = .idle) : (startInj s j).injectors[i].state = .idle := by
      show (vmod s.injectors j _)[i.val].state = _
      rw [vmod_get]
      split
      · rfl
      · next other => exact rests.resolve_left other
    refine ih (startInj s j) ?_
    rcases rests with mem | rests
    · rcases List.mem_cons.1 mem with here | mem
      · exact .inr (started (.inl here))
      · exact .inl mem
    · exact .inr (started (.inr rests))

/-- What putting the blocks into service makes of `s`. -/
structure PutInService (s t : State) : Prop where
  arms : ∀ a : ArmNo, t.arms[a].AtRest
  injectors : ∀ i : InjNo, t.injectors[i].state = .idle
  frame : t = { s with
    phase := .service, pulses := t.pulses, temps := t.temps, arms := t.arms, injectors := t.injectors
    pumps := .replicate 8 Pump.blank, bays := .replicate 4 Bay.blank, sup := .replicate 83 Instance.blank
    orders := [], notes := { s.notes with reserved := 0 }
    trip := { cause := s.trip.cause, delay := none, stageTwo := false, awaiting := [] }
    line := { s.line with link := .standalone, linkTimer := none }
    inbox := s.inbox ++ [.condition .estop (!s.pins.estop)] }

theorem putIntoService_puts (s : State) : PutInService s (putIntoService s) := by
  have arms (a : ArmNo) := eachStartArm_atRest (x := a) allArms s (.inl (mem_allArms a))
  have frame := eachStartArm_frame allArms s
  have injFrame := eachInj_frame (f := startInj) (fun _ _ => rfl) allInjs (s.each allArms startArm)
  have injectors (i : InjNo) := eachStartInj_idle (i := i) allInjs (s.each allArms startArm)
    (.inl (by revert i; decide))
  unfold putIntoService
  generalize s.each allArms startArm = u at *
  generalize u.each allInjs startInj = v at *
  have blocks := injFrame.trans (congrArg (fun t : State => { t with injectors := v.injectors }) frame)
  have same : v.arms = u.arms := by rw [injFrame]
  refine ⟨fun a => ?_, injectors, ?_⟩
  · show v.arms[a].AtRest
    rw [same]
    exact arms a
  · rw [blocks]
    rfl

/-! ### The mode start-up ends in (R64, R169) -/

/-- Pumps with nothing demanded and no arm waiting. -/
def PumpsBlank (s : State) : Prop := s.pumps = .replicate 8 Pump.blank

theorem forcePumpsOff_blank {s : State} (blank : PumpsBlank s) : forcePumpsOff s = s := by
  have same : vmap Pump.stopped s.pumps = s.pumps := by
    refine vec_ext _ _ fun p => ?_
    rw [vmap_get, blank, Vector.getElem_replicate]
    rfl
  rw [forcePumpsOff, same]

theorem releaseIfReady_blank {s : State} (blank : PumpsBlank s) (a : ArmNo) : releaseIfReady a s = s := by
  unfold releaseIfReady
  split
  · rfl
  · next p _ =>
    refine if_neg fun waits => ?_
    have none_ : s.pumps[p].waiting = [] := by
      rw [Fin.getElem_fin, blank, Vector.getElem_replicate]
      rfl
    rw [none_] at waits
    exact nomatch waits.1

/-- What every change of a list leaves as it is, the whole list leaves. -/
theorem each_same {α : Type} {f : State → α → State} {s : State} (same : ∀ x, f s x = s) (l : List α) : s.each l f = s := by
  induction l with
  | nil => rfl
  | cons x l ih => exact (congrArg (State.each · l f) (same x)).trans ih

theorem pumpsReturn_blank {s : State} (blank : PumpsBlank s) : pumpsReturn s = s := by
  have same : vmap (fun u : Pump => if u.demand = 0 then u else { u with state := .running, run := some 0 }) s.pumps
      = s.pumps := by
    refine vec_ext _ _ fun p => ?_
    rw [vmap_get, blank, Vector.getElem_replicate]
    rfl
  simp only [pumpsReturn, same]
  exact each_same (fun a => releaseIfReady_blank blank a) allArms

/-- With every block at rest a change of mode changes the mode, the relay and the trip control alone. -/
theorem setMode_atRest (m : Mode) {s : State} (arms : ∀ a : ArmNo, s.arms[a].AtRest) (blank : PumpsBlank s) :
    setMode m s = modeTold m s := by
  have told : modeSet m s = modeTold m s := by
    have blank' : PumpsBlank (modeTold m s) := blank
    unfold modeSet
    split
    · exact forcePumpsOff_blank blank'
    · split
      · exact pumpsReturn_blank blank'
      · rfl
  rw [setMode_eq, told]
  refine each_same (fun a => refreshCommand_same a _ ?_) allArms
  obtain ⟨state, command, -⟩ := arms a
  exact command.trans (commandFor_close m _ (by show s.arms[a].state.flowing = false; rw [state]; rfl)).symm

/-- A command whose one notice reports a condition as it already stands. -/
theorem settleCommand_same {s : State} {i : InstId} {p : Bool} (inbox : s.inbox = [.condition i p])
    (same : (s.inst i).cond = p) : settleCommand s = ({ s with inbox := [] } : State).write := by
  have taken : take (.condition i p) { s with inbox := [] } = { s with inbox := [] } := condition_same i p _ same
  have drained (fuel : Nat) : drain (fuel + 1) s = { s with inbox := [] } := by
    simp only [drain, inbox, taken]
    exact drain_nil fuel _ rfl
  exact congrArg State.write (drained 4095)

end Sys2Proof.Machine
end

section
/-! The start-up operation as a whole (O13). -/

namespace Sys2Proof.Machine

/-! ### Every block in service -/

theorem startWorking_frame (s : State) : startWorking s = { s with setup := (startWorking s).setup } := by
  unfold startWorking
  split <;> rfl

theorem startWorking_setup (s : State) :
    (startWorking s).setup.active = s.setup.active ∧ (startWorking s).setup.timer = s.setup.timer
      ∧ (s.setup.active = none → (startWorking s).setup.working = some Configuration.factory) := by
  unfold startWorking
  split
  · next active => exact ⟨rfl, rfl, fun none_ => by rw [active] at none_; exact nomatch none_⟩
  · exact ⟨rfl, rfl, fun _ => rfl⟩

/-- What start-up makes of `c`, where the retained sessions are closed, before it chooses the mode. -/
structure Started (c v : State) : Prop where
  phase : v.phase = .service
  arms : ∀ a : ArmNo, v.arms[a].AtRest
  injectors : ∀ i : InjNo, v.injectors[i].state = .idle
  pumps : PumpsBlank v
  bays : v.bays = .replicate 4 Bay.blank
  sup : v.sup = .replicate 83 Instance.blank
  orders : v.orders = []
  notes : v.notes = { c.notes with reserved := 0 }
  line : v.line = { c.line with link := .standalone, linkTimer := none }
  permits : v.permits = (cleanPermits c).permits
  meters : v.meters = c.meters
  active : v.setup.active = c.setup.active
  timer : v.setup.timer = c.setup.timer
  working : c.setup.active = none → v.setup.working = some Configuration.factory
  inbox : v.inbox = c.inbox ++ [.condition .estop (!c.pins.estop)]

theorem started_blocks (c : State) : Started c (startWorking (putIntoService (cleanPermits c))) := by
  obtain ⟨arms, injectors, frame⟩ := putIntoService_puts (cleanPermits c)
  have setup : (putIntoService (cleanPermits c)).setup = c.setup := (congrArg State.setup frame :)
  have worked := startWorking_frame (putIntoService (cleanPermits c))
  obtain ⟨active, timer, working⟩ := startWorking_setup (putIntoService (cleanPermits c))
  rw [setup] at active timer working
  generalize startWorking (putIntoService (cleanPermits c)) = v at *
  generalize putIntoService (cleanPermits c) = t at *
  exact {
    phase := (congrArg State.phase worked :).trans (congrArg State.phase frame :)
    arms := fun a => by
      have same : v.arms = t.arms := (congrArg State.arms worked :)
      rw [same]
      exact arms a
    injectors := fun i => by
      have same : v.injectors = t.injectors := (congrArg State.injectors worked :)
      rw [same]
      exact injectors i
    pumps := (congrArg State.pumps worked :).trans (congrArg State.pumps frame :)
    bays := (congrArg State.bays worked :).trans (congrArg State.bays frame :)
    sup := (congrArg State.sup worked :).trans (congrArg State.sup frame :)
    orders := (congrArg State.orders worked :).trans (congrArg State.orders frame :)
    notes := (congrArg State.notes worked :).trans (congrArg State.notes frame :)
    line := (congrArg State.line worked :).trans (congrArg State.line frame :)
    permits := (congrArg State.permits worked :).trans (congrArg State.permits frame :)
    meters := (congrArg State.meters worked :).trans (congrArg State.meters frame :)
    active := active
    timer := timer
    working := working
    inbox := (congrArg State.inbox worked :).trans (congrArg State.inbox frame :) }

/-! ### The chosen mode (R169) -/

/-- The state that start-up ends in with the mode `m`. -/
def startedIn (m : Mode) (v : State) : State := ({ modeTold m v with inbox := [] } : State).write

/-- With the emergency stop released the end of start-up takes its one notice without effect. -/
theorem settled_startedIn {c v : State} (m : Mode) (started : Started c v) (quiet : c.inbox = [])
    (released : c.pins.estop = true) : settleCommand (setMode m v) = startedIn m v := by
  have inbox : (modeTold m v).inbox = [.condition .estop false] := by
    refine started.inbox.trans ?_
    rw [quiet, released]
    rfl
  have normal : ((modeTold m v).inst .estop).cond = false := by
    show v.sup[InstId.estop.slot].cond = false
    rw [started.sup, Fin.getElem_fin, Vector.getElem_replicate]
    rfl
  rw [setMode_atRest m started.arms started.pumps]
  exact settleCommand_same inbox normal

theorem relayAfter_chosen (valid tripMode relay : Bool) :
    relayAfter (chosenMode valid tripMode) relay = decide (chosenMode valid tripMode = .run) := by
  cases valid <;> cases tripMode <;> rfl

theorem chosenMode_setup {valid tripMode : Bool} (setup : chosenMode valid tripMode = .setup) : valid = false := by
  cases valid
  · rfl
  · cases tripMode <;> exact nomatch setup

/-! ### The sums over the bays -/

theorem mem_allBays (b : BayNo) : b ∈ allBays := by revert b; decide

theorem toList_four {α : Type} (v : Vector α 4) : v.toList = allBays.map fun b => v[b] := by
  obtain ⟨⟨l⟩, size⟩ := v
  match l, size with
  | [_, _, _, _], _ => rfl

theorem settledAtStart_eq (sessions : Vector (Option Session) 4) (n : Nat) :
    settledAtStart sessions n = (allBays.map fun b => sessionOwed sessions[b] n).sum := by
  rw [settledAtStart, toList_four, List.map_map]
  rfl

theorem drippedAtStart_eq (sessions : Vector (Option Session) 4) (a : ArmNo) :
    drippedAtStart sessions a = (allBays.map fun b => sessionDrip sessions[b] a).sum := by
  rw [drippedAtStart, toList_four, List.map_map]
  rfl

/-! ### The permit table (R86, R168 step 4) -/

theorem cleanPermits_clean (c : State) :
    ∀ p ∈ (cleanPermits c).permits, p.openSession = none ∧ p.reserved = 0 ∧ p.state ≠ .retiring := by
  intro p mem
  obtain ⟨q, kept, rfl⟩ := List.mem_map.1 mem
  exact ⟨rfl, rfl, of_decide_eq_true (List.mem_filter.1 kept).2⟩

/-- The permits that stay, settled, through the clean-up. -/
theorem cleanPermits_settled {owed : Nat → Nat} {ps : List Permit} {c : State} (settled : Settled owed ps c.permits)
    (lawful : TableLawful ps) {p : Permit} (mem : p ∈ ps) (live : p.state ≠ .retiring) (within : p.used ≤ 4294967295) :
    ∃ p' ∈ (cleanPermits c).permits, p'.number = p.number ∧ p'.token = p.token
      ∧ p'.used = min 4294967295 (p.used + owed p.number) := by
  obtain ⟨-, stays⟩ := settled lawful
  obtain ⟨q, found, number, token, state, used⟩ := stays p mem live within
  refine ⟨{ q with openSession := none, reserved := 0 }, List.mem_map_of_mem (List.mem_filter.2 ⟨found, ?_⟩), number,
    token, used⟩
  exact decide_eq_true (state ▸ live)

/-! ### O13 -/

/-- Start-up after the closing of the retained sessions (R168 steps 2 and 3). -/
def sessionsClosed (cause : StartCause) (nv : Retained) (s : State) : State :=
  allBays.foldl (closeRetained cause) (readRetained { s.fresh with nv := nv })

theorem exec_startUp {s : State} {cause : StartCause} (damaged : List RetainedCopy) (phase : s.phase = .starting cause)
    (quiet : s.inbox = []) (released : s.pins.estop = true) :
    exec (.startUp damaged) s = .next (startedIn
      (chosenMode (validConfig (damaged.foldl Retained.lose s.nv).config).isSome (damaged.foldl Retained.lose s.nv).tripMode)
      (startWorking (putIntoService (cleanPermits (sessionsClosed cause (damaged.foldl Retained.lose s.nv) s))))) := by
  have ran : exec (.startUp damaged) s = .next (runStartUp cause damaged s.fresh) := by
    show execStartUp damaged s = _
    simp only [execStartUp, phase]
  have frame := (closeAll_filed cause (l := allBays) (by decide) (readRetained { s.fresh with
    nv := damaged.foldl Retained.lose s.nv })).closing.frame
  have started := started_blocks (sessionsClosed cause (damaged.foldl Retained.lose s.nv) s)
  have inbox : (sessionsClosed cause (damaged.foldl Retained.lose s.nv) s).inbox = [] :=
    (congrArg State.inbox frame :).trans quiet
  have pins : (sessionsClosed cause (damaged.foldl Retained.lose s.nv) s).pins.estop = true :=
    (congrArg (fun t : State => t.pins.estop) frame :).trans released
  have active : (startWorking (putIntoService (cleanPermits
      (sessionsClosed cause (damaged.foldl Retained.lose s.nv) s)))).setup.active
        = validConfig (damaged.foldl Retained.lose s.nv).config :=
    started.active.trans (congrArg (fun t : State => t.setup.active) frame :)
  rw [ran, ← active, ← settled_startedIn _ started inbox pins]
  rfl

section Final

variable {c v : State} (m : Mode) (started : Started c v)
include started

/-- Every block of the state that start-up ends in (R169). -/
theorem startedIn_blocks : (startedIn m v).phase = .service ∧ (∀ b : BayNo, (startedIn m v).session b = none)
    ∧ (∀ a : ArmNo, (startedIn m v).arms[a].AtRest) ∧ (∀ p : PumpNo, (startedIn m v).pumps[p] = Pump.blank)
    ∧ (∀ i : InjNo, (startedIn m v).injectors[i].state = .idle)
    ∧ (∀ i : InstId, ((startedIn m v).inst i).state = .normal ∧ ((startedIn m v).inst i).count = 0) := by
  have session (b : BayNo) : v.session b = none := by
    rw [State.session, started.bays, Fin.getElem_fin, Vector.getElem_replicate]
    rfl
  have pump (p : PumpNo) : v.pumps[p] = Pump.blank := by
    rw [started.pumps, Fin.getElem_fin, Vector.getElem_replicate]
  have inst (i : InstId) : v.inst i = Instance.blank := by
    rw [State.inst, started.sup, Fin.getElem_fin, Vector.getElem_replicate]
  exact ⟨started.phase, session, started.arms, pump, started.injectors, fun i =>
    ⟨congrArg Instance.state (inst i), congrArg Instance.count (inst i)⟩⟩

theorem startedIn_nv (b : BayNo) : (startedIn m v).nv.sessions[b] = none := by
  have blank : (vmap Bay.session v.bays)[b] = v.bays[b].session := vmap_get ..
  refine blank.trans ?_
  rw [started.bays, Fin.getElem_fin, Vector.getElem_replicate]
  rfl

end Final

/-- What start-up has read of retained memory (R168 step 2). -/
structure RetainedRead (nv : Retained) (s r : State) : Prop where
  session : ∀ b : BayNo, r.session b = nv.sessions[b]
  unattended : ∀ a : ArmNo, r.meters[a].unattended = match nv.totals[a] with
    | some x => x.unattended
    | none => 0
  permits : r.permits = nv.permits.getD []
  held : r.notes.held = (nv.notes.getD ([], 1)).1
  nv : r.nv = nv
  config : ConfigRead r
  timer : r.setup.timer = none
  line : r.line = s.line

theorem retainedRead (nv : Retained) (s : State) : RetainedRead nv s (readRetained { s.fresh with nv := nv }) :=
  ⟨readRetained_session _, readRetained_unattended _, rfl, rfl, rfl, readRetained_config _, rfl, rfl⟩

/-- Settles O13: what is read, the sessions closed and filed, the blocks in service, the mode chosen. -/
theorem startUpEndsClean : Obligations.StartUpEndsClean := by
  intro s cause damaged phase quiet released nv
  have run : exec (.startUp damaged) s = .next (startedIn (chosenMode (validConfig nv.config).isSome nv.tripMode)
      (startWorking (putIntoService (cleanPermits (sessionsClosed cause nv s))))) :=
    exec_startUp damaged phase quiet released
  have read := retainedRead nv s
  have filed : Filed cause allBays (readRetained { s.fresh with nv := nv }) (sessionsClosed cause nv s) :=
    closeAll_filed cause (by decide) _
  have started := started_blocks (sessionsClosed cause nv s)
  have clean := cleanPermits_clean (sessionsClosed cause nv s)
  clear_value nv
  generalize startWorking (putIntoService (cleanPermits (sessionsClosed cause nv s))) = v at *
  generalize sessionsClosed cause nv s = c at *
  generalize readRetained { s.fresh with nv := nv } = r at *
  obtain ⟨closing, -, notes, held, bays, lines⟩ := filed
  have line : c.line = s.line := (congrArg State.line closing.frame :).trans read.line
  have setup : c.setup = r.setup := (congrArg State.setup closing.frame :)
  have active : v.setup.active = validConfig nv.config := by
    rw [started.active, setup, read.config.1, read.nv]
  obtain ⟨phase', vacant, arms, pumps, injectors, insts⟩ := startedIn_blocks
    (chosenMode (validConfig nv.config).isSome nv.tripMode) started
  have retained := startedIn_nv (chosenMode (validConfig nv.config).isSome nv.tripMode) started
  refine ⟨_, run, phase', rfl, relayAfter_chosen _ _ _, vacant, arms, pumps, injectors, started.orders,
    congrArg NoteStore.reserved started.notes, congrArg HostLine.link started.line,
    (congrArg HostLine.clock started.line :).trans (congrArg HostLine.clock line :), insts, ?_, active, fun setUp => ?_,
    ⟨notes, (congrArg NoteStore.held started.notes).trans (held.trans (congrArg (· ++ notes) read.held)), ?_,
      fun b x found => ?_⟩,
    fun ps table lawful p mem live within => ?_, fun a => ?_, rfl, retained⟩
  · rw [← started.permits] at clean
    exact clean
  · have invalid : validConfig nv.config = none := Option.not_isSome_iff_eq_none.1 (by
      rw [chosenMode_setup setUp]
      exact Bool.false_ne_true)
    have none_ : c.setup.active = none := started.active.symm.trans (active.trans invalid)
    exact ⟨started.working none_, started.timer.trans ((congrArg SetupControl.timer setup).trans read.timer)⟩
  · simp only [bays, read.session]
  · obtain ⟨n, mem, note⟩ := lines read.config b (mem_allBays b) x ((read.session b).trans found)
    rw [read.nv, read.line] at note
    exact ⟨n, mem, note⟩
  · have table' : r.permits = ps := by rw [read.permits, table]; rfl
    obtain ⟨p', found, number, token, used⟩ := cleanPermits_settled closing.permits (table' ▸ lawful) (table' ▸ mem) live
      within
    rw [← started.permits] at found
    refine ⟨p', found, number, token, ?_⟩
    simp only [used, settledAtStart_eq, read.session]
  · have drips := closing.drips a
    simp only [read.unattended, read.session, ← drippedAtStart_eq] at drips
    rw [← started.meters] at drips
    exact drips

end Sys2Proof.Machine
end

section
/-! The bound of the injector queues (O8) under the operations of the blocks: what leaves the injectors, the operations of an
injector (R69 to R80), and the rest of what the notices ask. -/

namespace Sys2Proof.Machine

/-! ### The bound carried over -/

/-- The bound of the queues carries over from `s` to `t`. -/
structure QueuesCarry (s t : State) : Prop where
  bounded : QueuesBounded s → QueuesBounded t

namespace QueuesCarry

variable {s t u : State}

theorem refl (s : State) : QueuesCarry s s := ⟨id⟩

theorem trans (first : QueuesCarry s t) (second : QueuesCarry t u) : QueuesCarry s u :=
  ⟨second.bounded ∘ first.bounded⟩

theorem ite {c : Prop} [Decidable c] (yes : QueuesCarry s t) (no : QueuesCarry s u) :
    QueuesCarry s (if c then t else u) := by
  split
  · exact yes
  · exact no

theorem of_injectors (same : t.injectors = s.injectors) : QueuesCarry s t := ⟨fun bounded i => by
  rw [same]
  exact bounded i⟩

theorem of_plant (same : t.plant = s.plant) : QueuesCarry s t := .of_injectors (congrArg Plant.injectors same)

theorem modArm (s : State) (a : ArmNo) (f : Arm → Arm) : QueuesCarry s (s.modArm a f) := .of_injectors rfl

theorem push (s : State) (n : Notice) : QueuesCarry s (s.push n) := .of_injectors rfl

/-- One injector changes, its queue no longer than four where it was not. -/
theorem modInj (s : State) (i : InjNo) {f : Injector → Injector}
    (within : s.injectors[i].queue.length ≤ Config.queueLength →
      (f s.injectors[i]).queue.length ≤ Config.queueLength) : QueuesCarry s (s.modInj i f) := by
  refine ⟨fun bounded j => ?_⟩
  simp only [modInj_injectors, Fin.getElem_fin, vmod_get]
  split
  · next here => subst here; exact within (bounded j)
  · exact bounded j

theorem each {α : Type} {f : State → α → State} (l : List α) (carry : ∀ s x, QueuesCarry s (f s x)) :
    ∀ s : State, QueuesCarry s (s.each l f) := by
  induction l with
  | nil => exact .refl
  | cons x l ih => exact fun s => (carry s x).trans (ih (f s x))

end QueuesCarry

/-! ### Valves and pumps -/

theorem ArmOnly.injectors {a : ArmNo} {s t : State} (only : ArmOnly a s t) : t.injectors = s.injectors := only.rack.2.2.2.2

@[simp] theorem setValveCond_injectors (a : ArmNo) (p : Bool) (s : State) :
    (setValveCond a p s).injectors = s.injectors := (armOnly_setValveCond a p s).injectors

@[simp] theorem compareSwitches_injectors (a : ArmNo) (s : State) : (compareSwitches a s).injectors = s.injectors :=
  setValveCond_injectors a _ s

@[simp] theorem setNoFlowCond_injectors (a : ArmNo) (p : Bool) (s : State) :
    (setNoFlowCond a p s).injectors = s.injectors := (armOnly_setNoFlowCond a p s).injectors

@[simp] theorem stopNoFlow_injectors (a : ArmNo) (s : State) : (stopNoFlow a s).injectors = s.injectors :=
  (armOnly_stopNoFlow a s).injectors

@[simp] theorem enterState_injectors (a : ArmNo) (st : ArmState) (s : State) :
    (enterState a st s).injectors = s.injectors := (armOnly_enterState a st s).injectors

@[simp] theorem removeDemand_injectors (a : ArmNo) (s : State) : (removeDemand a s).injectors = s.injectors := by
  rw [removeDemand_frame]

@[simp] theorem startDelayReached_injectors (a : ArmNo) (s : State) : (startDelayReached a s).injectors = s.injectors := by
  unfold startDelayReached
  split
  · rfl
  · split
    · exact releaseIfReady_injectors a _
    · rfl

@[simp] theorem stopDelayAt_injectors (p : PumpNo) (s : State) : (stopDelayAt p s).injectors = s.injectors := by
  unfold stopDelayAt
  split <;> rfl

/-! ### Arms -/

@[simp] theorem modArmComp_injectors (a : ArmNo) (f : CompRec → CompRec) (s : State) :
    (s.modArmComp a f).injectors = s.injectors := congrArg Plant.injectors (modArmComp_plant s a f)

@[simp] theorem enterLowStart_injectors (a : ArmNo) (s : State) : (enterLowStart a s).injectors = s.injectors := by
  rw [enterLowStart_frame]
  rfl

@[simp] theorem enterClosing_injectors (a : ArmNo) (s : State) : (enterClosing a s).injectors = s.injectors := by
  simp only [enterClosing, push_injectors, stopNoFlow_injectors, startClosingLimit, modArm_injectors, enterState_injectors,
    removeDemand_injectors]

@[simp] theorem enterHeld_injectors (a : ArmNo) (s : State) : (enterHeld a s).injectors = s.injectors :=
  (enterHeld_armOnly a s).injectors

@[simp] theorem markNotConfirmed_injectors (a : ArmNo) (s : State) : (markNotConfirmed a s).injectors = s.injectors := by
  rw [markNotConfirmed_frame]
  rfl

@[simp] theorem completeArm_injectors (a : ArmNo) (reason : EndReason) (s : State) :
    (completeArm a reason s).injectors = s.injectors := by
  unfold completeArm
  split
  · simp only [pushFirst_injectors]
    exact (armOnly_refreshCommand a _).injectors.trans (modArmComp_injectors ..)
  · rfl

@[simp] theorem testArm_injectors (a : ArmNo) (s : State) : (testArm a s).injectors = s.injectors := by
  unfold testArm
  simp only
  split
  · split
    · exact completeArm_injectors a .preset s
    · rfl
  · split
    · exact enterHeld_injectors a s
    · rfl
  · rfl

@[simp] theorem closingLimitAt_injectors (a : ArmNo) (s : State) : (closingLimitAt a s).injectors = s.injectors := by
  unfold closingLimitAt
  simp only
  split
  · split
    · simp only [testArm_injectors, markNotConfirmed_injectors, modArm_injectors]
    · simp only [enterHeld_injectors, markNotConfirmed_injectors, modArm_injectors]
    · rfl
  · rfl

@[simp] theorem forceArm_injectors (a : ArmNo) (s : State) : (forceArm a s).injectors = s.injectors := by
  unfold forceArm
  split
  · simp only [completeArm_injectors, markNotConfirmed_injectors]
  · simp only [completeArm_injectors, markNotConfirmed_injectors]
  · rfl

@[simp] theorem finishArm_injectors (a : ArmNo) (s : State) : (finishArm a s).injectors = s.injectors := by
  unfold finishArm
  split
  · exact completeArm_injectors a .stopped s
  · rfl

@[simp] theorem releaseArm_injectors (a : ArmNo) (s : State) : (releaseArm a s).injectors = s.injectors := by
  unfold releaseArm
  split
  · simp only [enterState_injectors, modArm_injectors, modArmComp_injectors, modMeter_injectors]
  · rfl

@[simp] theorem assign_injectors (a : ArmNo) (b : BayNo) (r : CompRec) (s : State) :
    (assign a b r s).injectors = s.injectors := by
  rw [assign_frame]
  rfl

/-! ### The interval report (R45, R57, R59) -/

@[simp] theorem watchFlow_injectors (a : ArmNo) (q : Nat) (s : State) : (watchFlow a q s).injectors = s.injectors := by
  unfold watchFlow
  split
  · split <;> rfl
  · exact stopNoFlow_injectors a s

@[simp] theorem flowingReport_injectors (a : ArmNo) (q : Nat) (locked : Bool) (s : State) :
    (flowingReport a q locked s).injectors = s.injectors := by
  unfold flowingReport
  split
  · split
    · exact enterClosing_injectors a s
    · split
      · rfl
      · simp only [stopNoFlow_injectors, enterState_injectors]
    · split
      · exact watchFlow_injectors a q s
      · simp only [stopNoFlow_injectors, enterState_injectors]
    · rfl
  · rfl

@[simp] theorem armReport_injectors (a : ArmNo) (q : Nat) (locked : Bool) (s : State) :
    (armReport a q locked s).injectors = s.injectors := by
  unfold armReport
  split
  · exact flowingReport_injectors a q locked s
  · exact flowingReport_injectors a q locked s
  · exact flowingReport_injectors a q locked s
  · exact congrArg Plant.injectors (checkOverrun_plant a s)
  · rfl

/-! ### Supervision -/

@[simp] theorem startTrip_injectors (cause : TripCause) (s : State) : (startTrip cause s).injectors = s.injectors := by
  unfold startTrip
  simp only
  split
  · simp only [push_injectors, pushAll_injectors, setMode_injectors]
  · simp only [pushAll_injectors, setMode_injectors]

@[simp] theorem tripOn_injectors (i : InstId) (s : State) : (tripOn i s).injectors = s.injectors := by
  unfold tripOn
  split
  · exact startTrip_injectors _ s
  · rfl

@[simp] theorem sendStops_injectors (i : InstId) (s : State) : (sendStops i s).injectors = s.injectors :=
  congrArg Plant.injectors (sendStops_plant i s)

@[simp] theorem markWarning_injectors (i : InstId) (s : State) : (markWarning i s).injectors = s.injectors :=
  congrArg Plant.injectors (markWarning_plant i s)

@[simp] theorem markMeterFault_injectors (i : InstId) (s : State) : (markMeterFault i s).injectors = s.injectors :=
  congrArg Plant.injectors (markMeterFault_plant i s)

@[simp] theorem countUp_injectors (i : InstId) (s : State) : (countUp i s).injectors = s.injectors := rfl

@[simp] theorem enterActive_injectors (i : InstId) (fromRecovering : Bool) (s : State) :
    (enterActive i fromRecovering s).injectors = s.injectors := by
  unfold enterActive
  refine (tripOn_injectors i _).trans (congrArg Plant.injectors (?_ : State.plant _ = State.plant s))
  simp

@[simp] theorem condition_injectors (i : InstId) (present : Bool) (s : State) :
    (condition i present s).injectors = s.injectors := by
  unfold condition
  simp only
  split
  · rfl
  · split
    · split
      · split
        · exact enterActive_injectors i false _
        · rfl
      · exact enterActive_injectors i true _
      · rfl
    · split
      · rfl
      · split
        · rfl
        · split <;> rfl
      · rfl

@[simp] theorem filterExpiry_injectors (i : InstId) (s : State) : (filterExpiry i s).injectors = s.injectors := by
  unfold filterExpiry
  split
  · split
    · exact enterActive_injectors i false s
    · rfl
    · rfl
  · rfl

@[simp] theorem eventAt_injectors (i : InstId) (s : State) : (eventAt i s).injectors = s.injectors := by
  unfold eventAt
  simp only
  split
  · simp only [tripOn_injectors, markWarning_injectors, markMeterFault_injectors, countUp_injectors]
  · split
    · simp only [tripOn_injectors, sendStops_injectors, modInst_injectors, markMeterFault_injectors, countUp_injectors]
    · simp only [markMeterFault_injectors, countUp_injectors]

@[simp] theorem secondStage_injectors (s : State) : (secondStage s).injectors = s.injectors := by
  unfold secondStage
  split <;> rfl

@[simp] theorem bayReport_injectors (b : BayNo) (s : State) : (bayReport b s).injectors = s.injectors := by
  unfold bayReport
  split
  · simp only
    split
    · exact setMode_injectors .tripped _
    · rfl
  · rfl

@[simp] theorem examineTrips_injectors (s : State) : (examineTrips s).injectors = s.injectors := by
  unfold examineTrips
  split
  · split
    · exact startTrip_injectors _ s
    · rfl
  · rfl

/-! ### Injectors

A queue grows by one request alone, and only where it held fewer than four (R70). -/

theorem carry_takeOldest (i : InjNo) (s : State) : QueuesCarry s (takeOldest i s) := by
  unfold takeOldest
  simp only
  split
  · next q rest _ queue =>
    refine .modInj s i fun within => ?_
    rw [queue] at within
    exact (Nat.le_succ rest.length).trans within
  · exact .refl s

theorem carry_postShot (i : InjNo) (q : ShotRequest) (s : State) : QueuesCarry s (postShot i q s) := by
  unfold postShot
  split
  · exact .trans (.of_plant (modLineOf_plant ..)) (.modInj _ i id)
  · next accepted =>
    have room : s.injectors[i].queue.length < Config.queueLength := Nat.lt_of_not_le fun full => accepted (.inr full)
    have joined : QueuesCarry s (s.modInj i fun x => { x with queue := x.queue ++ [q] }) := by
      refine .modInj s i fun _ => ?_
      rw [List.length_append]
      exact room
    exact (joined.trans (.modArm _ q.arm _)).trans (carry_takeOldest i _)

theorem carry_shotLeft (q : ShotRequest) (s : State) : QueuesCarry s (shotLeft q s) := by
  unfold shotLeft
  split
  · exact .of_injectors rfl
  · exact .refl s

theorem carry_endShot (i : InjNo) (ending : ShotEnding) (s : State) : QueuesCarry s (endShot i ending s) := by
  unfold endShot
  split
  · simp only
    split
    · exact .trans (.modInj s i id) (.of_plant (raiseOnShot_plant ..))
    · exact .modInj s i id
  · exact .refl s

theorem carry_judgeShot (i : InjNo) (shot : Shot) (measured d : Nat) (s : State) :
    QueuesCarry s (judgeShot i shot measured d s) := by
  unfold judgeShot
  simp only
  split
  · exact .refl s
  · split
    · split
      · exact .trans (.modInj s i id) (.of_plant (raiseOnShot_plant ..))
      · exact .modInj s i id
    · exact .modInj s i id

theorem carry_finishShot (i : InjNo) (s : State) : QueuesCarry s (finishShot i s) := by
  unfold finishShot
  split
  · simp only
    refine .trans ?_ (carry_takeOldest i _)
    refine .trans (.trans ?_ (carry_shotLeft _ _)) (.push _ _)
    refine .trans (.trans (.trans ?_ (carry_judgeShot ..)) (.of_plant (modLineOf_plant ..))) (.modInj _ i id)
    exact .modInj s i id
  · exact .refl s

theorem carry_additivePulseAt (i : InjNo) (s : State) : QueuesCarry s (additivePulseAt i s) := by
  unfold additivePulseAt
  simp only
  split
  · split
    · exact .trans (.modInj s i id) (carry_endShot i .complete _)
    · exact .modInj s i id
  · exact .modInj s i id
  · split
    · exact .trans (.trans (.modInj s i id) (.modInj _ i id)) (.of_plant (raiseInj_plant ..))
    · exact .modInj s i id
  · exact .refl s

theorem carry_withdrawShots (a : ArmNo) (s : State) : QueuesCarry s (withdrawShots a s) := by
  unfold withdrawShots
  split
  · exact .refl s
  · simp only
    refine .trans (.trans ?_ (.modArm _ a _)) (.of_plant (modArmComp_plant ..))
    refine .each _ (fun t i => ?_) s
    split
    · exact .modInj t i (List.length_filter_le _ _).trans
    · exact .refl t

theorem carry_emptyQueue (i : InjNo) (s : State) : QueuesCarry s (emptyQueue i s) :=
  .trans (.modInj s i fun _ => Nat.zero_le _)
    (.each _ (fun t q => .trans (.of_plant (modLineOf_plant t q _)) (carry_shotLeft q _)) _)

theorem carry_tripInjector (i : InjNo) (s : State) : QueuesCarry s (tripInjector i s) := by
  unfold tripInjector
  split
  · exact (carry_endShot i .trip s).trans (carry_emptyQueue i _)
  · exact .refl s

theorem carry_stageTwoInjector (i : InjNo) (s : State) : QueuesCarry s (stageTwoInjector i s) := by
  unfold stageTwoInjector
  split
  · exact (carry_tripInjector i s).trans (carry_finishShot i _)
  · exact .refl s

/-! ### Shots posted (R68) -/

theorem carry_postLine (a : ArmNo) (b : BayNo) (c : CompNo) (number fuel : Nat) (s : State) :
    QueuesCarry s (postLine a b c number fuel s) := by
  induction fuel generalizing s with
  | zero => exact .refl s
  | succ fuel ih =>
    unfold postLine
    split
    · split
      · exact .trans (.trans (.of_plant (modLineOf_plant ..)) (carry_postShot ..)) (ih _)
      · exact .refl s
    · exact .refl s

theorem carry_postShots (a : ArmNo) (st : ArmState) (s : State) : QueuesCarry s (postShots a st s) := by
  have line (oc : OnArm) (number : Nat) (t : State) : QueuesCarry t
      (match t.lineOf ⟨a, oc.bay, oc.comp, number, 0⟩ with
        | some l => postLine a oc.bay oc.comp number (l.due - l.next) t
        | none => t) := by
    split
    · exact carry_postLine ..
    · exact .refl t
  unfold postShots
  split
  · split
    · exact (line _ 1 s).trans (line _ 2 _)
    · exact .refl s
  · exact .refl s

theorem carry_interval (cfg : Configuration) (a : ArmNo) (s : State) : QueuesCarry s (interval cfg a s) := by
  have report (q : Nat) (locked : Bool) (st : ArmState) :
      QueuesCarry s (postShots a st (armReport a q locked (account cfg a s))) :=
    .trans (.trans (.of_plant (account_plant cfg a s)) (.of_injectors (armReport_injectors ..))) (carry_postShots ..)
  unfold interval
  simp only
  split
  · split
    · exact (report _ _ _).trans (.of_plant (activity_plant ..))
    · exact report _ _ _
  · exact report _ _ _

/-! ### HALTING (R52, R77) and the clears (R131) -/

theorem carry_enterHalting (a : ArmNo) (cause : StopCause) (s : State) : QueuesCarry s (enterHalting a cause s) := by
  rw [enterHalting]
  refine .trans (.trans (.of_injectors ?_) (carry_withdrawShots a _)) (.push _ _)
  simp only [stopNoFlow_injectors, startClosingLimit, modArm_injectors, enterState_injectors, removeDemand_injectors]

theorem carry_stopArm (a : ArmNo) (cause : StopCause) (s : State) : QueuesCarry s (stopArm a cause s) := by
  unfold stopArm
  split
  · exact carry_enterHalting a cause s
  · exact .refl s

theorem carry_clearOne (s : State) (i : InstId) : QueuesCarry s (clearOne s i) := by
  unfold clearOne
  split
  · refine .trans (t := s.modInst i fun x => { x with state := .normal, timer := none }) (.of_injectors rfl) ?_
    unfold clearNotice
    split
    · exact .of_injectors rfl
    · exact .modInj _ _ id
    · exact .of_injectors rfl
    · exact .refl _
  · exact .refl s

theorem carry_clearAll (l : List InstId) (s : State) : QueuesCarry s (clearAll l s).1 := .each l carry_clearOne s

/-! ### The notices in flight -/

/-- Every notice taken keeps the bound: no notice posts a shot. -/
theorem carry_take (n : Notice) (s : State) : QueuesCarry s (take n s) := by
  cases n with
  | armChanged a => exact .of_plant (armChanged_plant a s)
  | testArm a => exact .of_injectors (testArm_injectors a s)
  | stopArm a cause => exact carry_stopArm a cause s
  | forceArm a => exact .of_injectors (forceArm_injectors a s)
  | finishArm a => exact .of_injectors (finishArm_injectors a s)
  | releaseArm a => exact .of_injectors (releaseArm_injectors a s)
  | redeliver a => exact .of_plant (redeliver_plant a s)
  | completed b c => exact .of_plant (completed_plant b c s)
  | condition i present => exact .of_injectors (condition_injectors i present s)
  | event i => exact .of_injectors (eventAt_injectors i s)
  | tripNotice b => exact .of_plant (endSession_plant b .trip s)
  | stageTwoNotice b => exact .of_plant (stageTwoNotice_plant b s)
  | tripInjector i => exact carry_tripInjector i s
  | stageTwoInjector i => exact carry_stageTwoInjector i s
  | bayReport b => exact .of_injectors (bayReport_injectors b s)
  | secondStage => exact .of_injectors (secondStage_injectors s)
  | filingTest b => exact .of_plant (filingTest_plant b s)
  | shotWritten b i => exact .of_plant (shotWritten_plant b i s)

theorem carry_drain (fuel : Nat) (s : State) : QueuesCarry s (drain fuel s) := by
  induction fuel generalizing s with
  | zero => exact .refl s
  | succ fuel ih =>
    unfold drain
    split
    · exact .refl s
    · next n rest _ =>
      have taken : QueuesCarry s { s with inbox := rest } := .of_injectors rfl
      exact (taken.trans (carry_take n _)).trans (ih _)

theorem carry_settleCommand (s : State) : QueuesCarry s (settleCommand s) :=
  (carry_drain _ s).trans (.of_plant (write_plant _))

end Sys2Proof.Machine
end

section
/-! Every command and every tick keeps the bound of the injector queues (O8). -/

namespace Sys2Proof.Machine

/-! ### The driver keys -/

theorem selectKey_injectors (b : BayNo) (c : CompNo) (a : ArmNo) (s : State) :
    (selectKey b c a s).injectors = s.injectors := by
  unfold selectKey
  split
  · rfl
  · exact assign_injectors a b _ _
  · rfl

theorem startKey_injectors (b : BayNo) (a : ArmNo) (s : State) : (startKey b a s).injectors = s.injectors := by
  unfold startKey
  split
  · rfl
  · rfl
  · next oc _ _ =>
    have reserved : (reserve (sessionPermit s b) oc.preset s).1.injectors = s.injectors :=
      congrArg Plant.injectors (reserve_plant ..)
    split
    · next s1 granted =>
      rw [granted] at reserved
      exact (enterLowStart_injectors a _).trans reserved
    · next s1 refused =>
      rw [refused] at reserved
      exact reserved
    · next s1 answer _ _ refused =>
      rw [refused] at reserved
      exact reserved

theorem resumeKey_injectors (b : BayNo) (a : ArmNo) (s : State) : (resumeKey b a s).injectors = s.injectors := by
  unfold resumeKey
  split
  · rfl
  · rfl
  · split
    · exact enterLowStart_injectors a _
    · rfl

theorem finishKey_injectors (b : BayNo) (a : ArmNo) (s : State) : (finishKey b a s).injectors = s.injectors := by
  unfold finishKey
  split
  · rfl
  · split
    · rfl
    · split
      · exact finishArm_injectors a _
      · rfl

theorem carry_stopKey (b : BayNo) (a : ArmNo) (s : State) : QueuesCarry s (stopKey b a s) := by
  unfold stopKey
  split
  · exact .of_injectors rfl
  · split
    · exact .of_injectors rfl
    · exact .trans (.of_plant (sendShow_plant ..)) (carry_stopArm a .key _)

/-! ### The arms' events and the additive pins -/

theorem switchChanged_injectors (a : ArmNo) (s : State) : (switchChanged a s).injectors = s.injectors := by
  unfold switchChanged
  split
  · simp only [push_injectors]
    split
    · exact compareSwitches_injectors a s
    · rfl
  · rfl

theorem travelAt_injectors (a : ArmNo) (s : State) : (travelAt a s).injectors = s.injectors := by
  unfold travelAt
  split
  · simp only
    split
    · exact compareSwitches_injectors a _
    · rfl
  · rfl

theorem quietAt_injectors (a : ArmNo) (s : State) : (quietAt a s).injectors = s.injectors := by
  unfold quietAt
  split <;> rfl

theorem noFlowAt_injectors (a : ArmNo) (s : State) : (noFlowAt a s).injectors = s.injectors := by
  unfold noFlowAt
  simp only
  split
  · exact setNoFlowCond_injectors a true _
  · rfl

theorem completionDue_injectors (a : ArmNo) (s : State) : (completionDue a s).injectors = s.injectors := by
  unfold completionDue
  split
  · exact testArm_injectors a s
  · split
    · split
      · exact finishArm_injectors a s
      · rfl
    · rfl
  · rfl

theorem pulseArrival_injectors (a : ArmNo) (s : State) : (pulseArrival a s).injectors = s.injectors := by
  unfold pulseArrival
  simp only
  split
  · exact setNoFlowCond_injectors a false _
  · rfl

theorem risingEdge_injectors (a : ArmNo) (ch : Channel) (s : State) : (risingEdge a ch s).injectors = s.injectors := by
  cases inUse : channelInUse (s.armCfg a) ch
  · rw [risingEdge_notInUse a ch s inUse]
  · rw [risingEdge_inUse a ch s inUse]
    cases ch
    · exact pulseArrival_injectors a _
    · rfl

theorem carry_fallingEdge (p : PulsePin) (s : State) : QueuesCarry s (fallingEdge p s) := by
  unfold fallingEdge
  split
  · split <;> exact .of_injectors rfl
  · split
    · exact .modInj s _ id
    · exact .refl s

theorem carry_followPin (p : PulsePin) (level : Bool) (s : State) : QueuesCarry s (followPin p level s) := by
  unfold followPin
  split
  · simp only
    split <;> exact .of_injectors rfl
  · split
    · exact .modInj s _ id
    · exact .refl s

theorem carry_additivePulse (i : InjNo) (s : State) : QueuesCarry s (additivePulse i s) := by
  unfold additivePulse
  split
  · exact .trans (.modInj s i id) (carry_additivePulseAt i _)
  · exact .refl s

/-! ### Start-up, setup control and the trip -/

/-- Queues as they are without supply, empty, meet the bound whatever was before. -/
theorem carry_toReset {s t : State} (lost : t.plant = State.reset.plant) : QueuesCarry s t :=
  ⟨fun _ => (QueuesCarry.of_plant lost).bounded reset_queuesBounded⟩

theorem carry_beginStartUp (cause : StartCause) (s : State) : QueuesCarry s (beginStartUp cause s) := carry_toReset rfl

theorem carry_putIntoService (s : State) : QueuesCarry s (putIntoService s) := by
  have arms : (s.each allArms startArm).injectors = s.injectors :=
    each_keeps State.injectors startArm (fun _ _ => rfl) allArms s
  have injs : QueuesCarry s ((s.each allArms startArm).each allInjs startInj) :=
    .trans (.of_injectors arms) (.each allInjs (fun t i => .modInj t i fun _ => Nat.zero_le _) _)
  exact ⟨injs.bounded⟩

theorem carry_runStartUp (cause : StartCause) (damaged : List RetainedCopy) (s : State) :
    QueuesCarry s (runStartUp cause damaged s) := by
  unfold runStartUp
  refine .trans (.trans ?_ (.of_injectors (setMode_injectors ..))) (carry_settleCommand _)
  refine .trans (.trans ?_ (carry_putIntoService _)) (.of_injectors (startWorking_injectors _))
  exact .of_injectors (congrArg Plant.injectors (each_plant (closeRetained cause) allBays _ (closeRetained_plant cause)))

theorem carry_decideSetupOpen (s : State) : QueuesCarry s (decideSetupOpen s) := by
  unfold decideSetupOpen
  split
  · exact .refl s
  · simp only
    split
    · exact .of_injectors rfl
    · split
      · exact .of_injectors rfl
      · refine .trans ?_ (.of_plant (sendReply_plant ..))
        exact .of_injectors (setMode_injectors .setup _)

theorem setupTimerAt_injectors (s : State) : (setupTimerAt s).injectors = s.injectors := by
  unfold setupTimerAt
  split
  · exact setMode_injectors .setupLocked _
  · rfl

theorem carry_retakeInjRecord (wasUsed : Bool) (i : InjNo) (s : State) : QueuesCarry s (retakeInjRecord wasUsed i s) := by
  unfold retakeInjRecord
  simp only
  split
  · exact .modInj s i id
  · exact .trans (.modInj s i id) (.modInj _ i id)

theorem carry_commit (c : Configuration) (digest : BitVec 16) (s : State) : QueuesCarry s (commit c digest s) := by
  have early : QueuesCarry s (s.each (allArms.filter (armRecordChanged s.setup.active c))
      fun t a => interval s.cfg a t) := .each _ (fun t a => carry_interval s.cfg a t) s
  have arms (used : ArmNo → Bool) (l : List ArmNo) (t : State) :
      QueuesCarry t (t.each l fun t a => retakeArmRecord (used a) a t) :=
    .each l (fun t a => .of_injectors (retakeArmRecord_injectors (used a) a t)) t
  have injs (used : InjNo → Bool) (l : List InjNo) (t : State) :
      QueuesCarry t (t.each l fun t i => retakeInjRecord (used i) i t) :=
    .each l (fun t i => carry_retakeInjRecord (used i) i t) t
  unfold commit
  refine .trans (.trans (.trans ?_ (carry_drain ..)) (.of_injectors (setMode_injectors .run _)))
    (.of_injectors (examineTrips_injectors _))
  refine .trans (.trans ?_ (arms (fun a => s.cfg.arms[a].used) _ _)) (injs (fun i => s.cfg.injectors[i].used) _ _)
  exact ⟨early.bounded⟩

theorem carry_replyGone (s : State) : QueuesCarry s (replyGone s) := by
  unfold replyGone
  split
  · split
    · exact carry_beginStartUp .restart s
    · exact .of_injectors rfl
  · exact .refl s

theorem carry_rackResetAt (s : State) : QueuesCarry s (rackResetAt s) := by
  refine .trans (carry_clearAll allInsts s) ?_
  unfold rackResetAt tripClearInTripped
  simp only
  split
  · split
    · exact .refl _
    · exact .of_injectors (setMode_injectors .run _)
  · exact .refl _

/-! ### The frames that commands run in -/

/-- An operation that keeps the bound of the queues. -/
def KeepsQueues (f : State → State) : Prop := ∀ s, QueuesCarry s (f s)

theorem keepsQueues_of_plant {f : State → State} (same : ∀ s, (f s).plant = s.plant) : KeepsQueues f :=
  fun s => .of_plant (same s)

theorem keepsQueues_of_injectors {f : State → State} (same : ∀ s, (f s).injectors = s.injectors) : KeepsQueues f :=
  fun s => .of_injectors (same s)

/-- Whatever state the outcome goes on in, the bound has carried over to it. -/
def QueuesNext (s : State) (x : Host.Outcome State Fault Refusal) : Prop := ∀ t, x = .next t → QueuesCarry s t

theorem queuesNext_next {s t : State} (carry : QueuesCarry s t) : QueuesNext s (.next t) := by
  intro u same
  cases same
  exact carry

section Frames

variable {f : State → State} (keeps : KeepsQueues f)
include keeps

theorem KeepsQueues.comp {g : State → State} (first : ∀ s, (g s).plant = s.plant) : KeepsQueues fun s => f (g s) :=
  fun s => .trans (.of_plant (first s)) (keeps (g s))

theorem KeepsQueues.settled : KeepsQueues fun s => settleCommand (f s) :=
  fun s => (keeps s).trans (carry_settleCommand _)

theorem inService_queues (s : State) : QueuesNext s (inService f s) := by
  refine queuesNext_next ?_
  split
  · exact (keeps.settled.comp fresh_plant) s
  · exact .of_injectors rfl

theorem onPin_queues {level : State → State} (pins : ∀ t, (level t).plant = t.plant) (s : State) :
    QueuesNext s (onPin level f s) := by
  have levelled (t : State) : (level t.fresh).plant = t.plant := pins t.fresh
  refine queuesNext_next ?_
  split
  · exact (keeps.settled.comp levelled) s
  · exact .of_plant (levelled s)

theorem onReceiver_queues (s : State) : QueuesNext s (.next (onReceiver f s)) := by
  refine queuesNext_next ?_
  unfold onReceiver
  split
  · exact .refl s
  · exact (keeps.comp fresh_plant) s

theorem receiveFrame_queues (s : State) : QueuesNext s (.next (receiveFrame f s)) := by
  have quiet : QueuesCarry s (setReceiver .hunt s.fresh) := .of_injectors rfl
  refine queuesNext_next ?_
  unfold receiveFrame
  split
  · exact .refl s
  · split
    · exact .of_injectors rfl
    · split
      · exact quiet
      · exact (keeps.comp (g := fun t => setReceiver .hunt t.fresh) fun _ => rfl) s
  · split
    · exact .of_injectors rfl
    · split
      · exact quiet
      · exact (keeps.settled.comp (g := fun t => linkUp (setReceiver .hunt t.fresh)) fun _ => rfl) s

/-- A key record is an activity event before it is judged (R122). -/
theorem withKey_queues (b : BayNo) : KeepsQueues (withKey b f) := keeps.comp (activity_plant b .key)

end Frames

/-! ### Requests of the host line -/

section Requests

variable {owner : State → State × Answer} (keeps : KeepsQueues fun s => (owner s).1)
include keeps

theorem noBody_queues (body : List Byte) : KeepsQueues fun s => (noBody body owner s).1 := by
  intro s
  unfold noBody
  simp only
  split
  · exact keeps s
  · exact .refl s

theorem addressed_queues (kind : Byte) : KeepsQueues (addressed kind owner) := by
  intro s
  unfold addressed
  simp only
  split
  · exact (keeps s).trans (.of_plant (sendReply_plant ..))
  · exact .of_injectors rfl

theorem allCall_queues (kind : Byte) : KeepsQueues (allCall kind owner) := by
  intro s
  unfold allCall
  split
  · split
    · next t _ answered =>
      have kept := keeps s
      simp only [answered] at kept
      exact kept
    · exact .refl s
  · exact .refl s

theorem request_queues (kind : Byte) (s : State) : QueuesNext s (request kind owner s) :=
  receiveFrame_queues (addressed_queues keeps kind) s

theorem requestTo_queues (dest : Dest) (kind : Byte) (s : State) : QueuesNext s (requestTo dest kind owner s) := by
  cases dest
  · exact request_queues keeps kind s
  · exact receiveFrame_queues (allCall_queues keeps kind) s

end Requests

theorem setupAbandonOwner_queues : KeepsQueues fun s => (setupAbandonOwner s).1 := by
  intro s
  unfold setupAbandonOwner
  simp only
  split
  · refine .trans (.trans ?_ (.of_injectors (examineTrips_injectors _))) (.of_plant (answer_plant ..))
    exact .of_injectors (setMode_injectors .run _)
  · exact .refl s

theorem setupCloseOwner_queues (body : List Byte) : KeepsQueues fun s => (setupCloseOwner body s).1 := by
  intro s
  unfold setupCloseOwner
  simp only
  split
  · exact .refl s
  · split
    · split
      · exact .refl s
      · split
        · exact (carry_commit _ _ s).trans (.of_plant (answer_plant ..))
        · exact .refl s
    · exact .refl s

theorem clearOwner_queues (body : List Byte) : KeepsQueues fun s => (clearOwner body s).1 := by
  intro s
  unfold clearOwner
  simp only
  cases parseClear body with
  | none => exact .refl s
  | some x =>
    simp only [apply_ite Prod.fst]
    exact .ite (.refl s) ((carry_clearAll _ s).trans (.of_plant (okBytes_plant ..)))

theorem tripRequestOwner_queues : KeepsQueues fun s => (tripRequestOwner s).1 := by
  intro s
  unfold tripRequestOwner
  simp only
  split
  · exact .of_injectors (startTrip_injectors .host s)
  · exact .refl s
  · exact .refl s
  · exact .refl s

theorem tripClearOwner_queues : KeepsQueues fun s => (tripClearOwner s).1 := by
  intro s
  unfold tripClearOwner
  simp only
  split
  · exact .refl s
  · exact .refl s
  · split
    · exact .refl s
    · exact .of_injectors (setMode_injectors .run s)
  · exact .refl s

theorem setupOpenFrame_queues (body : List Byte) : KeepsQueues fun s =>
    if s.mode = .run ∧ body = [] then setupQuery s else addressed 0x20 (noBody body setupOpenOwner) s := by
  intro s
  simp only
  split
  · exact .of_injectors rfl
  · exact addressed_queues (noBody_queues (keepsQueues_of_plant setupOpenOwner_plant) body) 0x20 s

/-! ### Commands -/

/-- A command in service whose operation leaves the injectors. -/
theorem inService_leaves {f : State → State} (same : ∀ s, (f s).injectors = s.injectors) (s : State) :
    QueuesNext s (inService f s) := inService_queues (keepsQueues_of_injectors same) s

/-- A command in service whose operation leaves the whole plant. -/
theorem inService_reads {f : State → State} (same : ∀ s, (f s).plant = s.plant) (s : State) :
    QueuesNext s (inService f s) := inService_queues (keepsQueues_of_plant same) s

/-- A message whose owner leaves the plant. -/
theorem request_reads {owner : State → State × Answer} (same : ∀ s, (owner s).1.plant = s.plant) (kind : Byte)
    (s : State) : QueuesNext s (request kind owner s) := request_queues (keepsQueues_of_plant same) kind s

/-- A message without a body whose owner leaves the plant. -/
theorem request_noBody_reads {owner : State → State × Answer} (same : ∀ s, (owner s).1.plant = s.plant) (kind : Byte)
    (body : List Byte) (s : State) : QueuesNext s (request kind (noBody body owner) s) :=
  request_queues (noBody_queues (keepsQueues_of_plant same) body) kind s

/-- A byte or a pause on the line that moves the receiver alone (R172). -/
theorem onReceiver_moves {f : State → State} (same : ∀ s, (f s).plant = s.plant) (s : State) :
    QueuesNext s (.next (onReceiver f s)) := onReceiver_queues (keepsQueues_of_plant same) s

theorem exec_queues (c : Instr) (s : State) : QueuesNext s (exec c s) := by
  cases c with
  | powerUp => exact queuesNext_next (carry_beginStartUp .power s)
  | startUp damaged =>
    refine queuesNext_next ?_
    split
    · exact .trans (.of_plant (fresh_plant s)) (carry_runStartUp _ damaged _)
    · exact .of_plant (fresh_plant s)
  | acceptedRisingEdge arm channel =>
    exact inService_leaves (fun t => (risingEdge_injectors arm channel _).trans
      (congrArg Plant.injectors (setPulsePin_plant _ _ t))) s
  | acceptedFallingEdge pin =>
    exact inService_queues (.comp (carry_fallingEdge pin) (setPulsePin_plant _ _)) s
  | pulsePinChange pin level => exact onPin_queues (carry_followPin pin level) (setPulsePin_plant pin level) s
  | readingRecord arm record =>
    cases record with
    | none => exact inService_reads (fun _ => rfl) s
    | some r => exact inService_reads (recordArrival_plant arm r) s
  | recordTimerExpiry arm => exact inService_reads (recordTimerAt_plant arm) s
  | intervalExpiry arm =>
    show QueuesNext s (inService (fun t => interval t.cfg arm t) s)
    exact inService_queues (fun t => carry_interval t.cfg arm t) s
  | valveSwitchChange arm switch level =>
    exact onPin_queues (keepsQueues_of_injectors (switchChanged_injectors arm)) (setSwitch_plant arm switch level) s
  | travelAllowanceExpiry arm => exact inService_leaves (travelAt_injectors arm) s
  | quietTimerExpiry arm => exact inService_leaves (quietAt_injectors arm) s
  | closingLimitExpiry arm => exact inService_leaves (closingLimitAt_injectors arm) s
  | noFlowTimerExpiry arm => exact inService_leaves (noFlowAt_injectors arm) s
  | compartmentCompletion arm => exact inService_leaves (completionDue_injectors arm) s
  | pumpStartDelayReached arm => exact inService_leaves (startDelayReached_injectors arm) s
  | stopDelayExpiry pump => exact inService_leaves (stopDelayAt_injectors pump) s
  | additivePulse inj =>
    exact inService_queues (.comp (carry_additivePulse inj)
      (g := fun t => { t with pins := { t.pins with additive := vset t.pins.additive inj true } }) fun _ => rfl) s
  | shotTimeLimit inj => exact inService_queues (carry_endShot inj .shortfall) s
  | settleTimeExpiry inj => exact inService_queues (carry_finishShot inj) s
  | bayPermitChange bay permit level =>
    refine onPin_queues (keepsQueues_of_plant fun u => ?_) (setPermitPin_plant bay permit level) s
    split
    · rfl
    · exact permitChanged_plant bay permit u
  | deadmanPress bay held =>
    exact onPin_queues (keepsQueues_of_plant fun t => (judgePress_plant bay _).trans (activity_plant bay .deadman t))
      (setDeadmanPin_plant bay held) s
  | deadmanWindowOpens bay => exact inService_reads (windowOpensAt_plant bay) s
  | deadmanLate bay => exact inService_reads (deadmanLateAt_plant bay) s
  | attentionTimerExpiry bay => exact inService_reads (attentionAt_plant bay) s
  | abandonTimerExpiry bay => exact inService_reads (abandonAt_plant bay) s
  | noteFiling bay => exact inService_reads (filingTest_plant bay) s
  | card bay token => exact inService_reads (cardAt_plant bay token) s
  | select bay comp arm =>
    exact inService_queues (withKey_queues (keepsQueues_of_injectors (selectKey_injectors bay comp arm)) bay) s
  | start bay arm =>
    exact inService_queues (withKey_queues (keepsQueues_of_injectors (startKey_injectors bay arm)) bay) s
  | resume bay arm =>
    exact inService_queues (withKey_queues (keepsQueues_of_injectors (resumeKey_injectors bay arm)) bay) s
  | stop bay arm => exact inService_queues (withKey_queues (carry_stopKey bay arm) bay) s
  | finish bay arm =>
    exact inService_queues (withKey_queues (keepsQueues_of_injectors (finishKey_injectors bay arm)) bay) s
  | endKey bay => exact inService_queues (withKey_queues (keepsQueues_of_plant (endKeyAt_plant bay)) bay) s
  | resetKey bay =>
    exact inService_queues (withKey_queues (fun t =>
      (carry_clearAll (resetScope t bay) t).trans (.of_plant (sendShow_plant ..))) bay) s
  | malformedRecord bay bytes => exact queuesNext_next (.of_injectors rfl)
  | estopInputChange level =>
    exact onPin_queues (keepsQueues_of_plant fun t => push_plant t (.condition .estop (!level)))
      (setEstopPin_plant level) s
  | rackReset held => exact onPin_queues carry_rackResetAt (setResetPin_plant held) s
  | filterTimerExpiry inst => exact inService_leaves (filterExpiry_injectors inst) s
  | tripDelayExpiry => exact inService_leaves secondStage_injectors s
  | setupTimerExpiry => exact inService_leaves setupTimerAt_injectors s
  | setupOpenDecision => exact inService_queues carry_decideSetupOpen s
  | linkTimeout => exact inService_reads linkTimeoutAt_plant s
  | clockSecond =>
    refine queuesNext_next ?_
    split
    · exact .refl s
    · exact .of_plant (secondPasses_plant s.fresh)
    · exact .trans (.of_plant (secondPasses_plant s.fresh)) (carry_settleCommand _)
  | interByteGap => exact onReceiver_moves (fun t => by simp only [ite_plant, setReceiver_plant, ite_self]) s
  | lineIdle => exact onReceiver_moves (fun t => by simp only [ite_plant, setReceiver_plant, ite_self]) s
  | frameDiscarded bytes => exact onReceiver_moves (discardFrame_plant bytes) s
  | replyComplete => exact onReceiver_queues carry_replyGone s
  | unknownKind kind body =>
    simp only [exec, execUnknownKind]
    split
    · exact onReceiver_moves (fun t => by simp only [ite_plant, setReceiver_plant, ite_self]) s
    · exact receiveFrame_queues (keepsQueues_of_plant fun s => sendReply_plant kind _ s) s
  | rackStatus body => exact request_noBody_reads (fun _ => rfl) _ body s
  | bayStatus body => exact request_reads (unitStatus_plant body _) _ s
  | armStatus body => exact request_reads (unitStatus_plant body _) _ s
  | injectorStatus body => exact request_reads (unitStatus_plant body _) _ s
  | supervisionList body => exact request_noBody_reads (fun _ => rfl) _ body s
  | totaliserRead body => exact request_noBody_reads (fun _ => rfl) _ body s
  | clockSet dest body => exact requestTo_queues (keepsQueues_of_plant (clockSetOwner_plant body)) dest _ s
  | setupOpen body => exact receiveFrame_queues (setupOpenFrame_queues body) s
  | configPut body => exact request_reads (configPutOwner_plant body) _ s
  | configRead body => exact request_reads (configReadOwner_plant body) _ s
  | setupClose body => exact request_queues (setupCloseOwner_queues body) _ s
  | setupAbandon body => exact request_queues (noBody_queues setupAbandonOwner_queues body) _ s
  | permitPut body => exact request_reads (permitPutOwner_plant body) _ s
  | permitRead body => exact request_reads (permitReadOwner_plant body) _ s
  | permitSuspend body => exact request_reads (namedPermit_plant body _ (setPermitState_plant .suspended)) _ s
  | permitReinstate body => exact request_reads (namedPermit_plant body _ (setPermitState_plant .active)) _ s
  | permitRemove body => exact request_reads (namedPermit_plant body _ permitRemoveOwner_plant) _ s
  | quotaSet body => exact request_reads (quotaSetOwner_plant body) _ s
  | orderPut body => exact request_reads (orderPutOwner_plant body) _ s
  | orderRead body => exact request_reads (orderReadOwner_plant body) _ s
  | orderCancel body => exact request_reads (orderCancelOwner_plant body) _ s
  | sessionEnd body => exact request_reads (sessionEndOwner_plant body) _ s
  | noteIndex body => exact request_noBody_reads (fun _ => rfl) _ body s
  | noteRead body => exact request_reads (noteReadOwner_plant body) _ s
  | noteRelease body => exact request_reads (noteReleaseOwner_plant body) _ s
  | supervisionClear body => exact request_queues (clearOwner_queues body) _ s
  | tripRequest dest body => exact requestTo_queues (noBody_queues tripRequestOwner_queues body) dest _ s
  | tripClear body => exact request_queues (noBody_queues tripClearOwner_queues body) _ s
  | restart body => exact request_noBody_reads (fun _ => rfl) _ body s
  | powerLoss lost => exact queuesNext_next (carry_toReset rfl)
  | startByte => exact onReceiver_moves (fun t => by simp only [ite_plant, setReceiver_plant, ite_self]) s
  | lengthAbove1024 => exact onReceiver_moves (fun t => by simp only [ite_plant, setReceiver_plant, ite_self]) s

/-! ### The tick -/

/-- The timers of an injector advance, and its queue stands. -/
theorem carry_advance (s : State) : QueuesCarry s (advance s) := by
  refine ⟨fun bounded i => ?_⟩
  have inj : (advance s).injectors[i] = s.injectors[i].tick := by simp [advance, vmap_get]
  rw [inj]
  exact bounded i

theorem performDue_queues (l : List Instr) (s : State) : QueuesNext s (performDue exec l s) := by
  induction l generalizing s with
  | nil => exact queuesNext_next (.refl s)
  | cons c rest ih =>
    intro t performed
    unfold performDue at performed
    split at performed
    · split at performed
      · next u ran =>
        have kept : QueuesCarry u (keepEarlier s u) := .of_injectors rfl
        exact ((exec_queues c s u ran).trans kept).trans (ih _ t performed)
      · exact nomatch performed
      · exact nomatch performed
    · exact ih s t performed

theorem tick_queues (s : State) : QueuesNext s (tick exec s) := by
  unfold tick
  split
  · intro t performed
    have advanced : QueuesCarry s (advance s.fresh) := .trans (.of_plant (fresh_plant s)) (carry_advance _)
    exact advanced.trans (performDue_queues _ _ t performed)
  · exact exec_queues (.startUp []) s
  · exact queuesNext_next (.refl s)

theorem step_queues (s : State) : QueuesNext s (step s) := by
  unfold step
  split
  · exact tick_queues s
  · next c rest _ =>
    have queued : QueuesCarry s { s with pending := rest } := .of_injectors rfl
    exact fun t ran => queued.trans (exec_queues c _ t ran)

/-- Settles O8: a step is a command of the queue or a tick, and a queue grows by a posted shot alone, which asks for room. -/
theorem injectorQueuesStayBounded : Obligations.InjectorQueuesStayBounded :=
  fun s t bounded stepped => (step_queues s t stepped).bounded bounded

end Sys2Proof.Machine
end

section
/-! The rules about additive lines and about one injector (R69 to R81): how a line is read after a change of a line, what an
operation of an injector changes of the state, and what it makes of the injector. -/

namespace Sys2Proof.Machine

/-! ### Additive lines -/

theorem lineOf_eq_bind (s : State) (q : ShotRequest) :
    s.lineOf q = (s.compRec q.bay q.comp).bind fun r => r.lines.find? fun l => l.number = q.line := by
  unfold State.lineOf
  split <;> simp_all

theorem lineOf_of_bays {s t : State} (same : t.bays = s.bays) (q : ShotRequest) : t.lineOf q = s.lineOf q := by
  rw [lineOf_eq_bind, lineOf_eq_bind, compRec_congr (congrArg (fun v : Vector Bay 4 => v[q.bay].session) same)]

/-- A line that has been found has the number asked for. -/
theorem lineOf_some {s : State} {q : ShotRequest} {l : AdditiveLine} (found : s.lineOf q = some l) :
    ∃ r, s.compRec q.bay q.comp = some r ∧ l.number = q.line := by
  rw [lineOf_eq_bind, Option.bind_eq_some_iff] at found
  obtain ⟨r, record, line⟩ := found
  exact ⟨r, record, by simpa using List.find?_some line⟩

/-- Two requests are for one line. -/
def ShotRequest.SameLine (p q : ShotRequest) : Prop := p.bay = q.bay ∧ p.comp = q.comp ∧ p.line = q.line

theorem ShotRequest.sameLine_refl (q : ShotRequest) : q.SameLine q := ⟨rfl, rfl, rfl⟩

/-- A change of the lines of a list that keeps their numbers is read at the line found. -/
theorem find_line_map (lines : List AdditiveLine) (n : Nat) {f : AdditiveLine → AdditiveLine}
    (keeps : ∀ l, (f l).number = l.number) :
    (lines.map f).find? (fun l => l.number = n) = (lines.find? fun l => l.number = n).map f := by
  rw [List.find?_map]
  congr 2
  funext l
  simp only [Function.comp, keeps]

section LineChanged

variable {s : State} {p q : ShotRequest} {l : AdditiveLine} {f : AdditiveLine → AdditiveLine}

theorem lineOf_modComp (s : State) (b : BayNo) (c : CompNo) (q : ShotRequest) {f : AdditiveLine → AdditiveLine}
    (keeps : ∀ l, (f l).number = l.number) :
    (s.modComp b c fun r => r.modLines f).lineOf q
      = (s.lineOf q).map fun l => if q.bay = b ∧ q.comp = c then f l else l := by
  rw [lineOf_eq_bind, lineOf_eq_bind]
  by_cases bay : q.bay = b
  · subst bay
    rw [compRec_modComp_bay q.bay c q.comp (f := fun r => r.modLines f) s fun _ => rfl]
    cases found : s.compRec q.bay q.comp with
    | none => rfl
    | some r =>
      have no : r.no = q.comp := compRec_no found
      simp only [Option.map_some, Option.bind_some, no, true_and]
      split
      · exact find_line_map r.lines q.line keeps
      · simp
  · rw [compRec_congr (session_modComp_other _ _ s bay)]
    simp [bay]

/-- A change of one line, read at any request. -/
theorem lineOf_modLineOf (s : State) (p q : ShotRequest) (keeps : ∀ l, (f l).number = l.number) :
    (s.modLineOf p f).lineOf q
      = (s.lineOf q).map fun l => if q.bay = p.bay ∧ q.comp = p.comp ∧ l.number = p.line then f l else l := by
  have keeps' (l : AdditiveLine) : (if l.number = p.line then f l else l).number = l.number := by
    split
    · exact keeps l
    · rfl
  refine (lineOf_modComp s p.bay p.comp q keeps').trans (congrArg (Option.map · (s.lineOf q)) (funext fun l => ?_))
  by_cases place : q.bay = p.bay ∧ q.comp = p.comp
  · simp [place]
  · rw [if_neg place, if_neg fun h => place ⟨h.1, h.2.1⟩]

theorem lineOf_modLineOf_same (keeps : ∀ l, (f l).number = l.number) (found : s.lineOf q = some l) (same : p.SameLine q) :
    (s.modLineOf p f).lineOf q = some (f l) := by
  obtain ⟨bay, comp, line⟩ := same
  obtain ⟨-, -, number⟩ := lineOf_some found
  rw [lineOf_modLineOf s p q keeps, found, Option.map_some, if_pos ⟨bay.symm, comp.symm, number.trans line.symm⟩]

theorem lineOf_modLineOf_other (keeps : ∀ l, (f l).number = l.number) (found : s.lineOf q = some l)
    (other : ¬p.SameLine q) : (s.modLineOf p f).lineOf q = some l := by
  obtain ⟨-, -, number⟩ := lineOf_some found
  rw [lineOf_modLineOf s p q keeps, found, Option.map_some, if_neg]
  exact fun ⟨bay, comp, line⟩ => other ⟨bay.symm, comp.symm, line.symm.trans number⟩

end LineChanged

/-! ### What an operation of an injector changes -/

/-- `s` with what the end of a shot may change taken from `t`: the arm's count with it. -/
def dosedFrom (s t : State) : State := { s with arms := t.arms, injectors := t.injectors, bays := t.bays, inbox := t.inbox }

/-- From `s` to `t` one injector changes, one arm with it, lines are marked and notices sent, and nothing else. -/
structure Dosed (i : InjNo) (a : ArmNo) (s t : State) : Prop where
  frame : t = dosedFrom s t
  injs : OtherInjsSame i s t
  arms : OtherArmsSame a s t

namespace Dosed

variable {i : InjNo} {a : ArmNo} {s t u : State}

theorem refl (s : State) : Dosed i a s s := ⟨rfl, fun _ _ => rfl, fun _ _ => rfl⟩

theorem trans (first : Dosed i a s t) (second : Dosed i a t u) : Dosed i a s u where
  frame := calc u
    _ = dosedFrom t u := second.frame
    _ = dosedFrom (dosedFrom s t) u := congrArg (dosedFrom · u) first.frame
    _ = dosedFrom s u := rfl
  injs x other := (second.injs x other).trans (first.injs x other)
  arms x other := (second.arms x other).trans (first.arms x other)

theorem ite {c : Prop} [Decidable c] (yes : Dosed i a s t) (no : Dosed i a s u) : Dosed i a s (if c then t else u) := by
  split
  · exact yes
  · exact no

theorem modInj (s : State) (f : Injector → Injector) : Dosed i a s (s.modInj i f) :=
  ⟨rfl, fun _ other => vmod_other _ _ _ _ other, fun _ _ => rfl⟩

theorem modArm (s : State) (f : Arm → Arm) : Dosed i a s (s.modArm a f) :=
  ⟨rfl, fun _ _ => rfl, fun _ other => vmod_other _ _ _ _ other⟩

theorem push (s : State) (n : Notice) : Dosed i a s (s.push n) := ⟨rfl, fun _ _ => rfl, fun _ _ => rfl⟩

theorem modSession (s : State) (b : BayNo) (f : Session → Session) : Dosed i a s (s.modSession b f) :=
  ⟨rfl, fun _ _ => rfl, fun _ _ => rfl⟩

theorem modLineOf (s : State) (q : ShotRequest) (f : AdditiveLine → AdditiveLine) : Dosed i a s (s.modLineOf q f) :=
  ⟨rfl, fun _ _ => rfl, fun _ _ => rfl⟩

theorem each {α : Type} {f : State → α → State} (l : List α) (dosed : ∀ s x, Dosed i a s (f s x)) :
    ∀ s : State, Dosed i a s (s.each l f) := by
  induction l with
  | nil => exact .refl
  | cons x l ih => exact fun s => (dosed s x).trans (ih (f s x))

end Dosed

section Dosing

variable {a : ArmNo} (i : InjNo) (s : State)

theorem dosed_raiseInj (event : InstId) : Dosed i a s (raiseInj i event s) :=
  (Dosed.each allBays (fun t b => .modSession t b _) s).trans (.push _ _)

theorem dosed_raiseOnShot (event : InstId) (q : ShotRequest) : Dosed i a s (raiseOnShot i event q s) :=
  (Dosed.modLineOf s q _).trans (dosed_raiseInj i _ event)

theorem dosed_takeOldest : Dosed i a s (takeOldest i s) := by
  unfold takeOldest
  simp only
  split
  · exact .modInj s _
  · exact .refl s

theorem dosed_endShot (ending : ShotEnding) : Dosed i a s (endShot i ending s) := by
  unfold endShot
  split
  · exact .ite (.trans (.modInj s _) (dosed_raiseOnShot i _ _ _)) (.modInj s _)
  · exact .refl s

theorem dosed_judgeShot (shot : Shot) (measured d : Nat) : Dosed i a s (judgeShot i shot measured d s) := by
  unfold judgeShot
  exact .ite (.refl s) (.ite (.ite (.trans (.modInj s _) (dosed_raiseOnShot i _ _ _)) (.modInj s _)) (.modInj s _))

theorem dosed_shotLeft (q : ShotRequest) : Dosed i q.arm s (shotLeft q s) := by
  unfold shotLeft
  exact .ite (.trans (.modArm s _) (.push _ _)) (.refl s)

theorem dosed_additivePulseAt : Dosed i a s (additivePulseAt i s) := by
  unfold additivePulseAt
  simp only
  split
  · exact .ite (.trans (.modInj s _) (dosed_endShot i _ _)) (.modInj s _)
  · exact .modInj s _
  · exact .ite (.trans (.trans (.modInj s _) (.modInj _ _)) (dosed_raiseInj i _ _)) (.modInj s _)
  · exact .refl s

end Dosing

end Sys2Proof.Machine
end

section
/-! The end of a shot (R72) and its judgement (R74), said once; additive pulses by the injector's state (O29). -/

namespace Sys2Proof.Machine

/-! ### Readings of one injector -/

theorem modInj_self (i : InjNo) (f : Injector → Injector) (s : State) : (s.modInj i f).injectors[i] = f s.injectors[i] :=
  vmod_self ..

theorem injector_congr {s t : State} (same : t.injectors = s.injectors) (i : InjNo) : t.injectors[i] = s.injectors[i] :=
  congrArg (fun v : Vector Injector 6 => v[i]) same

theorem solenoid_of_state {s : State} {i : InjNo} (shut : s.injectors[i].state ≠ .shot) : solenoid s i = false := by
  unfold solenoid Injector.solenoidOpen
  exact decide_eq_false shut

theorem solenoid_of_shot {s : State} {i : InjNo} (shot : s.injectors[i].state = .shot) : solenoid s i = true := by
  unfold solenoid Injector.solenoidOpen
  exact decide_eq_true shot

/-- What may touch any one arm alone, whichever it is, touches none. -/
theorem Dosed.arms_same {i : InjNo} {s t : State} (dosed : ∀ a, Dosed i a s t) : t.arms = s.arms :=
  vec_ext _ _ fun x => (dosed (x + 1)).arms x (by revert x; decide)

/-- An operation of an injector that touches no arm. -/
theorem Dosed.armless {i : InjNo} {s t : State} (dosed : ∀ a, Dosed i a s t) :
    t = { s with injectors := t.injectors, bays := t.bays, inbox := t.inbox } := by
  have frame := (dosed 0).frame
  rw [dosedFrom, Dosed.arms_same dosed] at frame
  exact frame

/-! ### Events raised by an injector (R81) -/

section Raised

variable (i : InjNo) (event : InstId) (q : ShotRequest) (s : State)

@[simp] theorem markAdditiveFault_inbox : (markAdditiveFault i s).inbox = s.inbox :=
  each_keeps State.inbox _ (fun _ _ => rfl) allBays s

@[simp] theorem raiseInj_inbox : (raiseInj i event s).inbox = s.inbox ++ [.event event] := by
  rw [raiseInj, push_inbox, markAdditiveFault_inbox]

@[simp] theorem raiseOnShot_inbox : (raiseOnShot i event q s).inbox = s.inbox ++ [.event event] :=
  raiseInj_inbox i event _

@[simp] theorem raiseInj_injectors : (raiseInj i event s).injectors = s.injectors :=
  congrArg Plant.injectors (raiseInj_plant i event s)

@[simp] theorem raiseOnShot_injectors : (raiseOnShot i event q s).injectors = s.injectors :=
  congrArg Plant.injectors (raiseOnShot_plant i event q s)

end Raised

/-! ### The end of a shot (R72) -/

/-- The injector whose shot has ended. -/
def Injector.shotEnded (x : Injector) (shot : Shot) (ending : ShotEnding) (settle : Nat) : Injector :=
  { x with state := .after, current := some { shot with ending := some ending }, shotTimer := none
           settleTimer := some (Timer.start (settle * ticksPerTenth))
           shortfalls := if ending = .complete then x.shortfalls else satSucc 65535 x.shortfalls }

/-- The state once the shot has ended, before an event for a shot without a pulse. -/
def shotShut (i : InjNo) (shot : Shot) (ending : ShotEnding) (s : State) : State :=
  s.modInj i fun x => x.shotEnded shot ending (s.injCfg i).settle

section End

variable {i : InjNo} {s : State} {shot : Shot}

theorem endShot_eq (state : s.injectors[i].state = .shot) (current : s.injectors[i].current = some shot)
    (ending : ShotEnding) :
    endShot i ending s = if shot.pulses = 0 ∧ ending ≠ .trip then
      raiseOnShot i (.injNoFlow i) shot.req (shotShut i shot ending s) else shotShut i shot ending s := by
  unfold endShot
  simp only [state, current]
  rfl

theorem endShot_injector (state : s.injectors[i].state = .shot) (current : s.injectors[i].current = some shot)
    (ending : ShotEnding) :
    (endShot i ending s).injectors[i] = s.injectors[i].shotEnded shot ending (s.injCfg i).settle := by
  have shut : (shotShut i shot ending s).injectors[i] = s.injectors[i].shotEnded shot ending (s.injCfg i).settle :=
    modInj_self ..
  rw [endShot_eq state current]
  split
  · exact (injector_congr (raiseOnShot_injectors ..) i).trans shut
  · exact shut

theorem endShot_inbox (state : s.injectors[i].state = .shot) (current : s.injectors[i].current = some shot)
    (ending : ShotEnding) :
    (endShot i ending s).inbox
      = s.inbox ++ if shot.pulses = 0 ∧ ending ≠ .trip then [.event (.injNoFlow i)] else [] := by
  rw [endShot_eq state current]
  split
  · exact raiseOnShot_inbox ..
  · exact (List.append_nil _).symm

end End

/-! ### A pulse by the state of the injector (R69, R72, R73, R76) -/

/-- A pulse counted to the shot. -/
def Injector.pulsed (x : Injector) (shot : Shot) : Injector :=
  { x with current := some { shot with pulses := shot.pulses + 1 } }

section Pulse

variable {i : InjNo} {s : State} {shot : Shot}

theorem additivePulseAt_shot (state : s.injectors[i].state = .shot) (current : s.injectors[i].current = some shot) :
    additivePulseAt i s = if shot.target ≤ shot.pulses + 1 then endShot i .complete (s.modInj i (·.pulsed shot))
      else s.modInj i (·.pulsed shot) := by
  unfold additivePulseAt
  simp only [state, current]
  rfl

theorem additivePulseAt_after (state : s.injectors[i].state = .after) (current : s.injectors[i].current = some shot) :
    additivePulseAt i s = s.modInj i (·.pulsed shot) := by
  unfold additivePulseAt
  simp only [state, current]
  rfl

theorem additivePulseAt_idle (state : s.injectors[i].state = .idle) :
    additivePulseAt i s = if (s.injCfg i).leakLimit * 100
          < (s.injectors[i].leakPulses + 1) * 1000000 / (s.injCfg i).kAdd then
        raiseInj i (.injLeak i) ((s.modInj i fun x => { x with leakPulses := x.leakPulses + 1 }).modInj i
          fun x => { x with leakPulses := 0 })
      else s.modInj i fun x => { x with leakPulses := x.leakPulses + 1 } := by
  unfold additivePulseAt
  simp only [state, leakVolume, modInj_self]
  rfl

/-- The pulse that reaches the target ends the shot as COMPLETE (R72). -/
theorem additivePulseAt_completes (state : s.injectors[i].state = .shot)
    (current : s.injectors[i].current = some shot) (last : shot.target ≤ shot.pulses + 1) :
    (additivePulseAt i s).injectors[i] = (s.injectors[i].pulsed shot).shotEnded { shot with pulses := shot.pulses + 1 }
      .complete (s.injCfg i).settle := by
  have pulsed : (s.modInj i (·.pulsed shot)).injectors[i] = s.injectors[i].pulsed shot := modInj_self ..
  rw [additivePulseAt_shot state current, if_pos last,
    endShot_injector ((congrArg Injector.state pulsed).trans state) (congrArg Injector.current pulsed), pulsed]
  rfl

end Pulse

/-! ### O29 -/

/-- The pin of an additive meter high (R69). -/
def additivePinHigh (i : InjNo) (s : State) : State :=
  { s with pins := { s.pins with additive := vset s.pins.additive i true } }

/-- The state at an accepted pulse: its pin high, the injector's noise filter at rest. -/
def pulseHeard (i : InjNo) (s : State) : State :=
  (additivePinHigh i s.fresh).modInj i fun x => { x with level := true, filter := none }

theorem pulseHeard_injector (i : InjNo) (s : State) :
    (pulseHeard i s).injectors[i] = { s.injectors[i] with level := true, filter := none } := modInj_self ..

theorem exec_additivePulse {s : State} {i : InjNo} (ready : Ready s) :
    exec (.additivePulse i) s = .next (settleCommand (additivePulse i (additivePinHigh i s.fresh))) :=
  inService_ready (fun t => additivePulse i (additivePinHigh i t)) s ready

theorem exec_additivePulse_used {s : State} {i : InjNo} (ready : Ready s) (used : (s.injCfg i).used = true) :
    exec (.additivePulse i) s = .next (settleCommand (additivePulseAt i (pulseHeard i s))) := by
  have heeded : ((additivePinHigh i s.fresh).injCfg i).used = true := used
  rw [exec_additivePulse ready, additivePulse, if_pos heeded]
  rfl

theorem exec_additivePulse_unused {s : State} {i : InjNo} (ready : Ready s) (unused : (s.injCfg i).used = false) :
    exec (.additivePulse i) s = .next
      ({ s.fresh with pins := { s.pins with additive := vset s.pins.additive i true } } : State).write := by
  have quiet : (additivePinHigh i s.fresh).inbox = [] := ready.2
  have ignored : ¬((additivePinHigh i s.fresh).injCfg i).used = true := fun used =>
    Bool.false_ne_true (unused.symm.trans used)
  rw [exec_additivePulse ready, additivePulse, if_neg ignored, settleCommand_nil _ quiet]
  rfl

/-- Settles O29: a pulse by the state of its injector. -/
theorem additivePulsesCountByState : Obligations.AdditivePulsesCountByState := by
  intro s i ready
  refine ⟨fun used => ?_, fun unused => exec_additivePulse_unused ready unused⟩
  have heard := pulseHeard_injector i s
  have inbox : (pulseHeard i s).inbox = [] := ready.2
  have cfg : (pulseHeard i s).injCfg i = s.injCfg i := rfl
  have dosed (a : ArmNo) : Dosed i a _ (additivePulseAt i (pulseHeard i s)) :=
    (Dosed.modInj _ _).trans (dosed_additivePulseAt i (pulseHeard i s))
  refine ⟨_, exec_additivePulse_used ready used, (dosed 0).injs, Dosed.armless dosed, fun x state current more => ?_,
    fun x state current last => ?_, fun x state current => ?_, fun state => ⟨fun within => ?_, fun leaks => ?_⟩⟩
  all_goals
    have state' : (pulseHeard i s).injectors[i].state = _ := (congrArg Injector.state heard).trans state
  · have current' := (congrArg Injector.current heard).trans current
    rw [additivePulseAt_shot state' current', if_neg (Nat.not_le.2 more), modInj_self, heard]
    exact ⟨state, rfl⟩
  · have current' := (congrArg Injector.current heard).trans current
    have ended := additivePulseAt_completes state' current' last
    have shut : (additivePulseAt i (pulseHeard i s)).injectors[i].state = .after := congrArg Injector.state ended
    refine ⟨shut, solenoid_of_state ?_, congrArg Injector.current ended, congrArg Injector.shotTimer ended,
      congrArg Injector.settleTimer ended⟩
    rw [shut]
    decide
  · have current' := (congrArg Injector.current heard).trans current
    rw [additivePulseAt_after state' current', modInj_self]
    exact ⟨rfl, inbox⟩
  · rw [additivePulseAt_idle state', heard, cfg, if_neg (Nat.not_lt.2 within), modInj_self, heard]
    exact ⟨rfl, inbox⟩
  · rw [additivePulseAt_idle state', heard, cfg, if_pos leaks, raiseInj_injectors, modInj_self, raiseInj_inbox]
    exact ⟨rfl, congrArg (· ++ _) inbox⟩

end Sys2Proof.Machine
end

section
/-! A shot that is finished (R73 to R75, R119), said once (O31): measured, judged, written to its line, and the next request
taken. -/

namespace Sys2Proof.Machine

/-! ### Lines marked (R81) -/

/-- Every line of a bay changed, read at any request. -/
theorem lineOf_modSession_lines (s : State) (b : BayNo) (q : ShotRequest) {f : AdditiveLine → AdditiveLine}
    (keeps : ∀ l, (f l).number = l.number) :
    (s.modSession b fun x => { x with comps := x.comps.map fun r => r.modLines f }).lineOf q
      = (s.lineOf q).map fun l => if q.bay = b then f l else l := by
  rw [lineOf_eq_bind, lineOf_eq_bind, compRec_eq_bind, compRec_eq_bind]
  by_cases bay : q.bay = b
  · subst bay
    have session : (s.modSession q.bay fun x => { x with comps := x.comps.map fun r => r.modLines f }).session q.bay
        = (s.session q.bay).map fun x => { x with comps := x.comps.map fun r => r.modLines f } := by simp [State.session]
    have comp (x : Session) : ({ x with comps := x.comps.map fun r => r.modLines f } : Session).comp q.comp
        = (x.comp q.comp).map fun r => r.modLines f := List.find?_map ..
    rw [session]
    cases s.session q.bay with
    | none => rfl
    | some x =>
      simp only [Option.map_some, Option.bind_some, comp, if_true]
      cases x.comp q.comp with
      | none => rfl
      | some r => exact find_line_map r.lines q.line keeps
  · have session : (s.modSession b fun x => { x with comps := x.comps.map fun r => r.modLines f }).session q.bay
        = s.session q.bay := by simp [State.session, vmod_other _ _ _ _ bay]
    rw [session]
    simp [bay]

/-- From `s` to `t` no line changes but in its fault mark. -/
structure OnlyMarked (s t : State) : Prop where
  line : ∀ q l, s.lineOf q = some l → ∃ fault, t.lineOf q = some { l with fault := fault }

namespace OnlyMarked

variable {s t u : State}

theorem refl (s : State) : OnlyMarked s s := ⟨fun _ l found => ⟨l.fault, found⟩⟩

theorem trans (first : OnlyMarked s t) (second : OnlyMarked t u) : OnlyMarked s u := ⟨fun q l found => by
  obtain ⟨_, found'⟩ := first.line q l found
  obtain ⟨fault, found''⟩ := second.line q _ found'
  exact ⟨fault, found''⟩⟩

theorem of_bays (same : t.bays = s.bays) : OnlyMarked s t :=
  ⟨fun q l found => ⟨l.fault, (lineOf_of_bays same q).trans found⟩⟩

theorem modInj (s : State) (i : InjNo) (f : Injector → Injector) : OnlyMarked s (s.modInj i f) := .of_bays rfl

theorem each {α : Type} {f : State → α → State} (l : List α) (marked : ∀ s x, OnlyMarked s (f s x)) :
    ∀ s : State, OnlyMarked s (s.each l f) := by
  induction l with
  | nil => exact .refl
  | cons x l ih => exact fun s => (marked s x).trans (ih (f s x))

end OnlyMarked

theorem raiseInj_marks (i : InjNo) (event : InstId) (s : State) : OnlyMarked s (raiseInj i event s) := by
  refine .trans (.each allBays (fun t b => ⟨fun q l found => ?_⟩) s) (.of_bays rfl)
  rw [lineOf_modSession_lines t b q fun l => by split <;> rfl, found]
  simp only [Option.map_some]
  split
  · split
    · exact ⟨true, rfl⟩
    · exact ⟨l.fault, rfl⟩
  · exact ⟨l.fault, rfl⟩

theorem raiseOnShot_marks (i : InjNo) (event : InstId) (p : ShotRequest) (s : State) :
    OnlyMarked s (raiseOnShot i event p s) := by
  refine .trans ⟨fun q l found => ?_⟩ (raiseInj_marks i event _)
  rw [lineOf_modLineOf (f := fun l => { l with fault := true }) s p q fun _ => rfl, found, Option.map_some]
  split
  · exact ⟨true, rfl⟩
  · exact ⟨l.fault, rfl⟩

/-! ### The judgement (R74) -/

section Judged

variable (i : InjNo) (shot : Shot) (measured d : Nat) (s : State)

/-- A judgement marks lines and counts bad shots, and does nothing else to its injector. -/
theorem judgeShot_marks : OnlyMarked s (judgeShot i shot measured d s) := by
  unfold judgeShot
  simp only
  split
  · exact .refl s
  · split
    · split
      · exact .trans (.modInj s i _) (raiseOnShot_marks ..)
      · exact .modInj s i _
    · exact .modInj s i _

theorem judgeShot_injector :
    ∃ bad, (judgeShot i shot measured d s).injectors[i] = { s.injectors[i] with badCount := bad } := by
  unfold judgeShot
  simp only
  split
  · exact ⟨_, rfl⟩
  · split
    · split
      · exact ⟨_, (injector_congr (raiseOnShot_injectors ..) i).trans (modInj_self ..)⟩
      · exact ⟨_, modInj_self ..⟩
    · exact ⟨_, modInj_self ..⟩

end Judged

/-! ### The next request (R71) -/

section Next

variable (i : InjNo) (s : State)

theorem takeOldest_bays : (takeOldest i s).bays = s.bays := by
  unfold takeOldest
  simp only
  split <;> rfl

theorem takeOldest_inbox : (takeOldest i s).inbox = s.inbox := by
  unfold takeOldest
  simp only
  split <;> rfl

theorem takeOldest_carry : (takeOldest i s).injectors[i].carry = s.injectors[i].carry := by
  unfold takeOldest
  simp only
  split
  · exact (congrArg Injector.carry (modInj_self i _ s)).trans rfl
  · rfl

theorem shotLeft_bays (q : ShotRequest) : (shotLeft q s).bays = s.bays := by
  unfold shotLeft
  split <;> rfl

theorem shotLeft_injectors (q : ShotRequest) : (shotLeft q s).injectors = s.injectors := by
  unfold shotLeft
  split <;> rfl

end Next

/-! ### The shot finished (R73 to R75, R119) -/

/-- A line with one more shot delivered, of the volume measured (R75). -/
def AdditiveLine.dosed (l : AdditiveLine) (volume : Nat) : AdditiveLine :=
  { l with delivered := l.delivered + 1, measured := acc64 (l.measured + volume) }

/-- The volume of a shot and the new carry (R73). -/
def shotMeasured (i : InjNo) (shot : Shot) (s : State) : Nat × Nat :=
  measureShot shot.pulses s.injectors[i].carry (s.injCfg i).kAdd

/-- The nominal volume of a shot, by its line; 0 with no line (R74). -/
def nominalVolume (q : ShotRequest) (s : State) : Nat :=
  match s.lineOf q with
  | some l => l.d
  | none => 0

/-- The state with the shot judged, its new carry kept (R73, R74). -/
def shotJudged (i : InjNo) (shot : Shot) (s : State) : State :=
  judgeShot i shot (shotMeasured i shot s).1 (nominalVolume shot.req s)
    (s.modInj i fun x => { x with carry := (shotMeasured i shot s).2 })

/-- The state with the shot written to its line and the injector IDLE (R75). -/
def shotFiled (i : InjNo) (shot : Shot) (s : State) : State :=
  ((shotJudged i shot s).modLineOf shot.req (·.dosed (shotMeasured i shot s).1)).modInj i
    fun x => { x with state := .idle, current := none, settleTimer := none }

/-- The state with the arm and the bay told, before the next request (R75, R119). -/
def shotTold (i : InjNo) (shot : Shot) (s : State) : State :=
  (shotLeft shot.req (shotFiled i shot s)).push (.shotWritten shot.req.bay i)

section Finished

variable {i : InjNo} {s : State} {shot : Shot}

theorem finishShot_eq (state : s.injectors[i].state = .after) (current : s.injectors[i].current = some shot) :
    finishShot i s = takeOldest i (shotTold i shot s) := by
  unfold finishShot
  simp only [state, current]
  rfl

variable (i s shot)

theorem dosed_shotTold : Dosed i shot.req.arm s (shotTold i shot s) := by
  refine .trans (.trans ?_ (dosed_shotLeft i _ shot.req)) (.push _ _)
  refine .trans (.trans ?_ (.modLineOf _ _ _)) (.modInj _ _)
  exact .trans (.modInj s _) (dosed_judgeShot i _ _ _ _)

/-- The injector before the next request: IDLE, its queue and its new carry. -/
theorem shotTold_injector : ∃ bad, (shotTold i shot s).injectors[i] = { s.injectors[i] with
    state := .idle, current := none, settleTimer := none, carry := (shotMeasured i shot s).2, badCount := bad } := by
  obtain ⟨bad, judged⟩ := judgeShot_injector i shot (shotMeasured i shot s).1 (nominalVolume shot.req s)
    (s.modInj i fun x => { x with carry := (shotMeasured i shot s).2 })
  have filed : (shotFiled i shot s).injectors[i] = { (shotJudged i shot s).injectors[i] with
      state := .idle, current := none, settleTimer := none } := modInj_self ..
  refine ⟨bad, ((injector_congr (shotLeft_injectors ..) i).trans filed).trans ?_⟩
  rw [shotJudged, judged, modInj_self]

variable {i s shot}

/-- The line before the next request: one more shot delivered, of the volume measured. -/
theorem shotTold_line {l : AdditiveLine} (found : s.lineOf shot.req = some l) :
    ∃ fault, (shotTold i shot s).lineOf shot.req
      = some (({ l with fault := fault } : AdditiveLine).dosed (shotMeasured i shot s).1) := by
  obtain ⟨fault, judged⟩ := (judgeShot_marks i shot (shotMeasured i shot s).1 (nominalVolume shot.req s)
    (s.modInj i fun x => { x with carry := (shotMeasured i shot s).2 })).line shot.req l found
  refine ⟨fault, (lineOf_of_bays (shotLeft_bays ..) shot.req).trans ?_⟩
  exact lineOf_modLineOf_same (fun _ => rfl) judged shot.req.sameLine_refl

end Finished

/-- The volume and the carry make up the pulses and the carry before (R73). -/
theorem measureShot_exact {pulses carry kAdd measured : Nat} (positive : 0 < kAdd) :
    (measured + (measureShot pulses carry kAdd).1) * kAdd + (measureShot pulses carry kAdd).2
        = measured * kAdd + (pulses * 1000000 + carry)
      ∧ (measureShot pulses carry kAdd).2 < kAdd := by
  refine ⟨?_, Nat.mod_lt _ positive⟩
  simp only [measureShot]
  rw [Nat.add_mul, Nat.add_assoc, Nat.mul_comm (_ / kAdd), Nat.div_add_mod]

/-! ### O31 -/

theorem exec_settleTimeExpiry {s : State} {i : InjNo} {shot : Shot} (ready : Ready s)
    (state : s.injectors[i].state = .after) (current : s.injectors[i].current = some shot) :
    exec (.settleTimeExpiry i) s = .next (settleCommand (takeOldest i (shotTold i shot s.fresh))) := by
  have finished : finishShot i s.fresh = takeOldest i (shotTold i shot s.fresh) := finishShot_eq state current
  rw [← finished]
  exact inService_ready (finishShot i) s ready

theorem fresh_lineOf (s : State) (q : ShotRequest) : s.fresh.lineOf q = s.lineOf q := by
  rw [lineOf_eq_bind, lineOf_eq_bind, fresh_compRec]

/-- Settles O31: the shot is measured and written to its line, then the next request is taken. -/
theorem settledShotIsMeasured : Obligations.SettledShotIsMeasured := by
  intro s i x l ready positive state current found fits
  have dosed : Dosed i x.req.arm s.fresh (takeOldest i (shotTold i x s.fresh)) :=
    (dosed_shotTold i s.fresh x).trans (dosed_takeOldest i _)
  obtain ⟨bad, told⟩ := shotTold_injector i s.fresh x
  obtain ⟨fault, line⟩ := shotTold_line (i := i) ((fresh_lineOf s x.req).trans found)
  obtain ⟨exact_, small⟩ := measureShot_exact (pulses := x.pulses) (carry := s.injectors[i].carry)
    (measured := l.measured) positive
  have carry : (takeOldest i (shotTold i x s.fresh)).injectors[i].carry
      = (measureShot x.pulses s.injectors[i].carry (s.injCfg i).kAdd).2 :=
    (takeOldest_carry i _).trans (congrArg Injector.carry told)
  have idle : (shotTold i x s.fresh).injectors[i].state = .idle := congrArg Injector.state told
  have queue : (shotTold i x s.fresh).injectors[i].queue = s.injectors[i].queue :=
    (congrArg Injector.queue told).trans rfl
  refine ⟨_, _, exec_settleTimeExpiry ready state current,
    (lineOf_of_bays (takeOldest_bays i _) x.req).trans line, rfl, ?_, ?_, fun empty => ?_, fun q rest waits => ?_, ?_,
    dosed.injs, dosed.arms, dosed.frame⟩
  · rw [carry, ← exact_]
    exact congrArg (· * _ + _) (if_pos fits)
  · rw [carry]
    exact small
  · rw [takeOldest_none i _ (.inr (queue.trans empty))]
    exact ⟨idle, congrArg Injector.current told, congrArg Injector.settleTimer told⟩
  · exact takeOldest_idle i _ q rest idle (queue.trans waits)
  · rw [takeOldest_inbox]
    exact List.mem_append_right _ (List.mem_singleton.2 rfl)

end Sys2Proof.Machine
end

section
/-! The first parts of O30: the shot time limit (R72), the judgement by its cases (R74), and a request posted (R70, R71). -/

namespace Sys2Proof.Machine

/-! ### The shot time limit (R72) -/

theorem exec_shotTimeLimit {s : State} (ready : Ready s) (i : InjNo) :
    exec (.shotTimeLimit i) s = .next (settleCommand (endShot i .shortfall s.fresh)) :=
  inService_ready (endShot i .shortfall) s ready

/-- The time limit ends the shot as SHORTFALL. -/
theorem shotTimeLimit_ends {s : State} {i : InjNo} {x : Shot} (ready : Ready s) (state : s.injectors[i].state = .shot)
    (current : s.injectors[i].current = some x) :
    ∃ u, exec (.shotTimeLimit i) s = .next (settleCommand u)
      ∧ u.injectors[i] = s.injectors[i].shotEnded x .shortfall (s.injCfg i).settle
      ∧ u.inbox = (if x.pulses = 0 then [.event (.injNoFlow i)] else [])
      ∧ OtherInjsSame i s u
      ∧ u = { s.fresh with injectors := u.injectors, bays := u.bays, inbox := u.inbox } := by
  have dosed (a : ArmNo) : Dosed i a s.fresh (endShot i .shortfall s.fresh) := dosed_endShot i s.fresh .shortfall
  refine ⟨_, exec_shotTimeLimit ready i, endShot_injector (s := s.fresh) state current .shortfall, ?_, (dosed 0).injs,
    Dosed.armless dosed⟩
  rw [endShot_inbox (s := s.fresh) state current .shortfall, fresh_inbox, ready.2, List.nil_append]
  exact if_congr (and_iff_left (by decide)) rfl rfl

/-! ### The judgement by its cases (R74) -/

theorem shotIsBad_iff (measured d tolerance pulses : Nat) :
    shotIsBad measured d tolerance pulses = true ↔ pulses = 0 ∨ tolerance * d < natDiff measured (d * 100) := by
  simp only [shotIsBad, Bool.or_eq_true, decide_eq_true_eq]

section Judged

variable {i : InjNo} {shot : Shot} {measured d : Nat} {s : State}

theorem judgeShot_trip (trip : shot.ending = some .trip) : judgeShot i shot measured d s = s := if_pos trip

theorem judgeShot_good (judged : shot.ending ≠ some .trip)
    (good : ¬(shot.pulses = 0 ∨ (s.injCfg i).tolerance * d < natDiff measured (d * 100))) :
    judgeShot i shot measured d s = s.modInj i fun x => { x with badCount := 0 } := by
  rw [← shotIsBad_iff] at good
  exact (if_neg judged).trans (if_neg good)

theorem judgeShot_bad (judged : shot.ending ≠ some .trip)
    (bad : shot.pulses = 0 ∨ (s.injCfg i).tolerance * d < natDiff measured (d * 100)) :
    judgeShot i shot measured d s = if (s.injCfg i).badLimit ≤ s.injectors[i].badCount + 1 then
        raiseOnShot i (.injDose i) shot.req (s.modInj i fun x => { x with badCount := 0 })
      else s.modInj i fun x => { x with badCount := x.badCount + 1 } := by
  rw [← shotIsBad_iff] at bad
  exact (if_neg judged).trans (if_pos bad)

end Judged

/-- The judgement of a shot by its ending, its volume and the count of bad ones. -/
theorem judgeShot_cases (s : State) (i : InjNo) (x : Shot) (measured d : Nat) :
    let bad := x.pulses = 0 ∨ (s.injCfg i).tolerance * d < natDiff measured (d * 100)
    let t := judgeShot i x measured d s
    (x.ending = some .trip → t = s) ∧
    (x.ending ≠ some .trip → ¬bad → t.injectors[i].badCount = 0 ∧ t.inbox = s.inbox) ∧
    (x.ending ≠ some .trip → bad → s.injectors[i].badCount + 1 < (s.injCfg i).badLimit →
      t.injectors[i].badCount = s.injectors[i].badCount + 1 ∧ t.inbox = s.inbox) ∧
    (x.ending ≠ some .trip → bad → (s.injCfg i).badLimit ≤ s.injectors[i].badCount + 1 →
      t.injectors[i].badCount = 0 ∧ t.inbox = s.inbox ++ [.event (.injDose i)]) := by
  refine ⟨judgeShot_trip, fun judged good => ?_, fun judged bad below => ?_, fun judged bad reached => ?_⟩
  · simp only [judgeShot_good judged good]
    exact ⟨congrArg Injector.badCount (modInj_self ..), rfl⟩
  · simp only [judgeShot_bad judged bad, if_neg (Nat.not_le.2 below)]
    exact ⟨congrArg Injector.badCount (modInj_self ..), rfl⟩
  · simp only [judgeShot_bad judged bad, if_pos reached]
    refine ⟨?_, raiseOnShot_inbox ..⟩
    exact congrArg Injector.badCount ((injector_congr (raiseOnShot_injectors ..) i).trans (modInj_self ..))

/-! ### A request posted (R70, R71) -/

theorem ceilDiv_tenThousand (n : Nat) : ceilDiv n 10000 = (n + 9999) / 10000 := by
  rw [ceilDiv, Nat.add_sub_assoc (by decide)]

section Posted

variable {s : State} {i : InjNo} {q : ShotRequest} {l : AdditiveLine}

/-- An IDLE injector with one request opens its solenoid on it (R71). -/
theorem takeOldest_begins {rest : List ShotRequest} (found : s.lineOf q = some l) (state : s.injectors[i].state = .idle)
    (queue : s.injectors[i].queue = q :: rest) :
    (takeOldest i s).injectors[i] = { s.injectors[i] with
      state := .shot, queue := rest
      current := some { req := q, pulses := 0, target := ceilDiv (l.d * (s.injCfg i).kAdd) 10000, ending := none }
      shotTimer := some (Timer.start ((s.injCfg i).shotLimit * ticksPerTenth))
      started := satSucc 65535 s.injectors[i].started } := by
  unfold takeOldest
  simp only [state, queue, found]
  exact modInj_self ..

/-- A request joins its queue and its arm's count (R70). -/
def requestJoined (i : InjNo) (q : ShotRequest) (s : State) : State :=
  shotJoined q (s.modInj i fun x => { x with queue := x.queue ++ [q] })

theorem requestJoined_injector (i : InjNo) (q : ShotRequest) (s : State) :
    (requestJoined i q s).injectors[i] = { s.injectors[i] with queue := s.injectors[i].queue ++ [q] } := modInj_self ..

theorem postShot_refuses (refused : s.mode ≠ .run ∨ 4 ≤ s.injectors[i].queue.length) :
    postShot i q s = refuseShot i q s := if_pos refused

theorem postShot_joins (runs : s.mode = .run) (room : s.injectors[i].queue.length < 4) :
    postShot i q s = takeOldest i (requestJoined i q s) :=
  if_neg fun refused => refused.elim (absurd runs) (Nat.not_le.2 room)

theorem refuseShot_injector (i : InjNo) (q : ShotRequest) (s : State) :
    (refuseShot i q s).injectors[i] = { s.injectors[i] with refused := satSucc 65535 s.injectors[i].refused } :=
  modInj_self ..

theorem refuseShot_line (found : s.lineOf q = some l) :
    (refuseShot i q s).lineOf q = some { l with missed := l.missed + 1 } :=
  lineOf_modLineOf_same (f := fun l => { l with missed := l.missed + 1 }) (fun _ => rfl) found q.sameLine_refl

theorem dosed_postShot (i : InjNo) (q : ShotRequest) (s : State) : Dosed i q.arm s (postShot i q s) := by
  unfold postShot
  exact .ite (.trans (.modLineOf s _ _) (.modInj _ _))
    (.trans (.trans (.modInj s _) (.modArm _ _)) (dosed_takeOldest i _))

end Posted

/-- A request is refused and missed, or joins the queue and is taken by an IDLE injector. -/
theorem postShot_cases (s : State) (i : InjNo) (q : ShotRequest) (l : AdditiveLine) (found : s.lineOf q = some l) :
    let t := postShot i q s
    let x := s.injectors[i]
    (s.mode ≠ .run ∨ 4 ≤ x.queue.length →
      t.injectors[i] = { x with refused := if x.refused < 65535 then x.refused + 1 else x.refused }
        ∧ t.lineOf q = some { l with missed := l.missed + 1 } ∧ t.arms = s.arms ∧ OtherInjsSame i s t) ∧
    (s.mode = .run → x.queue.length < 4 →
      t.arms[q.arm].outstanding = s.arms[q.arm].outstanding + 1 ∧ t.lineOf q = some l ∧ OtherInjsSame i s t
        ∧ (x.state ≠ .idle → t.injectors[i] = { x with queue := x.queue ++ [q] })
        ∧ (x.state = .idle → x.queue = [] → t.injectors[i].state = .shot ∧ solenoid t i = true
            ∧ t.injectors[i].queue = []
            ∧ t.injectors[i].current = some
                { req := q, pulses := 0, target := (l.d * (s.injCfg i).kAdd + 9999) / 10000, ending := none }
            ∧ t.injectors[i].shotTimer = some ⟨0, (s.injCfg i).shotLimit * 10000⟩
            ∧ t.injectors[i].started = if x.started < 65535 then x.started + 1 else x.started)) := by
  have dosed := dosed_postShot i q s
  refine ⟨fun refused => ?_, fun runs room => ?_⟩
  · simp only [postShot_refuses refused] at dosed ⊢
    exact ⟨refuseShot_injector i q s, refuseShot_line found, rfl, dosed.injs⟩
  · have joined := requestJoined_injector i q s
    simp only [postShot_joins runs room] at dosed ⊢
    refine ⟨?_, (lineOf_of_bays (takeOldest_bays ..) q).trans found, dosed.injs, fun busy => ?_, fun idle empty => ?_⟩
    · refine (congrArg (fun v : Vector Arm 8 => v[q.arm].outstanding) (takeOldest_arms _ i)).trans ?_
      exact congrArg Arm.outstanding (vmod_self s.arms q.arm _)
    · have none_ : takeOldest i (requestJoined i q s) = requestJoined i q s :=
        takeOldest_none i _ (.inl fun idle => busy ((congrArg Injector.state joined).symm.trans idle))
      exact (injector_congr (congrArg State.injectors none_) i).trans joined
    · have begun := takeOldest_begins (s := requestJoined i q s) (rest := []) found
        ((congrArg Injector.state joined).trans idle)
        ((congrArg Injector.queue joined).trans (congrArg (· ++ [q]) empty))
      have shot : (takeOldest i (requestJoined i q s)).injectors[i].state = .shot := congrArg Injector.state begun
      refine ⟨shot, solenoid_of_shot shot, congrArg Injector.queue begun, (congrArg Injector.current begun).trans ?_,
        congrArg Injector.shotTimer begun, (congrArg Injector.started begun).trans ?_⟩
      · rw [ceilDiv_tenThousand]
        rfl
      · exact (congrArg (satSucc 65535 ∘ Injector.started) joined).trans rfl

end Sys2Proof.Machine
end

section
/-! The shots of a compartment that have fallen due (R68), for O30: one posting at a time, one line after the other. -/

namespace Sys2Proof.Machine

/-! ### One posting -/

section Posting

variable {s : State} {p q : ShotRequest} {l : AdditiveLine}

/-- A posted request leaves every line but for the count of missed shots. -/
theorem postShot_line (i : InjNo) (q : ShotRequest) (found : s.lineOf p = some l) :
    ∃ missed, (postShot i q s).lineOf p = some { l with missed := missed } := by
  unfold postShot
  split
  · by_cases same : q.SameLine p
    · exact ⟨_, lineOf_modLineOf_same (f := fun l => { l with missed := l.missed + 1 }) (fun _ => rfl) found same⟩
    · exact ⟨_, lineOf_modLineOf_other (f := fun l => { l with missed := l.missed + 1 }) (fun _ => rfl) found same⟩
  · exact ⟨l.missed, (lineOf_of_bays (takeOldest_bays ..) p).trans found⟩

/-- It leaves the lines of other requests as they are. -/
theorem postShot_line_other (i : InjNo) (found : s.lineOf p = some l) (other : ¬q.SameLine p) :
    (postShot i q s).lineOf p = some l := by
  unfold postShot
  split
  · exact lineOf_modLineOf_other (f := fun l => { l with missed := l.missed + 1 }) (fun _ => rfl) found other
  · exact (lineOf_of_bays (takeOldest_bays ..) p).trans found

end Posting

/-- One shot of a line taken as next and posted (R68). -/
def shotPosted (a : ArmNo) (b : BayNo) (c : CompNo) (number : Nat) (l : AdditiveLine) (s : State) : State :=
  postShot l.inj ⟨a, b, c, number, l.next⟩ (s.modLineOf ⟨a, b, c, number, l.next⟩ fun l => { l with next := l.next + 1 })

section OnePosted

variable {a : ArmNo} {b : BayNo} {c : CompNo} {number : Nat} {s : State}

theorem shotPosted_accs (l : AdditiveLine) : AccumulatorsKept s (shotPosted a b c number l s) :=
  ((reported_modLineOf a s _ _).trans (reported_postShot _ _ ⟨a, b, c, number, l.next⟩)).accs

theorem shotPosted_line {l : AdditiveLine} (found : s.lineOf ⟨a, b, c, number, 0⟩ = some l) :
    ∃ missed, (shotPosted a b c number l s).lineOf ⟨a, b, c, number, 0⟩
      = some { l with next := l.next + 1, missed := missed } :=
  postShot_line l.inj ⟨a, b, c, number, l.next⟩
    (lineOf_modLineOf_same (f := fun l => { l with next := l.next + 1 }) (fun _ => rfl) found ⟨rfl, rfl, rfl⟩)

theorem shotPosted_line_other {l y : AdditiveLine} {p : ShotRequest} (found : s.lineOf p = some y)
    (other : number ≠ p.line) : (shotPosted a b c number l s).lineOf p = some y := by
  have apart : ¬(⟨a, b, c, number, l.next⟩ : ShotRequest).SameLine p := fun same => other same.2.2
  exact postShot_line_other l.inj
    (lineOf_modLineOf_other (f := fun l => { l with next := l.next + 1 }) (fun _ => rfl) found apart) apart

end OnePosted

/-! ### One line -/

/-- From `l` to `l'` shots have been posted whose points lie at or below the volume `g`. -/
structure PostedTo (g : Nat) (l l' : AdditiveLine) : Prop where
  onward : l.next ≤ l'.next
  due : l'.due = l.due
  d : l'.d = l.d
  r : l'.r = l.r
  fallen : ∀ k, l.next ≤ k → k < l'.next → k < l.due ∧ shotPoint k l.d l.r ≤ g

namespace PostedTo

variable {g : Nat} {l l' : AdditiveLine}

theorem refl (l : AdditiveLine) : PostedTo g l l :=
  ⟨Nat.le_refl _, rfl, rfl, rfl, fun _ from_ below => absurd below (Nat.not_lt.2 from_)⟩

/-- One shot that has fallen due, and those after it. -/
theorem cons {missed : Nat} (open_ : l.next < l.due) (reached : shotPoint l.next l.d l.r ≤ g)
    (rest : PostedTo g { l with next := l.next + 1, missed := missed } l') : PostedTo g l l' where
  onward := (Nat.le_succ _).trans rest.onward
  due := rest.due
  d := rest.d
  r := rest.r
  fallen k from_ below := by
    rcases Nat.eq_or_lt_of_le from_ with here | later
    · exact here ▸ ⟨open_, reached⟩
    · exact rest.fallen k later below

end PostedTo

/-- No shot of the line that has fallen due is left (R68). -/
def NoneDue (g : Nat) (l : AdditiveLine) : Prop := l.next < l.due → g < shotPoint l.next l.d l.r

section Line

variable (a : ArmNo) (b : BayNo) (c : CompNo) (number : Nat)

/-- The posting of a line goes on to the first shot that has not fallen due. -/
theorem postLine_posts (fuel : Nat) {s : State} {l : AdditiveLine} {r : CompRec}
    (found : s.lineOf ⟨a, b, c, number, 0⟩ = some l) (record : s.compRec b c = some r) (enough : l.due - l.next ≤ fuel) :
    ∃ l', (postLine a b c number fuel s).lineOf ⟨a, b, c, number, 0⟩ = some l' ∧ PostedTo r.acc.g l l'
      ∧ NoneDue r.acc.g l' := by
  induction fuel generalizing s l r with
  | zero => exact ⟨l, found, .refl l, fun open_ => absurd open_ (by omega)⟩
  | succ fuel ih =>
    simp only [postLine, found, record]
    split
    · next falls =>
      obtain ⟨missed, line⟩ := shotPosted_line found
      obtain ⟨r', record', acc⟩ := shotPosted_accs l b c r record
      have shorter : l.due - (l.next + 1) ≤ fuel := by omega
      obtain ⟨l', line', posted, none_⟩ := ih line record' shorter
      rw [acc] at posted none_
      exact ⟨l', line', posted.cons falls.1 falls.2, none_⟩
    · next stays => exact ⟨l, found, .refl l, fun open_ => Nat.lt_of_not_le fun reached => stays ⟨open_, reached⟩⟩

theorem postLine_other (fuel : Nat) {s : State} {p : ShotRequest} {y : AdditiveLine} (found : s.lineOf p = some y)
    (other : number ≠ p.line) : (postLine a b c number fuel s).lineOf p = some y := by
  induction fuel generalizing s with
  | zero => exact found
  | succ fuel ih =>
    unfold postLine
    split
    · split
      · exact ih (shotPosted_line_other found other)
      · exact found
    · exact found

end Line

/-! ### The compartment -/

/-- The posting of one line of the compartment on an arm. -/
def linePosted (a : ArmNo) (oc : OnArm) (number : Nat) (s : State) : State :=
  match s.lineOf ⟨a, oc.bay, oc.comp, number, 0⟩ with
  | some l => postLine a oc.bay oc.comp number (l.due - l.next) s
  | none => s

section Compartment

variable {a : ArmNo} {oc : OnArm} {s : State}

theorem postShots_eq {st : ArmState} (posts : st.flowingOrClosing = true) (onArm : s.arms[a].comp = some oc) :
    postShots a st s = linePosted a oc 2 (linePosted a oc 1 s) := by
  simp only [postShots, posts, onArm, if_true]
  rfl

theorem linePosted_posts {number : Nat} {l : AdditiveLine} {r : CompRec}
    (found : s.lineOf ⟨a, oc.bay, oc.comp, number, 0⟩ = some l) (record : s.compRec oc.bay oc.comp = some r) :
    ∃ l', (linePosted a oc number s).lineOf ⟨a, oc.bay, oc.comp, number, 0⟩ = some l' ∧ PostedTo r.acc.g l l'
      ∧ NoneDue r.acc.g l' := by
  simp only [linePosted, found]
  exact postLine_posts a oc.bay oc.comp number _ found record (Nat.le_refl _)

theorem linePosted_other {number : Nat} {p : ShotRequest} {y : AdditiveLine} (found : s.lineOf p = some y)
    (other : number ≠ p.line) : (linePosted a oc number s).lineOf p = some y := by
  unfold linePosted
  split
  · exact postLine_other a oc.bay oc.comp number _ found other
  · exact found

theorem linePosted_accs (a : ArmNo) (oc : OnArm) (number : Nat) (s : State) :
    AccumulatorsKept s (linePosted a oc number s) := by
  unfold linePosted
  split
  · exact (reported_postLine a s ..).accs
  · exact (Reported.refl a s).accs

/-- Both lines of the compartment are posted to their ends, each on its own (R68). -/
theorem postShots_posts {st : ArmState} {r : CompRec} {l : AdditiveLine} {n : Nat} (posts : st.flowingOrClosing = true)
    (onArm : s.arms[a].comp = some oc) (record : s.compRec oc.bay oc.comp = some r) (either : n = 1 ∨ n = 2)
    (found : s.lineOf ⟨a, oc.bay, oc.comp, n, 0⟩ = some l) :
    ∃ l', (postShots a st s).lineOf ⟨a, oc.bay, oc.comp, n, 0⟩ = some l' ∧ PostedTo r.acc.g l l'
      ∧ NoneDue r.acc.g l' := by
  rw [postShots_eq posts onArm]
  rcases either with rfl | rfl
  · obtain ⟨l', line, posted⟩ := linePosted_posts found record
    exact ⟨l', linePosted_other line (show 2 ≠ 1 by decide), posted⟩
  · obtain ⟨r', record', acc⟩ := linePosted_accs a oc 1 s oc.bay oc.comp r record
    rw [← acc]
    exact linePosted_posts (linePosted_other found (show 1 ≠ 2 by decide)) record'

end Compartment

theorem postShots_still {a : ArmNo} {st : ArmState} {s : State} (still : st.flowingOrClosing = false) :
    postShots a st s = s := by
  simp only [postShots, still, Bool.false_eq_true, if_false]

end Sys2Proof.Machine
end

section
/-! Shots withdrawn by an arm that halts (R52, R77) and an injector told of a trip (R80), for O30; and O30 itself. -/

namespace Sys2Proof.Machine

/-! ### The withdrawal (R77) -/

/-- A change of each injector of a list in turn, each by its own number, read at one. -/
theorem each_injector {F : State → InjNo → State} {g : InjNo → Injector → Injector}
    (self : ∀ s i, (F s i).injectors[i] = g i s.injectors[i]) (others : ∀ s i, OtherInjsSame i s (F s i))
    {l : List InjNo} (once : l.Nodup) (s : State) (i : InjNo) :
    (s.each l F).injectors[i] = if i ∈ l then g i s.injectors[i] else s.injectors[i] := by
  induction l generalizing s with
  | nil => rfl
  | cons x l ih =>
    obtain ⟨fresh, once⟩ := List.nodup_cons.1 once
    refine (ih once (F s x)).trans ?_
    by_cases here : i = x
    · subst here
      rw [if_neg fresh, if_pos List.mem_cons_self]
      exact self s i
    · rw [others s x i here]
      simp only [List.mem_cons, here, false_or]

/-- The requests an arm has waiting at the injectors its compartment's lines name. -/
def withdrawnShots (a : ArmNo) (r : CompRec) (s : State) : List ShotRequest :=
  allInjs.flatMap fun i => if r.names i then queuedOf s.injectors[i] a else []

/-- Those requests taken out of one queue. -/
def queueLeft (a : ArmNo) (r : CompRec) (s : State) (i : InjNo) : State :=
  if r.names i then s.modInj i fun x => { x with queue := x.queue.filter fun q => q.arm ≠ a } else s

/-- An injector with those requests taken out. -/
def Injector.leftBy (x : Injector) (a : ArmNo) (named : Bool) : Injector :=
  { x with queue := if named then x.queue.filter fun q => q.arm ≠ a else x.queue }

/-- The state with the requests withdrawn and counted, before the lines are told. -/
def queuesLeft (a : ArmNo) (r : CompRec) (s : State) : State :=
  (s.each allInjs (queueLeft a r)).modArm a fun x => { x with outstanding := x.outstanding - (withdrawnShots a r s).length }

/-- The numbers of the shots withdrawn from a line. -/
def withdrawnOf (taken : List ShotRequest) (l : AdditiveLine) : List Nat :=
  (taken.filter fun q => q.line = l.number).map ShotRequest.k

section Withdrawn

variable {a : ArmNo} {r : CompRec} {s : State}

theorem withdrawShots_eq (record : s.armComp a = some r) : withdrawShots a s = (queuesLeft a r s).modArmComp a
    fun r' => r'.modLines fun l => l.withdraw (withdrawnOf (withdrawnShots a r s) l) := by
  simp only [withdrawShots, record]
  rfl

theorem queueLeft_frame (a : ArmNo) (r : CompRec) (s : State) (i : InjNo) :
    queueLeft a r s i = { s with injectors := (queueLeft a r s i).injectors } := by
  unfold queueLeft
  split <;> rfl

theorem queueLeft_others (a : ArmNo) (r : CompRec) (s : State) (i : InjNo) : OtherInjsSame i s (queueLeft a r s i) := by
  unfold queueLeft
  split
  · exact fun _ other => vmod_other _ _ _ _ other
  · exact fun _ _ => rfl

theorem queueLeft_self (a : ArmNo) (r : CompRec) (s : State) (i : InjNo) :
    (queueLeft a r s i).injectors[i] = s.injectors[i].leftBy a (r.names i) := by
  unfold queueLeft Injector.leftBy
  split
  · exact modInj_self ..
  · rfl

theorem queuesLeft_injector (a : ArmNo) (r : CompRec) (s : State) (i : InjNo) :
    (queuesLeft a r s).injectors[i] = s.injectors[i].leftBy a (r.names i) := by
  have every : i ∈ allInjs := by revert i; decide
  have each := each_injector (F := queueLeft a r) (g := fun i x => x.leftBy a (r.names i)) (queueLeft_self a r)
    (queueLeft_others a r) (l := allInjs) (by decide) s i
  exact each.trans (if_pos every)

theorem queuesLeft_bays (a : ArmNo) (r : CompRec) (s : State) : (queuesLeft a r s).bays = s.bays :=
  (congrArg State.bays (eachInj_frame (queueLeft_frame a r) allInjs s) :)

theorem queuesLeft_arm (a : ArmNo) (r : CompRec) (s : State) : (queuesLeft a r s).arms[a] = { s.arms[a] with
    outstanding := s.arms[a].outstanding - (withdrawnShots a r s).length } := by
  have arms : (s.each allInjs (queueLeft a r)).arms = s.arms :=
    (congrArg State.arms (eachInj_frame (queueLeft_frame a r) allInjs s) :)
  refine (vmod_self _ a _).trans ?_
  rw [arms]
  rfl

/-- The record of the compartment once its lines have been told. -/
theorem withdrawShots_record (record : s.armComp a = some r) : (withdrawShots a s).armComp a
    = some (r.modLines fun l => l.withdraw (withdrawnOf (withdrawnShots a r s) l)) := by
  obtain ⟨oc, onArm, found⟩ := armComp_some record
  have onArm' : (queuesLeft a r s).arms[a].comp = some oc := (congrArg Arm.comp (queuesLeft_arm a r s)).trans onArm
  have found' : (queuesLeft a r s).compRec oc.bay oc.comp = some r := (compRec_congr
    (congrArg (fun v : Vector Bay 4 => v[oc.bay].session) (queuesLeft_bays a r s)) oc.comp).trans found
  rw [withdrawShots_eq record, modArmComp_of_onArm onArm']
  refine (armComp_of_onArm (s := (queuesLeft a r s).modComp oc.bay oc.comp _) onArm').trans ?_
  exact compRec_modComp (f := fun r' => r'.modLines fun l => l.withdraw (withdrawnOf (withdrawnShots a r s) l))
    (fun _ => rfl) found'

/-- A line's next shot goes back to the lowest taken (R77). -/
theorem withdraw_eq (l : AdditiveLine) (ks : List Nat) : l.withdraw ks = match ks.min? with
    | none => l
    | some low => { l with next := low, missed := l.missed - ((l.next - low) - ks.length) } := by
  cases ks <;> rfl

end Withdrawn

/-- An arm that halts takes its requests out of the queues its lines name, and each line's next shot goes back. -/
theorem withdrawShots_withdraws (s : State) (a : ArmNo) (r : CompRec) (record : s.armComp a = some r) :
    let t := withdrawShots a s
    let taken := allInjs.flatMap fun i =>
      if r.names i then s.injectors[i].queue.filter fun q => q.arm = a else []
    let ks (l : AdditiveLine) : List Nat := (taken.filter fun q => q.line = l.number).map ShotRequest.k
    (∀ i : InjNo, t.injectors[i] = { s.injectors[i] with
        queue := if r.names i then s.injectors[i].queue.filter fun q => q.arm ≠ a else s.injectors[i].queue })
      ∧ t.arms[a].outstanding = s.arms[a].outstanding - taken.length
      ∧ (∃ r', t.armComp a = some r' ∧ r'.lines = r.lines.map fun l => match (ks l).min? with
          | none => l
          | some low => { l with next := low, missed := l.missed - ((l.next - low) - (ks l).length) }) := by
  have told := withdrawShots_eq record
  have injectors : (withdrawShots a s).injectors = (queuesLeft a r s).injectors := by
    rw [told, modArmComp_injectors]
  have arms : (withdrawShots a s).arms = (queuesLeft a r s).arms := by
    rw [told, modArmComp_frame]
  refine ⟨fun i => (injector_congr injectors i).trans (queuesLeft_injector a r s i), ?_, _, withdrawShots_record record,
    List.map_congr_left fun l _ => withdraw_eq l _⟩
  exact (congrArg (fun v : Vector Arm 8 => v[a].outstanding) arms).trans
    (congrArg Arm.outstanding (queuesLeft_arm a r s))

/-! ### The trip (R80) -/

/-- One request of an emptied queue: missed at its line, gone from its arm. -/
def requestMissed (s : State) (q : ShotRequest) : State :=
  shotLeft q (s.modLineOf q fun l => { l with missed := l.missed + 1 })

/-- The requests of a list for one line. -/
def countFor (q : ShotRequest) (l : List ShotRequest) : Nat :=
  l.countP fun y => y.bay = q.bay ∧ y.comp = q.comp ∧ y.line = q.line

theorem countFor_same {p q : ShotRequest} (same : q.SameLine p) : countFor p [q] = 1 := by
  obtain ⟨bay, comp, line⟩ := same
  simp only [countFor, List.countP_singleton, bay, comp, line, and_self, decide_true, if_true]

theorem countFor_other {p q : ShotRequest} (other : ¬q.SameLine p) : countFor p [q] = 0 := by
  rw [countFor, List.countP_singleton]
  exact if_neg fun yes => other (by simpa [ShotRequest.SameLine] using yes)

section Tripped

variable {s : State} {i : InjNo}

theorem requestMissed_injectors (s : State) (q : ShotRequest) : (requestMissed s q).injectors = s.injectors :=
  shotLeft_injectors ..

theorem requestMissed_line {p : ShotRequest} {l : AdditiveLine} (q : ShotRequest) (found : s.lineOf p = some l) :
    (requestMissed s q).lineOf p = some { l with missed := l.missed + countFor p [q] } := by
  refine (lineOf_of_bays (shotLeft_bays ..) p).trans ?_
  by_cases same : q.SameLine p
  · rw [lineOf_modLineOf_same (f := fun l => { l with missed := l.missed + 1 }) (fun _ => rfl) found same,
      countFor_same same]
  · rw [lineOf_modLineOf_other (f := fun l => { l with missed := l.missed + 1 }) (fun _ => rfl) found same,
      countFor_other same]
    rfl

/-- The queue of a list of requests emptied: each counts as missed at its line (R80). -/
theorem eachMissed_line {p : ShotRequest} {l : AdditiveLine} (queue : List ShotRequest) (found : s.lineOf p = some l) :
    (s.each queue requestMissed).lineOf p = some { l with missed := l.missed + countFor p queue } := by
  induction queue generalizing s l with
  | nil => exact found
  | cons q queue ih =>
    refine (ih (requestMissed_line q found)).trans ?_
    have count : countFor p (q :: queue) = countFor p [q] + countFor p queue := by
      rw [countFor, ← List.singleton_append, List.countP_append]
      rfl
    rw [count, Nat.add_assoc]

theorem emptyQueue_injectors (i : InjNo) (s : State) :
    (emptyQueue i s).injectors = (s.modInj i fun x => { x with queue := [] }).injectors :=
  each_keeps State.injectors requestMissed requestMissed_injectors _ _

theorem emptyQueue_injector (i : InjNo) (s : State) :
    (emptyQueue i s).injectors[i] = { s.injectors[i] with queue := [] } :=
  (injector_congr (emptyQueue_injectors i s) i).trans (modInj_self ..)

theorem emptyQueue_others (i : InjNo) (s : State) : OtherInjsSame i s (emptyQueue i s) := fun x other =>
  (injector_congr (emptyQueue_injectors i s) x).trans (vmod_other _ _ _ _ other)

theorem emptyQueue_line {p : ShotRequest} {l : AdditiveLine} (i : InjNo) (found : s.lineOf p = some l) :
    (emptyQueue i s).lineOf p = some { l with missed := l.missed + countFor p s.injectors[i].queue } :=
  eachMissed_line (s := s.modInj i fun x => { x with queue := [] }) _ found

theorem tripInjector_used (used : (s.injCfg i).used = true) : tripInjector i s = emptyQueue i (endShot i .trip s) :=
  if_pos used

theorem endShot_still (still : s.injectors[i].state ≠ .shot) (ending : ShotEnding) : endShot i ending s = s := by
  unfold endShot
  split
  · next state _ => exact absurd state still
  · rfl

/-- A shot that ends by the trip raises nothing, so the lines stand (R72, R80). -/
theorem endShot_trip_bays (i : InjNo) (s : State) : (endShot i .trip s).bays = s.bays := by
  unfold endShot
  split
  · simp only [ne_eq, not_true_eq_false, and_false, if_false, modInj_bays]
  · rfl

theorem endShot_queue (i : InjNo) (ending : ShotEnding) (s : State) :
    (endShot i ending s).injectors[i].queue = s.injectors[i].queue := by
  by_cases state : s.injectors[i].state = .shot
  · cases current : s.injectors[i].current with
    | some shot => exact (congrArg Injector.queue (endShot_injector state current ending)).trans rfl
    | none => simp only [endShot, state, current]
  · rw [endShot_still state]

end Tripped

/-- An injector with no request waiting is IDLE once its settling shot is finished (R75). -/
theorem finishShot_empties {s : State} {i : InjNo} (queue : s.injectors[i].queue = [])
    (settled : s.injectors[i].state = .idle ∨ ∃ x, s.injectors[i].state = .after ∧ s.injectors[i].current = some x) :
    (finishShot i s).injectors[i].state = .idle ∧ (finishShot i s).injectors[i].queue = [] := by
  rcases settled with idle | ⟨x, after, current⟩
  · have still : finishShot i s = s := by simp only [finishShot, idle]
    rw [still]
    exact ⟨idle, queue⟩
  · obtain ⟨bad, told⟩ := shotTold_injector i s x
    have empty : (shotTold i x s).injectors[i].queue = [] := (congrArg Injector.queue told).trans queue
    rw [finishShot_eq after current, takeOldest_none i _ (.inr empty)]
    exact ⟨congrArg Injector.state told, empty⟩

/-- A trip ends the shot and empties the queue into the missed counts; its second stage finishes the shot. -/
theorem tripInjector_trips (s : State) (i : InjNo) (used : (s.injCfg i).used = true)
    (sound : s.injectors[i].state = .idle ∨ s.injectors[i].current.isSome = true) :
    let t := take (.tripInjector i) s
    t.injectors[i].queue = [] ∧ solenoid t i = false ∧ OtherInjsSame i s t
      ∧ (∀ x, s.injectors[i].state = .shot → s.injectors[i].current = some x →
          t.injectors[i].state = .after ∧ t.injectors[i].current = some { x with ending := some .trip })
      ∧ (s.injectors[i].state ≠ .shot →
          t.injectors[i].state = s.injectors[i].state ∧ t.injectors[i].current = s.injectors[i].current)
      ∧ (∀ q l, s.lineOf q = some l → t.lineOf q = some { l with
          missed := l.missed + s.injectors[i].queue.countP fun y =>
            y.bay = q.bay ∧ y.comp = q.comp ∧ y.line = q.line })
      ∧ (take (.stageTwoInjector i) s).injectors[i].state = .idle
      ∧ (take (.stageTwoInjector i) s).injectors[i].queue = [] := by
  have tripped : take (.tripInjector i) s = emptyQueue i (endShot i .trip s) := tripInjector_used used
  have second : take (.stageTwoInjector i) s = finishShot i (tripInjector i s) := if_pos used
  have emptied := emptyQueue_injector i (endShot i .trip s)
  have queue : (emptyQueue i (endShot i .trip s)).injectors[i].queue = [] := congrArg Injector.queue emptied
  have ended (x : Shot) (shot : s.injectors[i].state = .shot) (current : s.injectors[i].current = some x) :
      (emptyQueue i (endShot i .trip s)).injectors[i].state = .after
        ∧ (emptyQueue i (endShot i .trip s)).injectors[i].current = some { x with ending := some .trip } := by
    rw [emptied, endShot_injector shot current]
    exact ⟨rfl, rfl⟩
  have stood (still : s.injectors[i].state ≠ .shot) :
      (emptyQueue i (endShot i .trip s)).injectors[i].state = s.injectors[i].state
        ∧ (emptyQueue i (endShot i .trip s)).injectors[i].current = s.injectors[i].current := by
    rw [emptied, endShot_still still]
    exact ⟨rfl, rfl⟩
  have settled : (emptyQueue i (endShot i .trip s)).injectors[i].state = .idle
      ∨ ∃ x, (emptyQueue i (endShot i .trip s)).injectors[i].state = .after
        ∧ (emptyQueue i (endShot i .trip s)).injectors[i].current = some x := by
    cases state : s.injectors[i].state with
    | idle => exact .inl ((stood (by rw [state]; decide)).1.trans state)
    | shot =>
      obtain ⟨x, current⟩ := Option.isSome_iff_exists.1 (sound.resolve_left (by rw [state]; decide))
      exact .inr ⟨_, ended x state current⟩
    | after =>
      obtain ⟨x, current⟩ := Option.isSome_iff_exists.1 (sound.resolve_left (by rw [state]; decide))
      obtain ⟨state', current'⟩ := stood (by rw [state]; decide)
      exact .inr ⟨x, state'.trans state, current'.trans current⟩
  have shut : (emptyQueue i (endShot i .trip s)).injectors[i].state ≠ .shot := by
    rcases settled with idle | ⟨_, after, _⟩
    · rw [idle]; decide
    · rw [after]; decide
  have finished := finishShot_empties queue settled
  rw [tripInjector_used used] at second
  simp only [tripped, second]
  refine ⟨queue, solenoid_of_state shut, fun x other => ?_, ended, stood, fun q l found => ?_, finished⟩
  · exact (emptyQueue_others i _ x other).trans ((dosed_endShot (a := 0) i s .trip).injs x other)
  · have line := emptyQueue_line i ((lineOf_of_bays (endShot_trip_bays i s) q).trans found)
    rw [endShot_queue] at line
    exact line

/-! ### O30 -/

/-- Settles O30: the time limit, the judgement, the request posted, the shots that fall due, the withdrawal, the trip. -/
theorem shotEndsAndIsJudged : Obligations.ShotEndsAndIsJudged := by
  refine ⟨fun s i x ready state current => ?_, judgeShot_cases, postShot_cases, fun s a st => ⟨postShots_still,
    fun oc r n l posts onArm record either found => ?_⟩, withdrawShots_withdraws, tripInjector_trips⟩
  · obtain ⟨u, run, ended, inbox, others, frame⟩ := shotTimeLimit_ends ready state current
    have after : u.injectors[i].state = .after := congrArg Injector.state ended
    refine ⟨u, run, after, solenoid_of_state ?_, congrArg Injector.current ended, congrArg Injector.shotTimer ended,
      congrArg Injector.settleTimer ended, congrArg Injector.shortfalls ended, inbox, others, frame⟩
    rw [after]
    decide
  · obtain ⟨l', line, posted, none_⟩ := postShots_posts posts onArm record either found
    rw [NoneDue, posted.due, posted.d, posted.r] at none_
    exact ⟨l', line, posted.onward, posted.due, none_, posted.fallen⟩

end Sys2Proof.Machine
end

section
/-! The operations of the blocks that leave the permit table, retained memory and the writes of the command in progress alone
(`State.ledger`), one lemma for each: what the law of R86 is read from. -/

namespace Sys2Proof.Machine

/-! ### The ledger -/

/-- The permit table with every copy of it that start-up may come to read (R86). -/
structure Ledger where
  permits : List Permit
  nv : Retained
  undo : List Retained

/-- That part of the state. -/
def State.ledger (s : State) : Ledger := { permits := s.permits, nv := s.nv, undo := s.undo }

/-- The law of the permit table is read from the ledger alone. -/
theorem permitsLawful_of_ledger {s t : State} (same : t.ledger = s.ledger) (lawful : PermitsLawful s) :
    PermitsLawful t := by
  obtain ⟨permits, nv, undo⟩ := Ledger.mk.inj same
  unfold PermitsLawful at lawful ⊢
  rwa [permits, nv, undo]

/-! ### The updates -/

section Updates

variable (s : State)

@[simp] theorem modArm_ledger (a : ArmNo) (f : Arm → Arm) : (s.modArm a f).ledger = s.ledger := rfl
@[simp] theorem modPump_ledger (p : PumpNo) (f : Pump → Pump) : (s.modPump p f).ledger = s.ledger := rfl
@[simp] theorem modInj_ledger (i : InjNo) (f : Injector → Injector) : (s.modInj i f).ledger = s.ledger := rfl
@[simp] theorem modBay_ledger (b : BayNo) (f : Bay → Bay) : (s.modBay b f).ledger = s.ledger := rfl
@[simp] theorem modInst_ledger (i : InstId) (f : Instance → Instance) : (s.modInst i f).ledger = s.ledger := rfl
@[simp] theorem modSession_ledger (b : BayNo) (f : Session → Session) : (s.modSession b f).ledger = s.ledger := rfl
@[simp] theorem modComp_ledger (b : BayNo) (c : CompNo) (f : CompRec → CompRec) :
    (s.modComp b c f).ledger = s.ledger := rfl
@[simp] theorem modLineOf_ledger (q : ShotRequest) (f : AdditiveLine → AdditiveLine) :
    (s.modLineOf q f).ledger = s.ledger := rfl
@[simp] theorem push_ledger (n : Notice) : (s.push n).ledger = s.ledger := rfl
@[simp] theorem pushAll_ledger (l : List Notice) : (s.pushAll l).ledger = s.ledger := rfl
@[simp] theorem pushFirst_ledger (l : List Notice) : (s.pushFirst l).ledger = s.ledger := rfl
@[simp] theorem sendShow_ledger (b : BayNo) (p : Prompt) (l : List Nat) :
    (s.sendShow b p l).ledger = s.ledger := rfl

@[simp] theorem modArmComp_ledger (a : ArmNo) (f : CompRec → CompRec) : (s.modArmComp a f).ledger = s.ledger := by
  unfold State.modArmComp; split <;> simp

@[simp] theorem modMeter_ledger (a : ArmNo) (f : MeterEngine → MeterEngine) :
    (s.modMeter a f).ledger = s.ledger := rfl
@[simp] theorem modPulse_ledger (a : ArmNo) (f : PulseInput → PulseInput) :
    (s.modPulse a f).ledger = s.ledger := rfl
@[simp] theorem modTemp_ledger (a : ArmNo) (f : TempReceiver → TempReceiver) :
    (s.modTemp a f).ledger = s.ledger := rfl

@[simp] theorem ite_ledger (c : Prop) [Decidable c] (x y : State) :
    (if c then x else y).ledger = if c then x.ledger else y.ledger := apply_ite State.ledger c x y

@[simp] theorem each_ledger {α : Type} (f : State → α → State) (l : List α) (h : ∀ s x, (f s x).ledger = s.ledger) :
    (s.each l f).ledger = s.ledger := each_keeps State.ledger f h l s

end Updates

/-! ### Valves -/

@[simp] theorem setValveCond_ledger (a : ArmNo) (p : Bool) (s : State) :
    (setValveCond a p s).ledger = s.ledger := by
  simp [setValveCond]

@[simp] theorem setNoFlowCond_ledger (a : ArmNo) (p : Bool) (s : State) :
    (setNoFlowCond a p s).ledger = s.ledger := by
  simp [setNoFlowCond]

@[simp] theorem restartTravel_ledger (a : ArmNo) (s : State) :
    (restartTravel a s).ledger = s.ledger := by
  simp [restartTravel]

@[simp] theorem refreshCommand_ledger (a : ArmNo) (s : State) :
    (refreshCommand a s).ledger = s.ledger := by
  simp [refreshCommand]

@[simp] theorem compareSwitches_ledger (a : ArmNo) (s : State) :
    (compareSwitches a s).ledger = s.ledger := by
  simp [compareSwitches]

@[simp] theorem startNoFlow_ledger (a : ArmNo) (s : State) :
    (startNoFlow a s).ledger = s.ledger := rfl

@[simp] theorem stopNoFlow_ledger (a : ArmNo) (s : State) :
    (stopNoFlow a s).ledger = s.ledger := by
  simp [stopNoFlow]

@[simp] theorem endPumpWait_ledger (a : ArmNo) (s : State) :
    (endPumpWait a s).ledger = s.ledger := by
  simp [endPumpWait]

/-! ### Pumps -/

@[simp] theorem addDemand_ledger (a : ArmNo) (s : State) :
    (addDemand a s).ledger = s.ledger := by
  unfold addDemand
  split <;> simp

@[simp] theorem removeDemand_ledger (a : ArmNo) (s : State) :
    (removeDemand a s).ledger = s.ledger := by
  unfold removeDemand
  split <;> simp

@[simp] theorem releaseIfReady_ledger (a : ArmNo) (s : State) :
    (releaseIfReady a s).ledger = s.ledger := by
  unfold releaseIfReady
  split <;> simp

@[simp] theorem forcePumpsOff_ledger (s : State) :
    (forcePumpsOff s).ledger = s.ledger := rfl

@[simp] theorem pumpsReturn_ledger (s : State) :
    (pumpsReturn s).ledger = s.ledger := by
  unfold pumpsReturn
  simp
  rfl

@[simp] theorem setMode_ledger (m : Mode) (s : State) :
    (setMode m s).ledger = s.ledger := by
  unfold setMode
  simp
  rfl

/-! ### Injectors -/

@[simp] theorem markAdditiveFault_ledger (i : InjNo) (s : State) :
    (markAdditiveFault i s).ledger = s.ledger := rfl

@[simp] theorem raiseInj_ledger (i : InjNo) (e : InstId) (s : State) :
    (raiseInj i e s).ledger = s.ledger := by
  simp [raiseInj]

@[simp] theorem raiseOnShot_ledger (i : InjNo) (e : InstId) (q : ShotRequest) (s : State) :
    (raiseOnShot i e q s).ledger = s.ledger := by
  simp [raiseOnShot]

@[simp] theorem shotJoined_ledger (q : ShotRequest) (s : State) :
    (shotJoined q s).ledger = s.ledger := rfl

@[simp] theorem shotLeft_ledger (q : ShotRequest) (s : State) :
    (shotLeft q s).ledger = s.ledger := by
  simp [shotLeft]

@[simp] theorem takeOldest_ledger (i : InjNo) (s : State) :
    (takeOldest i s).ledger = s.ledger := by
  unfold takeOldest
  simp only []
  split <;> simp

@[simp] theorem refuseShot_ledger (i : InjNo) (q : ShotRequest) (s : State) :
    (refuseShot i q s).ledger = s.ledger := rfl

@[simp] theorem postShot_ledger (i : InjNo) (q : ShotRequest) (s : State) :
    (postShot i q s).ledger = s.ledger := by
  simp [postShot]

@[simp] theorem endShot_ledger (i : InjNo) (e : ShotEnding) (s : State) :
    (endShot i e s).ledger = s.ledger := by
  unfold endShot
  split <;> simp

@[simp] theorem judgeShot_ledger (i : InjNo) (x : Shot) (m d : Nat) (s : State) :
    (judgeShot i x m d s).ledger = s.ledger := by
  simp [judgeShot]

@[simp] theorem finishShot_ledger (i : InjNo) (s : State) :
    (finishShot i s).ledger = s.ledger := by
  unfold finishShot
  split <;> simp

@[simp] theorem additivePulseAt_ledger (i : InjNo) (s : State) :
    (additivePulseAt i s).ledger = s.ledger := by
  unfold additivePulseAt
  simp only []
  split <;> simp

@[simp] theorem withdrawShots_ledger (a : ArmNo) (s : State) :
    (withdrawShots a s).ledger = s.ledger := by
  unfold withdrawShots
  split <;> simp

@[simp] theorem emptyQueue_ledger (i : InjNo) (s : State) :
    (emptyQueue i s).ledger = s.ledger := by
  simp [emptyQueue]

@[simp] theorem tripInjector_ledger (i : InjNo) (s : State) :
    (tripInjector i s).ledger = s.ledger := by
  simp [tripInjector]

@[simp] theorem stageTwoInjector_ledger (i : InjNo) (s : State) :
    (stageTwoInjector i s).ledger = s.ledger := by
  simp [stageTwoInjector]

/-! ### Arms -/

@[simp] theorem enterState_ledger (a : ArmNo) (st : ArmState) (s : State) :
    (enterState a st s).ledger = s.ledger := by
  simp [enterState]

@[simp] theorem startClosingLimit_ledger (a : ArmNo) (s : State) :
    (startClosingLimit a s).ledger = s.ledger := rfl

@[simp] theorem enterClosing_ledger (a : ArmNo) (s : State) :
    (enterClosing a s).ledger = s.ledger := by
  simp [enterClosing]

@[simp] theorem enterHalting_ledger (a : ArmNo) (c : StopCause) (s : State) :
    (enterHalting a c s).ledger = s.ledger := by
  simp [enterHalting]

@[simp] theorem stopArm_ledger (a : ArmNo) (c : StopCause) (s : State) :
    (stopArm a c s).ledger = s.ledger := by
  simp [stopArm]

@[simp] theorem enterHeld_ledger (a : ArmNo) (s : State) :
    (enterHeld a s).ledger = s.ledger := by
  simp [enterHeld]

@[simp] theorem markNotConfirmed_ledger (a : ArmNo) (s : State) :
    (markNotConfirmed a s).ledger = s.ledger := by
  simp [markNotConfirmed]

@[simp] theorem completeArm_ledger (a : ArmNo) (r : EndReason) (s : State) :
    (completeArm a r s).ledger = s.ledger := by
  unfold completeArm
  split <;> simp

@[simp] theorem testArm_ledger (a : ArmNo) (s : State) :
    (testArm a s).ledger = s.ledger := by
  unfold testArm
  simp only []
  split <;> simp

@[simp] theorem closingLimitAt_ledger (a : ArmNo) (s : State) :
    (closingLimitAt a s).ledger = s.ledger := by
  unfold closingLimitAt
  dsimp only
  repeat' split
  all_goals simp

@[simp] theorem forceArm_ledger (a : ArmNo) (s : State) :
    (forceArm a s).ledger = s.ledger := by
  unfold forceArm
  split <;> simp

@[simp] theorem finishArm_ledger (a : ArmNo) (s : State) :
    (finishArm a s).ledger = s.ledger := by
  unfold finishArm
  split <;> simp

@[simp] theorem releaseArm_ledger (a : ArmNo) (s : State) :
    (releaseArm a s).ledger = s.ledger := by
  unfold releaseArm
  split <;> simp

@[simp] theorem watchFlow_ledger (a : ArmNo) (q : Nat) (s : State) :
    (watchFlow a q s).ledger = s.ledger := by
  unfold watchFlow
  repeat' split
  all_goals simp

@[simp] theorem checkOverrun_ledger (a : ArmNo) (s : State) :
    (checkOverrun a s).ledger = s.ledger := by
  unfold checkOverrun
  split <;> simp

@[simp] theorem flowingReport_ledger (a : ArmNo) (q : Nat) (l : Bool) (s : State) :
    (flowingReport a q l s).ledger = s.ledger := by
  unfold flowingReport
  repeat' split
  all_goals simp

@[simp] theorem armReport_ledger (a : ArmNo) (q : Nat) (l : Bool) (s : State) :
    (armReport a q l s).ledger = s.ledger := by
  unfold armReport
  split <;> simp

/-! ### Supervision -/

@[simp] theorem markWarning_ledger (i : InstId) (s : State) :
    (markWarning i s).ledger = s.ledger := rfl

@[simp] theorem startTrip_ledger (c : TripCause) (s : State) :
    (startTrip c s).ledger = s.ledger := by
  unfold startTrip
  simp
  rfl

@[simp] theorem tripOn_ledger (i : InstId) (s : State) :
    (tripOn i s).ledger = s.ledger := by
  simp [tripOn]

@[simp] theorem countUp_ledger (i : InstId) (s : State) :
    (countUp i s).ledger = s.ledger := rfl

@[simp] theorem sendStops_ledger (i : InstId) (s : State) :
    (sendStops i s).ledger = s.ledger := by
  simp [sendStops]

@[simp] theorem enterActive_ledger (i : InstId) (r : Bool) (s : State) :
    (enterActive i r s).ledger = s.ledger := by
  simp [enterActive]

@[simp] theorem condition_ledger (i : InstId) (p : Bool) (s : State) :
    (condition i p s).ledger = s.ledger := by
  unfold condition
  dsimp only
  repeat' split
  all_goals simp

@[simp] theorem filterExpiry_ledger (i : InstId) (s : State) :
    (filterExpiry i s).ledger = s.ledger := by
  unfold filterExpiry
  repeat' split
  all_goals simp

@[simp] theorem markMeterFault_ledger (i : InstId) (s : State) :
    (markMeterFault i s).ledger = s.ledger := by
  unfold markMeterFault
  split <;> simp

@[simp] theorem eventAt_ledger (i : InstId) (s : State) :
    (eventAt i s).ledger = s.ledger := by
  simp [eventAt]

@[simp] theorem redeliver_ledger (a : ArmNo) (s : State) :
    (redeliver a s).ledger = s.ledger := by
  unfold redeliver
  repeat' split
  all_goals simp

@[simp] theorem secondStage_ledger (s : State) :
    (secondStage s).ledger = s.ledger := by
  unfold secondStage
  split <;> rfl

@[simp] theorem bayReport_ledger (b : BayNo) (s : State) :
    (bayReport b s).ledger = s.ledger := by
  unfold bayReport
  split
  · simp only [ite_ledger, setMode_ledger, ite_self]
    rfl
  · rfl

@[simp] theorem examineTrips_ledger (s : State) :
    (examineTrips s).ledger = s.ledger := by
  unfold examineTrips
  split <;> simp

/-! ### Bays -/

@[simp] theorem startIdleTimers_ledger (b : BayNo) (s : State) :
    (startIdleTimers b s).ledger = s.ledger := rfl

@[simp] theorem activity_ledger (b : BayNo) (k : Activity) (s : State) :
    (activity b k s).ledger = s.ledger := by
  simp [activity]

@[simp] theorem reportPermissives_ledger (b : BayNo) (s : State) :
    (reportPermissives b s).ledger = s.ledger := rfl

@[simp] theorem followDeadman_ledger (b : BayNo) (s : State) :
    (followDeadman b s).ledger = s.ledger := by
  unfold followDeadman
  repeat' split
  all_goals simp

@[simp] theorem restartDeadman_ledger (b : BayNo) (s : State) :
    (restartDeadman b s).ledger = s.ledger := rfl

@[simp] theorem deadmanViolation_ledger (b : BayNo) (p : Prompt) (s : State) :
    (deadmanViolation b p s).ledger = s.ledger := by
  simp [deadmanViolation]

@[simp] theorem enterEnding_ledger (b : BayNo) (c : EndCause) (s : State) :
    (enterEnding b c s).ledger = s.ledger := by
  simp [enterEnding]

@[simp] theorem endSession_ledger (b : BayNo) (c : EndCause) (s : State) :
    (endSession b c s).ledger = s.ledger := by
  simp [endSession]

@[simp] theorem shotWritten_ledger (b : BayNo) (i : InjNo) (s : State) :
    (shotWritten b i s).ledger = s.ledger := by
  simp [shotWritten]

@[simp] theorem armChanged_ledger (a : ArmNo) (s : State) :
    (armChanged a s).ledger = s.ledger := by
  unfold armChanged
  dsimp only
  repeat' split
  all_goals simp

@[simp] theorem stageTwoNotice_ledger (b : BayNo) (s : State) :
    (stageTwoNotice b s).ledger = s.ledger := by
  unfold stageTwoNotice
  split <;> simp

/-! ### Clears -/

@[simp] theorem clearNotice_ledger (i : InstId) (s : State) : (clearNotice i s).ledger = s.ledger := by
  unfold clearNotice
  split <;> rfl

@[simp] theorem clearOne_ledger (i : InstId) (s : State) : (clearOne s i).ledger = s.ledger := by
  simp [clearOne]

@[simp] theorem clearAll_ledger (l : List InstId) (s : State) : (clearAll l s).1.ledger = s.ledger :=
  each_ledger s clearOne l fun t i => clearOne_ledger i t

/-! ### Metering (R19 to R33, R68) -/

@[simp] theorem leakWatch_ledger (cfg : Configuration) (a : ArmNo) (dg : Nat) (s : State) :
    (leakWatch cfg a dg s).ledger = s.ledger := by
  simp [leakWatch]

@[simp] theorem accountStandard_ledger (cfg : Configuration) (a : ArmNo) (p : ProductNo) (dg : Nat) (s : State) :
    (accountStandard cfg a p dg s).ledger = s.ledger := by
  simp [accountStandard]

@[simp] theorem account_ledger (cfg : Configuration) (a : ArmNo) (s : State) : (account cfg a s).ledger = s.ledger := by
  simp only [account, leakWatch_ledger]
  split
  · rfl
  · split
    · exact accountStandard_ledger ..
    · rfl

@[simp] theorem postLine_ledger (a : ArmNo) (b : BayNo) (c : CompNo) (number fuel : Nat) (s : State) :
    (postLine a b c number fuel s).ledger = s.ledger := by
  induction fuel generalizing s with
  | zero => rfl
  | succ fuel ih =>
    unfold postLine
    split
    · split
      · simp [ih]
      · rfl
    · rfl

@[simp] theorem postShots_ledger (a : ArmNo) (st : ArmState) (s : State) : (postShots a st s).ledger = s.ledger := by
  unfold postShots
  split
  · split
    · refine each_ledger s _ [1, 2] fun t number => ?_
      split
      · exact postLine_ledger ..
      · rfl
    · rfl
  · rfl

@[simp] theorem interval_ledger (cfg : Configuration) (a : ArmNo) (s : State) : (interval cfg a s).ledger = s.ledger := by
  unfold interval
  split <;> simp

/-! ### Pins, edges and readings (R3 to R17) -/

@[simp] theorem setPulsePin_ledger (p : PulsePin) (level : Bool) (s : State) :
    (setPulsePin p level s).ledger = s.ledger := by
  unfold setPulsePin
  split <;> rfl

@[simp] theorem setSwitch_ledger (a : ArmNo) (w : ValveSwitch) (level : Bool) (s : State) :
    (setSwitch a w level s).ledger = s.ledger := by
  cases w <;> rfl

@[simp] theorem setPermitPin_ledger (b : BayNo) (k : PermitInput) (level : Bool) (s : State) :
    (setPermitPin b k level s).ledger = s.ledger := by
  cases k <;> rfl

@[simp] theorem setDeadmanPin_ledger (b : BayNo) (level : Bool) (s : State) :
    (setDeadmanPin b level s).ledger = s.ledger := rfl
@[simp] theorem setEstopPin_ledger (level : Bool) (s : State) : (setEstopPin level s).ledger = s.ledger := rfl
@[simp] theorem setResetPin_ledger (level : Bool) (s : State) : (setResetPin level s).ledger = s.ledger := rfl
@[simp] theorem additivePinHigh_ledger (i : InjNo) (s : State) : (additivePinHigh i s).ledger = s.ledger := rfl

@[simp] theorem followPin_ledger (p : PulsePin) (level : Bool) (s : State) : (followPin p level s).ledger = s.ledger := by
  unfold followPin
  split <;> simp

@[simp] theorem raiseMeterPulse_ledger (a : ArmNo) (raised : Bool) (s : State) :
    (raiseMeterPulse a raised s).ledger = s.ledger := by
  simp [raiseMeterPulse]

@[simp] theorem pulseArrival_ledger (a : ArmNo) (s : State) : (pulseArrival a s).ledger = s.ledger := by
  unfold pulseArrival
  simp only
  split <;> simp

@[simp] theorem risingEdge_ledger (a : ArmNo) (ch : Channel) (s : State) : (risingEdge a ch s).ledger = s.ledger := by
  cases ch <;> simp [risingEdge]

@[simp] theorem fallingEdge_ledger (p : PulsePin) (s : State) : (fallingEdge p s).ledger = s.ledger := by
  unfold fallingEdge
  split <;> simp

@[simp] theorem setProbeFault_ledger (a : ArmNo) (present : Bool) (s : State) :
    (setProbeFault a present s).ledger = s.ledger := by
  simp [setProbeFault]

@[simp] theorem recordArrival_ledger (a : ArmNo) (r : ReadingRecord) (s : State) :
    (recordArrival a r s).ledger = s.ledger := by
  simp [recordArrival]

@[simp] theorem recordTimerAt_ledger (a : ArmNo) (s : State) : (recordTimerAt a s).ledger = s.ledger := by
  simp [recordTimerAt]

/-! ### The events of arms, pumps and injectors -/

@[simp] theorem switchChanged_ledger (a : ArmNo) (s : State) : (switchChanged a s).ledger = s.ledger := by
  unfold switchChanged
  split
  · simp only [push_ledger]
    split <;> simp
  · rfl

@[simp] theorem travelAt_ledger (a : ArmNo) (s : State) : (travelAt a s).ledger = s.ledger := by
  simp [travelAt]

@[simp] theorem quietAt_ledger (a : ArmNo) (s : State) : (quietAt a s).ledger = s.ledger := by
  simp [quietAt]

@[simp] theorem noFlowAt_ledger (a : ArmNo) (s : State) : (noFlowAt a s).ledger = s.ledger := by
  simp [noFlowAt]

@[simp] theorem completionDue_ledger (a : ArmNo) (s : State) : (completionDue a s).ledger = s.ledger := by
  unfold completionDue
  split
  · simp
  · split <;> simp
  · rfl

@[simp] theorem startDelayReached_ledger (a : ArmNo) (s : State) : (startDelayReached a s).ledger = s.ledger := by
  unfold startDelayReached
  split <;> simp

@[simp] theorem stopDelayAt_ledger (p : PumpNo) (s : State) : (stopDelayAt p s).ledger = s.ledger := by
  simp [stopDelayAt]

@[simp] theorem additivePulse_ledger (i : InjNo) (s : State) : (additivePulse i s).ledger = s.ledger := by
  simp [additivePulse]

/-! ### The events and keys of a bay -/

@[simp] theorem permitChanged_ledger (b : BayNo) (k : PermitInput) (s : State) :
    (permitChanged b k s).ledger = s.ledger := by
  simp [permitChanged]

@[simp] theorem judgePress_ledger (b : BayNo) (s : State) : (judgePress b s).ledger = s.ledger := by
  unfold judgePress
  split <;> simp

@[simp] theorem windowOpensAt_ledger (b : BayNo) (s : State) : (windowOpensAt b s).ledger = s.ledger := rfl

@[simp] theorem deadmanLateAt_ledger (b : BayNo) (s : State) : (deadmanLateAt b s).ledger = s.ledger := by
  unfold deadmanLateAt
  split <;> simp

@[simp] theorem attentionAt_ledger (b : BayNo) (s : State) : (attentionAt b s).ledger = s.ledger := by
  simp [attentionAt]

@[simp] theorem abandonAt_ledger (b : BayNo) (s : State) : (abandonAt b s).ledger = s.ledger := by
  simp [abandonAt]

@[simp] theorem assign_ledger (a : ArmNo) (b : BayNo) (r : CompRec) (s : State) :
    (assign a b r s).ledger = s.ledger := by
  simp [assign]

@[simp] theorem enterLowStart_ledger (a : ArmNo) (s : State) : (enterLowStart a s).ledger = s.ledger := by
  simp [enterLowStart]

@[simp] theorem selectKey_ledger (b : BayNo) (c : CompNo) (a : ArmNo) (s : State) :
    (selectKey b c a s).ledger = s.ledger := by
  unfold selectKey
  split <;> simp

@[simp] theorem acceptStart_ledger (b : BayNo) (a : ArmNo) (oc : OnArm) (s : State) :
    (acceptStart b a oc s).ledger = s.ledger := by
  simp [acceptStart]

@[simp] theorem resumeKey_ledger (b : BayNo) (a : ArmNo) (s : State) : (resumeKey b a s).ledger = s.ledger := by
  unfold resumeKey
  split
  · simp
  · simp
  · split <;> simp

@[simp] theorem stopKey_ledger (b : BayNo) (a : ArmNo) (s : State) : (stopKey b a s).ledger = s.ledger := by
  simp [stopKey]

@[simp] theorem finishKey_ledger (b : BayNo) (a : ArmNo) (s : State) : (finishKey b a s).ledger = s.ledger := by
  simp only [finishKey, ite_ledger, sendShow_ledger]
  split
  · rfl
  · split
    · rfl
    · split <;> simp

@[simp] theorem endKeyAt_ledger (b : BayNo) (s : State) : (endKeyAt b s).ledger = s.ledger := by
  unfold endKeyAt
  split <;> simp

@[simp] theorem resetKeyAt_ledger (b : BayNo) (s : State) : (resetKeyAt b s).ledger = s.ledger := by
  simp [resetKeyAt]

/-! ### Setup control, the trip and the host line -/

@[simp] theorem modLine_ledger (f : HostLine → HostLine) (s : State) : (s.modLine f).ledger = s.ledger := rfl
@[simp] theorem setReceiver_ledger (r : Receiver) (s : State) : (setReceiver r s).ledger = s.ledger := rfl
@[simp] theorem sendReply_ledger (kind : Byte) (x : Answer) (s : State) : (sendReply kind x s).ledger = s.ledger := rfl
@[simp] theorem setupQuery_ledger (s : State) : (setupQuery s).ledger = s.ledger := rfl

@[simp] theorem rackResetAt_ledger (s : State) : (rackResetAt s).ledger = s.ledger := by
  simp [rackResetAt, tripClearInTripped]

@[simp] theorem enterSetup_ledger (s : State) : (enterSetup s).ledger = s.ledger := setMode_ledger .setup _

@[simp] theorem setupTimerAt_ledger (s : State) : (setupTimerAt s).ledger = s.ledger := by
  unfold setupTimerAt
  split
  · exact setMode_ledger .setupLocked _
  · rfl

@[simp] theorem decideSetupOpen_ledger (s : State) : (decideSetupOpen s).ledger = s.ledger := by
  unfold decideSetupOpen
  split
  · rfl
  · simp only [ite_ledger, sendReply_ledger, enterSetup_ledger, ite_self]
    rfl

@[simp] theorem linkTimeoutAt_ledger (s : State) : (linkTimeoutAt s).ledger = s.ledger := by
  simp [linkTimeoutAt]

@[simp] theorem discardFrame_ledger (bytes : List Byte) (s : State) : (discardFrame bytes s).ledger = s.ledger := by
  simp [discardFrame]

/-- What a changed ARM record makes its blocks take leaves the ledger (R165). -/
@[simp] theorem retakeArmRecord_ledger (wasUsed : Bool) (a : ArmNo) (s : State) :
    (retakeArmRecord wasUsed a s).ledger = s.ledger := by
  simp [retakeArmRecord, retakeArm, retakeTemp]

@[simp] theorem retakeInjRecord_ledger (wasUsed : Bool) (i : InjNo) (s : State) :
    (retakeInjRecord wasUsed i s).ledger = s.ledger := by
  simp [retakeInjRecord]

@[simp] theorem startWorking_ledger (s : State) : (startWorking s).ledger = s.ledger := by
  unfold startWorking
  split <;> rfl

@[simp] theorem putIntoService_ledger (s : State) : (putIntoService s).ledger = s.ledger := by
  have blocks : ((s.each allArms startArm).each allInjs startInj).ledger = s.ledger := by
    rw [each_ledger _ startInj allInjs fun _ _ => rfl, each_ledger _ startArm allArms fun _ _ => rfl]
  exact blocks

/-! ### The messages that leave the permit table -/

/-- The owner of a message leaves the ledger as it was. -/
def LeavesLedger (owner : State → State × Answer) : Prop := ∀ s, (owner s).1.ledger = s.ledger

@[simp] theorem answer_ledger (s : State) (r : ResultCode) : (s.answer r).1.ledger = s.ledger := rfl
@[simp] theorem okBytes_ledger (s : State) (l : List Byte) : (s.okBytes l).1.ledger = s.ledger := rfl

@[simp] theorem ite_owner_ledger (c : Prop) [Decidable c] (x y : State × Answer) :
    (if c then x else y).1.ledger = if c then x.1.ledger else y.1.ledger :=
  apply_ite (fun r : State × Answer => r.1.ledger) c x y

theorem noBody_leaves {owner : State → State × Answer} (leaves : LeavesLedger owner) (body : List Byte) :
    LeavesLedger (noBody body owner) := fun s => by
  simp [noBody, leaves s]

theorem unitStatus_leaves {n : Nat} (body : List Byte) (report : Fin n → State → ReplyBody) :
    LeavesLedger (unitStatus n body report) := fun s => by
  unfold unitStatus
  split
  · split <;> rfl
  · rfl

theorem setupOpenOwner_leaves : LeavesLedger setupOpenOwner := fun s => by
  unfold setupOpenOwner
  split <;> rfl

theorem configPutOwner_leaves (body : List Byte) : LeavesLedger (configPutOwner body) := fun s => by
  unfold configPutOwner
  split
  · rfl
  · split
    · split <;> rfl
    · rfl

theorem configReadOwner_leaves (body : List Byte) : LeavesLedger (configReadOwner body) := fun s => by
  simp only [configReadOwner, ite_owner_ledger, answer_ledger, okBytes_ledger, ite_self]
  split
  · rfl
  · split
    · rfl
    · split
      · rfl
      · split
        · rfl
        · split <;> rfl

theorem setupAbandonOwner_leaves : LeavesLedger setupAbandonOwner := fun s => by
  unfold setupAbandonOwner
  split
  · simp only [answer_ledger, examineTrips_ledger, setMode_ledger]
    rfl
  · rfl

theorem permitReadOwner_leaves (body : List Byte) : LeavesLedger (permitReadOwner body) := fun s => by
  unfold permitReadOwner
  split
  · split <;> rfl
  · rfl

theorem orderPutOwner_leaves (body : List Byte) : LeavesLedger (orderPutOwner body) := fun s => by
  unfold orderPutOwner
  split
  · rfl
  · split <;> rfl

theorem orderReply_ledger (s : State) (o : Option Order) : (orderReply s o).1.ledger = s.ledger := by
  cases o <;> rfl

theorem orderReadOwner_leaves (body : List Byte) : LeavesLedger (orderReadOwner body) := fun s => by
  simp only [orderReadOwner, ite_owner_ledger, answer_ledger, okBytes_ledger, orderReply_ledger, ite_self]
  split
  · rfl
  · split
    · split
      · exact orderReply_ledger ..
      · rfl
    · rfl

theorem orderCancelOwner_leaves (body : List Byte) : LeavesLedger (orderCancelOwner body) := fun s => by
  unfold orderCancelOwner
  split
  · split
    · rfl
    · split
      · rfl
      · split <;> rfl
  · rfl

theorem noteReadOwner_leaves (body : List Byte) : LeavesLedger (noteReadOwner body) := fun s => by
  unfold noteReadOwner
  split
  · rfl
  · split <;> rfl

theorem noteReleaseOwner_leaves (body : List Byte) : LeavesLedger (noteReleaseOwner body) := fun s => by
  unfold noteReleaseOwner
  split
  · rfl
  · split <;> rfl

theorem sessionEndOwner_leaves (body : List Byte) : LeavesLedger (sessionEndOwner body) := fun s => by
  unfold sessionEndOwner
  split <;> simp

theorem clearOwner_leaves (body : List Byte) : LeavesLedger (clearOwner body) := fun s => by
  unfold clearOwner
  split <;> simp

theorem tripRequestOwner_leaves : LeavesLedger tripRequestOwner := fun s => by
  unfold tripRequestOwner
  split <;> simp

theorem tripClearOwner_leaves : LeavesLedger tripClearOwner := fun s => by
  unfold tripClearOwner
  split <;> simp

end Sys2Proof.Machine
end

section
/-! The law of the permit table (O7) under every operation that changes the table or its retained copies: the permit table's
own operations (R87 to R95, R101 to R104), filing and completion, start-up, the loss of supply. -/

namespace Sys2Proof.Machine

/-! ### Lawful tables -/

theorem nil_lawful : TableLawful [] := ⟨List.nodup_nil, List.nodup_nil, Nat.zero_le _⟩

/-- A change of every entry that keeps numbers and tokens keeps the table lawful (R86). -/
theorem map_lawful {ps : List Permit} (f : Permit → Permit) (number : ∀ p, (f p).number = p.number)
    (token : ∀ p, (f p).token = p.token) (lawful : TableLawful ps) : TableLawful (ps.map f) := by
  have numbers : Permit.number ∘ f = Permit.number := funext number
  have tokens : Permit.token ∘ f = Permit.token := funext token
  unfold TableLawful at lawful ⊢
  rwa [List.map_map, List.map_map, List.length_map, numbers, tokens]

/-- A new entry with a number and a token that no entry has finds a lawful place where there is room (R87). -/
theorem append_lawful {ps : List Permit} {new : Permit} (lawful : TableLawful ps) (number : ∀ p ∈ ps, p.number ≠ new.number)
    (token : ∀ p ∈ ps, p.token ≠ new.token) (room : ps.length < Config.permitCapacity) : TableLawful (ps ++ [new]) := by
  obtain ⟨numbers, tokens, -⟩ := lawful
  refine ⟨?_, ?_, by simpa using room⟩
  · rw [List.map_append, List.map_singleton]
    exact numbers.append (List.nodup_singleton _) (by simpa using number)
  · rw [List.map_append, List.map_singleton]
    exact tokens.append (List.nodup_singleton _) (by simpa using token)

/-- An entry replaced under its own number by one whose token no other entry has keeps the table lawful (R87). -/
theorem replaced_lawful {ps : List Permit} {new : Permit} (lawful : TableLawful ps)
    (token : ∀ p ∈ ps, p.token = new.token → p.number = new.number) :
    TableLawful (modPermit ps new.number fun p => p.replacedBy new) := by
  obtain ⟨numbers, tokens, room⟩ := lawful
  have number (p : Permit) : (if p.number = new.number then p.replacedBy new else p).number = p.number := by
    split
    · next own => exact own.symm
    · rfl
  refine ⟨?_, ?_, by simpa [modPermit] using room⟩
  · rw [modPermit, List.map_map]
    exact (List.map_congr_left fun p _ => number p) ▸ numbers
  · rw [modPermit, List.map_map]
    simp only [List.Nodup, List.pairwise_map, Function.comp_apply] at numbers tokens ⊢
    refine (numbers.and tokens).imp_of_mem fun {p q} hp hq apart => ?_
    obtain ⟨numbers, tokens⟩ := apart
    split
    · next own =>
      split
      · next own' => exact absurd (own.trans own'.symm) numbers
      · next other => exact fun same => other (token q hq same.symm)
    · next other =>
      split
      · next own => exact fun same => other (token p hp same)
      · exact tokens

/-! ### The law carried over -/

/-- The law of the permit table and of its copies carries over from `s` to `t`. -/
structure LawCarry (s t : State) : Prop where
  lawful : PermitsLawful s → PermitsLawful t

namespace LawCarry

variable {s t u : State}

theorem refl (s : State) : LawCarry s s := ⟨id⟩

theorem trans (first : LawCarry s t) (second : LawCarry t u) : LawCarry s u := ⟨second.lawful ∘ first.lawful⟩

theorem of_ledger (same : t.ledger = s.ledger) : LawCarry s t := ⟨permitsLawful_of_ledger same⟩

/-- The table changes and stays lawful, its copies stand. -/
theorem of_permits {ps : List Permit} (frame : t.ledger = { s.ledger with permits := ps })
    (lawful : TableLawful s.permits → TableLawful ps) : LawCarry s t := by
  obtain ⟨permits, nv, undo⟩ := Ledger.mk.inj frame
  refine ⟨fun ⟨table, retained, writes⟩ => ⟨?_, ?_, ?_⟩⟩
  · rw [permits]
    exact lawful table
  · rw [nv]
    exact retained
  · rw [undo]
    exact writes

theorem foldl {α : Type} {f : State → α → State} (l : List α) (carry : ∀ s x, LawCarry s (f s x)) :
    ∀ s : State, LawCarry s (l.foldl f s) := by
  induction l with
  | nil => exact .refl
  | cons x l ih => exact fun s => (carry s x).trans (ih (f s x))

end LawCarry

/-- A retained write copies a lawful table, and what it overwrites was lawful (R86). -/
theorem lawCarry_write (s : State) : LawCarry s s.write := by
  refine ⟨fun ⟨table, retained, writes⟩ => ⟨table, fun ps copy => ?_, fun x hx => ?_⟩⟩
  · cases copy
    exact table
  · rcases List.mem_cons.1 hx with here | earlier
    · exact here ▸ retained
    · exact writes x earlier

/-- A command begins with no write to undo. -/
theorem lawCarry_fresh (s : State) : LawCarry s s.fresh :=
  ⟨fun ⟨table, retained, _⟩ => ⟨table, retained, fun _ none => nomatch none⟩⟩

/-! ### The permit table's operations (R93 to R104) -/

theorem lawCarry_modPermit (s : State) (n : Nat) {f : Permit → Permit} (number : ∀ p, (f p).number = p.number)
    (token : ∀ p, (f p).token = p.token) : LawCarry s { s with permits := modPermit s.permits n f } :=
  .of_permits rfl (modPermit_lawful s.permits n f number token)

theorem lawCarry_deletePermit (n : Nat) (s : State) : LawCarry s (deletePermit n s) :=
  .of_permits rfl (filter_lawful s.permits _)

theorem lawCarry_openRequest (n : Nat) (b : BayNo) (s : State) : LawCarry s (openRequest n b s).1 := by
  unfold openRequest
  split
  · exact .refl s
  · split
    · exact .refl s
    · split
      · exact .refl s
      · exact lawCarry_modPermit s n (fun _ => rfl) fun _ => rfl

theorem lawCarry_closeRequest (n : Nat) (b : BayNo) (s : State) : LawCarry s (closeRequest n b s).1 := by
  rcases closeRequest_cases n b s with ⟨-, same⟩ | ⟨-, -, -, same⟩ | ⟨-, -, -, -, deleted⟩ | ⟨-, -, -, -, closed⟩
  · rw [same]
    exact .refl s
  · rw [same]
    exact .refl s
  · rw [deleted]
    exact lawCarry_deletePermit n s
  · rw [closed]
    exact lawCarry_modPermit s n (fun _ => rfl) fun _ => rfl

theorem lawCarry_reserve (n preset : Nat) (s : State) : LawCarry s (reserve n preset s).1 := by
  unfold reserve
  split
  · exact .refl s
  · split
    · exact .refl s
    · split
      · exact .refl s
      · exact lawCarry_modPermit s n (fun _ => rfl) fun _ => rfl

theorem lawCarry_settle (n preset delivered : Nat) (s : State) : LawCarry s (settle n preset delivered s) :=
  lawCarry_modPermit s n (fun _ => rfl) fun _ => rfl

/-- The day's change zeroes figures, in the table or, before start-up has read it, in the copy of it (R104). -/
theorem lawCarry_dayRollover (s : State) : LawCarry s (dayRollover s) := by
  have zeroed {ps : List Permit} (lawful : TableLawful ps) : TableLawful (ps.map fun p => { p with used := 0 }) :=
    map_lawful _ (fun _ => rfl) (fun _ => rfl) lawful
  unfold dayRollover
  split
  · refine ⟨fun ⟨table, retained, writes⟩ => ⟨table, fun ps copy => ?_, fun x hx => ?_⟩⟩
    · obtain ⟨before, read, rfl⟩ := Option.map_eq_some_iff.1 copy
      exact zeroed (retained before read)
    · rcases List.mem_cons.1 hx with here | earlier
      · exact here ▸ retained
      · exact writes x earlier
  · exact .of_permits rfl zeroed

theorem takeOrder_ledger (n : Nat) (b : BayNo) (mask : BitVec 12) (s : State) :
    (takeOrder n b mask s).1.ledger = s.ledger := by
  unfold takeOrder
  split <;> rfl

/-! ### Bays -/

/-- The note of an ended session, still without its number (R150). -/
def endNote (b : BayNo) (x : Session) (s : State) : Note :=
  buildNote b x s.cfg.rack.rackId s.line.clock (x.endCause.getD .complete) false

/-- The stamp written, the note in the store, the order out of the book and the permit closed (R119). -/
def booksClosed (b : BayNo) (x : Session) (s : State) : State :=
  (closeRequest x.permit b (removeOrder x.order { s.write with notes := s.notes.file (endNote b x s) })).1

/-- The session filed, the bay VACANT and NOTE shown (R119). -/
def sessionFiled (b : BayNo) (x : Session) (s : State) : State :=
  ((booksClosed b x s).modBay b fun y => { y with session := none, awaited := [] }).sendShow b .note [s.notes.numberFor]

/-- A filing reports to the trip in its second stage alone (R119, R142). -/
theorem fileSession_eq (b : BayNo) (x : Session) (s : State) : fileSession b x s =
    if (sessionFiled b x s).mode = .tripping ∧ (sessionFiled b x s).trip.stageTwo = true then
      (sessionFiled b x s).push (.bayReport b)
    else sessionFiled b x s := by
  unfold fileSession sessionFiled booksClosed endNote
  cases x.endCause <;> rfl

theorem lawCarry_fileSession (b : BayNo) (x : Session) (s : State) : LawCarry s (fileSession b x s) := by
  have noted : LawCarry s.write (removeOrder x.order { s.write with notes := s.notes.file (endNote b x s) }) :=
    .of_ledger rfl
  have filed : LawCarry s (sessionFiled b x s) :=
    .trans ((lawCarry_write s).trans (noted.trans (lawCarry_closeRequest x.permit b _))) (.of_ledger rfl)
  refine filed.trans (.of_ledger ?_)
  rw [fileSession_eq]
  split <;> rfl

theorem lawCarry_filingTest (b : BayNo) (s : State) : LawCarry s (filingTest b s) := by
  unfold filingTest
  split
  · split
    · simp only
      split
      · exact lawCarry_fileSession ..
      · exact .of_ledger rfl
    · exact .refl s
  · exact .refl s

theorem lawCarry_completed (b : BayNo) (c : CompNo) (s : State) : LawCarry s (completed b c s) := by
  unfold completed
  split
  · next x r session found =>
    split
    · next y result =>
      have shown : LawCarry s (completionShown b c x r y s) :=
        .of_permits rfl (modPermit_lawful s.permits x.permit _ (fun _ => rfl) fun _ => rfl)
      refine shown.trans (.of_ledger ?_)
      simp only [ite_ledger, push_ledger, enterEnding_ledger, ite_self]
      rfl
    · exact .refl s
  · exact .refl s

theorem lawCarry_cardRequests (b : BayNo) (p : Permit) (s : State) : LawCarry s (cardRequests b p s) := by
  have opened := lawCarry_openRequest p.number b s
  unfold cardRequests
  split
  · next s1 granted =>
    have taken := takeOrder_ledger p.number b p.productMask s1
    rw [granted] at opened
    refine opened.trans ?_
    split
    · next s2 o found =>
      rw [found] at taken
      refine .trans (.of_ledger taken) ?_
      split
      · exact .of_ledger rfl
      · have returned : LawCarry s2 (returnOrder o.number s2) := .of_ledger rfl
        exact (returned.trans (lawCarry_closeRequest ..)).trans (.of_ledger (sendShow_ledger ..))
    · next s2 none =>
      rw [none] at taken
      exact .trans (.trans (.of_ledger taken) (lawCarry_closeRequest ..)) (.of_ledger (sendShow_ledger ..))
  · next s1 answer _ refused =>
    rw [refused] at opened
    exact opened.trans (.of_ledger (sendShow_ledger ..))

theorem lawCarry_cardAt (b : BayNo) (token : BitVec 64) (s : State) : LawCarry s (cardAt b token s) := by
  refine .trans (.of_ledger (activity_ledger b .card s)) ?_
  unfold cardAt
  simp only
  split
  · exact .of_ledger (sendShow_ledger ..)
  · split
    · exact .of_ledger (sendShow_ledger ..)
    · split
      · exact .of_ledger (sendShow_ledger ..)
      · exact lawCarry_cardRequests ..

theorem lawCarry_startKey (b : BayNo) (a : ArmNo) (s : State) : LawCarry s (startKey b a s) := by
  unfold startKey
  split
  · exact .of_ledger (sendShow_ledger ..)
  · exact .of_ledger (sendShow_ledger ..)
  · next oc _ _ =>
    have reserved := lawCarry_reserve (sessionPermit s b) oc.preset s
    split
    · next s1 granted =>
      rw [granted] at reserved
      exact reserved.trans (.of_ledger (acceptStart_ledger ..))
    · next s1 refused =>
      rw [refused] at reserved
      exact reserved.trans (.of_ledger (sendShow_ledger ..))
    · next s1 answer _ _ refused =>
      rw [refused] at reserved
      exact reserved.trans (.of_ledger (sendShow_ledger ..))

/-! ### The notices in flight -/

/-- Of the notices a completion and a filing alone change the permit table (R94, R103). -/
theorem lawCarry_take (n : Notice) (s : State) : LawCarry s (take n s) := by
  cases n with
  | armChanged a => exact .of_ledger (armChanged_ledger a s)
  | testArm a => exact .of_ledger (testArm_ledger a s)
  | stopArm a cause => exact .of_ledger (stopArm_ledger a cause s)
  | forceArm a => exact .of_ledger (forceArm_ledger a s)
  | finishArm a => exact .of_ledger (finishArm_ledger a s)
  | releaseArm a => exact .of_ledger (releaseArm_ledger a s)
  | redeliver a => exact .of_ledger (redeliver_ledger a s)
  | completed b c => exact lawCarry_completed b c s
  | condition i present => exact .of_ledger (condition_ledger i present s)
  | event i => exact .of_ledger (eventAt_ledger i s)
  | tripNotice b => exact .of_ledger (endSession_ledger b .trip s)
  | stageTwoNotice b => exact .of_ledger (stageTwoNotice_ledger b s)
  | tripInjector i => exact .of_ledger (tripInjector_ledger i s)
  | stageTwoInjector i => exact .of_ledger (stageTwoInjector_ledger i s)
  | bayReport b => exact .of_ledger (bayReport_ledger b s)
  | secondStage => exact .of_ledger (secondStage_ledger s)
  | filingTest b => exact lawCarry_filingTest b s
  | shotWritten b i => exact .of_ledger (shotWritten_ledger b i s)

theorem lawCarry_drain (fuel : Nat) (s : State) : LawCarry s (drain fuel s) := by
  induction fuel generalizing s with
  | zero => exact .refl s
  | succ fuel ih =>
    unfold drain
    split
    · exact .refl s
    · next n rest _ =>
      have taken : LawCarry s { s with inbox := rest } := .of_ledger rfl
      exact (taken.trans (lawCarry_take n _)).trans (ih _)

theorem lawCarry_settleCommand (s : State) : LawCarry s (settleCommand s) := (lawCarry_drain _ s).trans (lawCarry_write _)

/-! ### Supply and start-up (R168 to R170) -/

/-- What a loss of supply leaves in retained memory stood there before or at one of the writes undone (R33, R86). -/
theorem rollBack_mem (lost : Nat) (nv : Retained) (undo : List Retained) : rollBack lost nv undo ∈ nv :: undo := by
  induction lost generalizing nv undo with
  | zero => exact List.mem_cons_self
  | succ lost ih =>
    cases undo with
    | nil => exact List.mem_cons_self
    | cons before rest => exact List.mem_cons_of_mem _ (ih before rest)

theorem lawCarry_losePower (lost : Nat) (s : State) : LawCarry s (losePower lost s) := by
  refine ⟨fun ⟨_, retained, writes⟩ => ⟨nil_lawful, ?_, fun _ none => nomatch none⟩⟩
  rcases List.mem_cons.1 (rollBack_mem lost s.nv s.undo) with now | before
  · show (rollBack lost s.nv s.undo).PermitsLawful
    rw [now]
    exact retained
  · exact writes _ before

theorem lawCarry_beginStartUp (cause : StartCause) (s : State) : LawCarry s (beginStartUp cause s) :=
  ⟨fun ⟨_, retained, _⟩ => ⟨nil_lawful, retained, fun _ none => nomatch none⟩⟩

/-- A copy lost is a copy that start-up does not read (R168 step 2). -/
theorem lose_permitsLawful {x : Retained} (c : RetainedCopy) (lawful : x.PermitsLawful) : (x.lose c).PermitsLawful := by
  cases c with
  | permits => exact fun _ none => nomatch none
  | _ => exact lawful

theorem lawCarry_lose (damaged : List RetainedCopy) (s : State) :
    LawCarry s { s with nv := damaged.foldl Retained.lose s.nv } := by
  have lost (x : Retained) (lawful : x.PermitsLawful) : (damaged.foldl Retained.lose x).PermitsLawful := by
    induction damaged generalizing x with
    | nil => exact lawful
    | cons c rest ih => exact ih _ (lose_permitsLawful c lawful)
  exact ⟨fun ⟨table, retained, writes⟩ => ⟨table, lost s.nv retained, writes⟩⟩

/-- The table start-up reads is its retained copy, or empty (R86, R168 step 2). -/
theorem lawCarry_readRetained (s : State) : LawCarry s (readRetained s) := by
  refine ⟨fun ⟨_, retained, writes⟩ => ⟨?_, retained, writes⟩⟩
  show TableLawful (s.nv.permits.getD [])
  cases copy : s.nv.permits with
  | none => exact nil_lawful
  | some ps => exact retained ps copy

theorem lawCarry_closeRetainedComp (b : BayNo) (permit : Nat) (s : State) (r : CompRec) :
    LawCarry s (closeRetainedComp b permit s r) := by
  unfold closeRetainedComp
  split
  · split
    · exact .trans (.of_ledger (modComp_ledger ..)) (lawCarry_settle ..)
    · exact .of_ledger rfl
  · exact .of_ledger rfl
  · exact .refl s

theorem lawCarry_closeRetained (cause : StartCause) (s : State) (b : BayNo) : LawCarry s (closeRetained cause s b) := by
  unfold closeRetained
  split
  · exact .refl s
  · next x _ =>
    refine .trans (.trans ?_ (.of_ledger (modBay_ledger ..))) (lawCarry_write _)
    refine .trans (.trans (.foldl x.comps (lawCarry_closeRetainedComp b x.permit) s) ?_) (lawCarry_closeRequest ..)
    exact .of_ledger rfl

/-- The clean-up takes entries out and clears figures (R168 step 4). -/
theorem lawCarry_cleanPermits (s : State) : LawCarry s (cleanPermits s) :=
  .of_permits rfl fun lawful => map_lawful _ (fun _ => rfl) (fun _ => rfl) (filter_lawful s.permits _ lawful)

theorem lawCarry_runStartUp (cause : StartCause) (damaged : List RetainedCopy) (s : State) :
    LawCarry s (runStartUp cause damaged s) := by
  unfold runStartUp
  refine .trans (.trans ?_ (.of_ledger (setMode_ledger ..))) (lawCarry_settleCommand _)
  refine .trans (.trans ?_ (.of_ledger (putIntoService_ledger _))) (.of_ledger (startWorking_ledger _))
  refine .trans (.trans ?_ (.foldl allBays (lawCarry_closeRetained cause) _)) (lawCarry_cleanPermits _)
  exact (lawCarry_lose damaged s).trans (lawCarry_readRetained _)

/-! ### Setup control and the clock -/

/-- The commit: its early expiries and the blocks told leave the table, and the notices they sent are taken (R165). -/
theorem lawCarry_commit (c : Configuration) (digest : BitVec 16) (s : State) : LawCarry s (commit c digest s) := by
  unfold commit
  refine .trans (.trans ?_ (lawCarry_drain ..)) (.of_ledger (by rw [examineTrips_ledger, setMode_ledger]))
  refine .of_ledger ?_
  rw [each_ledger _ _ _ fun t i => retakeInjRecord_ledger _ i t, each_ledger _ _ _ fun t a => retakeArmRecord_ledger _ a t]
  exact each_ledger s _ _ fun t a => interval_ledger s.cfg a t

theorem lawCarry_secondPasses (s : State) : LawCarry s (secondPasses s) := by
  unfold secondPasses
  split
  · exact .refl s
  · simp only
    split
    · exact .of_ledger rfl
    · exact .trans (.of_ledger (modLine_ledger ..)) (lawCarry_dayRollover _)

theorem lawCarry_setClock (t : Stamp) (s : State) : LawCarry s (setClock t s) := by
  unfold setClock
  simp only
  split
  · split
    · exact .of_ledger rfl
    · exact .trans (.of_ledger (modLine_ledger ..)) (lawCarry_dayRollover _)
  · exact .of_ledger rfl

end Sys2Proof.Machine
end

section
/-! Every command and every tick keeps the law of the permit table (O7). -/

namespace Sys2Proof.Machine

/-! ### The frames that commands run in -/

/-- An operation that keeps the law of the permit table. -/
def KeepsLaw (f : State → State) : Prop := ∀ s, LawCarry s (f s)

theorem keepsLaw_of_ledger {f : State → State} (same : ∀ s, (f s).ledger = s.ledger) : KeepsLaw f :=
  fun s => .of_ledger (same s)

/-- Whatever state the outcome goes on in, the law has carried over to it. -/
def LawNext (s : State) (x : Host.Outcome State Fault Refusal) : Prop := ∀ t, x = .next t → LawCarry s t

theorem lawNext_next {s t : State} (carry : LawCarry s t) : LawNext s (.next t) := by
  intro u same
  cases same
  exact carry

section Frames

variable {f : State → State} (keeps : KeepsLaw f)
include keeps

theorem KeepsLaw.comp {g : State → State} (first : ∀ s, (g s).ledger = s.ledger) : KeepsLaw fun s => f (g s) :=
  fun s => .trans (.of_ledger (first s)) (keeps (g s))

/-- A command begins with no write to undo. -/
theorem KeepsLaw.afresh : KeepsLaw fun s => f s.fresh := fun s => (lawCarry_fresh s).trans (keeps s.fresh)

theorem KeepsLaw.settled : KeepsLaw fun s => settleCommand (f s) := fun s => (keeps s).trans (lawCarry_settleCommand _)

theorem inService_law (s : State) : LawNext s (inService f s) := by
  refine lawNext_next ?_
  split
  · exact keeps.settled.afresh s
  · exact lawCarry_fresh s

theorem onPin_law {level : State → State} (pins : ∀ t, (level t).ledger = t.ledger) (s : State) :
    LawNext s (onPin level f s) := by
  refine lawNext_next ?_
  split
  · exact (keeps.settled.comp pins).afresh s
  · exact (keepsLaw_of_ledger pins).afresh s

theorem onReceiver_law (s : State) : LawNext s (.next (onReceiver f s)) := by
  refine lawNext_next ?_
  unfold onReceiver
  split
  · exact .refl s
  · exact keeps.afresh s

theorem receiveFrame_law (s : State) : LawNext s (.next (receiveFrame f s)) := by
  have hunting : LawCarry s (setReceiver .hunt s.fresh) := (lawCarry_fresh s).trans (.of_ledger rfl)
  have linked : LawCarry s (linkUp (setReceiver .hunt s.fresh)) := hunting.trans (.of_ledger rfl)
  refine lawNext_next ?_
  unfold receiveFrame
  split
  · exact .refl s
  · split
    · exact lawCarry_fresh s
    · split
      · exact hunting
      · exact hunting.trans (keeps _)
  · split
    · exact lawCarry_fresh s
    · split
      · exact hunting
      · exact linked.trans (keeps.settled _)

/-- A key record is an activity event before it is judged (R122). -/
theorem withKey_law (b : BayNo) : KeepsLaw (withKey b f) := keeps.comp (activity_ledger b .key)

end Frames

/-! ### Requests of the host line -/

section Requests

variable {owner : State → State × Answer} (keeps : KeepsLaw fun s => (owner s).1)
include keeps

theorem addressed_law (kind : Byte) : KeepsLaw (addressed kind owner) := by
  intro s
  unfold addressed
  simp only
  split
  · exact (keeps s).trans (.of_ledger (sendReply_ledger ..))
  · exact .of_ledger rfl

theorem allCall_law (kind : Byte) : KeepsLaw (allCall kind owner) := by
  intro s
  unfold allCall
  split
  · split
    · next t _ answered =>
      have kept := keeps s
      simp only [answered] at kept
      exact kept
    · exact .refl s
  · exact .refl s

theorem request_law (kind : Byte) (s : State) : LawNext s (request kind owner s) :=
  receiveFrame_law (addressed_law keeps kind) s

theorem requestTo_law (dest : Dest) (kind : Byte) (s : State) : LawNext s (requestTo dest kind owner s) := by
  cases dest
  · exact request_law keeps kind s
  · exact receiveFrame_law (allCall_law keeps kind) s

end Requests

/-- The owner of a message that leaves the ledger keeps the law. -/
theorem LeavesLedger.keepsLaw {owner : State → State × Answer} (leaves : LeavesLedger owner) :
    KeepsLaw fun s => (owner s).1 := keepsLaw_of_ledger leaves

/-! ### The messages to the permit table (R87 to R91) and the clock (R104) -/

theorem permitPutRefusal_none {ps : List Permit} {new : Permit} (accepted : permitPutRefusal ps new = none) :
    (∀ p ∈ ps, p.token = new.token → p.number = new.number)
      ∧ (findPermit ps new.number = none → ps.length < Config.permitCapacity) := by
  unfold permitPutRefusal at accepted
  simp only at accepted
  split at accepted
  · exact nomatch accepted
  · split at accepted
    · exact nomatch accepted
    · next single =>
      split at accepted
      · exact nomatch accepted
      · next room =>
        refine ⟨fun p hp token => ?_, fun absent => Nat.lt_of_not_le fun full => room ⟨by rw [absent]; rfl, full⟩⟩
        by_contra other
        exact single (List.any_eq_true.2 ⟨p, hp, by simp [token, other]⟩)

/-- An accepted PERMIT PUT brings in no double number and no double token, and no entry beyond the capacity (R87). -/
theorem lawCarry_permitPutOwner (body : List Byte) (s : State) : LawCarry s (permitPutOwner body s).1 := by
  unfold permitPutOwner
  split
  · exact .refl s
  · next new _ =>
    split
    · exact .refl s
    · next accepted =>
      obtain ⟨token, room⟩ := permitPutRefusal_none accepted
      split
      · exact .of_permits rfl fun lawful => replaced_lawful lawful token
      · next absent =>
        have number (p : Permit) (hp : p ∈ s.permits) : p.number ≠ new.number := fun same =>
          absurd (decide_eq_true same) (List.find?_eq_none.1 absent p hp)
        exact .of_permits rfl fun lawful =>
          append_lawful lawful number (fun p hp same => number p hp (token p hp same)) (room absent)

theorem namedPermit_law {owner : Nat → State → State × Answer} (keeps : ∀ n, KeepsLaw fun s => (owner n s).1)
    (body : List Byte) : KeepsLaw fun s => (namedPermit body owner s).1 := by
  intro s
  unfold namedPermit
  simp only
  split
  · exact keeps _ s
  · exact .refl s

theorem lawCarry_setPermitState (next : PermitState) (n : Nat) (s : State) :
    LawCarry s (setPermitState next n s).1 := by
  unfold setPermitState
  split
  · exact .refl s
  · split
    · exact .refl s
    · exact lawCarry_modPermit s n (fun _ => rfl) fun _ => rfl

theorem lawCarry_permitRemoveOwner (n : Nat) (s : State) : LawCarry s (permitRemoveOwner n s).1 := by
  unfold permitRemoveOwner
  split
  · exact .refl s
  · split
    · exact lawCarry_deletePermit n s
    · exact lawCarry_modPermit s n (fun _ => rfl) fun _ => rfl

theorem lawCarry_quotaSetOwner (body : List Byte) (s : State) : LawCarry s (quotaSetOwner body s).1 := by
  unfold quotaSetOwner
  split
  · split
    · exact .refl s
    · split
      · exact .refl s
      · exact lawCarry_modPermit s _ (fun _ => rfl) fun _ => rfl
  · exact .refl s

theorem lawCarry_clockSetOwner (body : List Byte) (s : State) : LawCarry s (clockSetOwner body s).1 := by
  unfold clockSetOwner
  split
  · exact lawCarry_setClock _ s
  · exact .refl s

theorem lawCarry_setupCloseOwner (body : List Byte) (s : State) : LawCarry s (setupCloseOwner body s).1 := by
  unfold setupCloseOwner
  split
  · exact .refl s
  · split
    · split
      · exact .refl s
      · split
        · exact (lawCarry_commit _ _ s).trans (.of_ledger (answer_ledger ..))
        · exact .refl s
    · exact .refl s

theorem setupOpenFrame_law (body : List Byte) : KeepsLaw fun s =>
    if s.mode = .run ∧ body = [] then setupQuery s else addressed 0x20 (noBody body setupOpenOwner) s := by
  intro s
  simp only
  split
  · exact .of_ledger (setupQuery_ledger s)
  · exact addressed_law (noBody_leaves setupOpenOwner_leaves body).keepsLaw 0x20 s

theorem lawCarry_replyGone (s : State) : LawCarry s (replyGone s) := by
  unfold replyGone
  split
  · split
    · exact lawCarry_beginStartUp .restart s
    · exact .of_ledger rfl
  · exact .refl s

/-! ### Commands -/

/-- A command in service whose operation leaves the ledger. -/
theorem inService_still {f : State → State} (same : ∀ s, (f s).ledger = s.ledger) (s : State) :
    LawNext s (inService f s) := inService_law (keepsLaw_of_ledger same) s

/-- A command on a pin whose operation leaves the ledger. -/
theorem onPin_still {level f : State → State} (pins : ∀ t, (level t).ledger = t.ledger)
    (same : ∀ s, (f s).ledger = s.ledger) (s : State) : LawNext s (onPin level f s) :=
  onPin_law (keepsLaw_of_ledger same) pins s

/-- A key whose operation leaves the ledger. -/
theorem key_still {f : State → State} (b : BayNo) (same : ∀ s, (f s).ledger = s.ledger) (s : State) :
    LawNext s (inService (withKey b f) s) := inService_law (withKey_law (keepsLaw_of_ledger same) b) s

/-- A message whose owner leaves the ledger. -/
theorem request_still {owner : State → State × Answer} (leaves : LeavesLedger owner) (kind : Byte) (s : State) :
    LawNext s (request kind owner s) := request_law leaves.keepsLaw kind s

/-- A byte or a pause on the line that moves the receiver alone (R172). -/
theorem onReceiver_still {f : State → State} (same : ∀ s, (f s).ledger = s.ledger) (s : State) :
    LawNext s (.next (onReceiver f s)) := onReceiver_law (keepsLaw_of_ledger same) s

theorem exec_law (c : Instr) (s : State) : LawNext s (exec c s) := by
  cases c with
  | powerUp => exact lawNext_next (lawCarry_beginStartUp .power s)
  | startUp damaged =>
    refine lawNext_next ?_
    split
    · exact KeepsLaw.afresh (lawCarry_runStartUp _ damaged) s
    · exact lawCarry_fresh s
  | acceptedRisingEdge arm channel =>
    exact inService_still (fun t => (risingEdge_ledger arm channel _).trans (setPulsePin_ledger _ _ t)) s
  | acceptedFallingEdge pin =>
    exact inService_still (fun t => (fallingEdge_ledger pin _).trans (setPulsePin_ledger _ _ t)) s
  | pulsePinChange pin level => exact onPin_still (setPulsePin_ledger pin level) (followPin_ledger pin level) s
  | readingRecord arm record =>
    cases record with
    | none => exact inService_still (fun _ => rfl) s
    | some r => exact inService_still (recordArrival_ledger arm r) s
  | recordTimerExpiry arm => exact inService_still (recordTimerAt_ledger arm) s
  | intervalExpiry arm =>
    show LawNext s (inService (fun t => interval t.cfg arm t) s)
    exact inService_still (fun t => interval_ledger t.cfg arm t) s
  | valveSwitchChange arm switch level =>
    exact onPin_still (setSwitch_ledger arm switch level) (switchChanged_ledger arm) s
  | travelAllowanceExpiry arm => exact inService_still (travelAt_ledger arm) s
  | quietTimerExpiry arm => exact inService_still (quietAt_ledger arm) s
  | closingLimitExpiry arm => exact inService_still (closingLimitAt_ledger arm) s
  | noFlowTimerExpiry arm => exact inService_still (noFlowAt_ledger arm) s
  | compartmentCompletion arm => exact inService_still (completionDue_ledger arm) s
  | pumpStartDelayReached arm => exact inService_still (startDelayReached_ledger arm) s
  | stopDelayExpiry pump => exact inService_still (stopDelayAt_ledger pump) s
  | additivePulse inj =>
    show LawNext s (inService (fun t => additivePulse inj (additivePinHigh inj t)) s)
    exact inService_still (fun t => (additivePulse_ledger inj _).trans (additivePinHigh_ledger inj t)) s
  | shotTimeLimit inj => exact inService_still (endShot_ledger inj .shortfall) s
  | settleTimeExpiry inj => exact inService_still (finishShot_ledger inj) s
  | bayPermitChange bay permit level =>
    refine onPin_still (setPermitPin_ledger bay permit level) (fun u => ?_) s
    split
    · rfl
    · exact permitChanged_ledger bay permit u
  | deadmanPress bay held =>
    exact onPin_still (setDeadmanPin_ledger bay held) (fun t => (judgePress_ledger bay _).trans (activity_ledger bay .deadman t)) s
  | deadmanWindowOpens bay => exact inService_still (windowOpensAt_ledger bay) s
  | deadmanLate bay => exact inService_still (deadmanLateAt_ledger bay) s
  | attentionTimerExpiry bay => exact inService_still (attentionAt_ledger bay) s
  | abandonTimerExpiry bay => exact inService_still (abandonAt_ledger bay) s
  | noteFiling bay => exact inService_law (lawCarry_filingTest bay) s
  | card bay token => exact inService_law (lawCarry_cardAt bay token) s
  | select bay comp arm => exact key_still bay (selectKey_ledger bay comp arm) s
  | start bay arm => exact inService_law (withKey_law (lawCarry_startKey bay arm) bay) s
  | resume bay arm => exact key_still bay (resumeKey_ledger bay arm) s
  | stop bay arm => exact key_still bay (stopKey_ledger bay arm) s
  | finish bay arm => exact key_still bay (finishKey_ledger bay arm) s
  | endKey bay => exact key_still bay (endKeyAt_ledger bay) s
  | resetKey bay => exact key_still bay (resetKeyAt_ledger bay) s
  | malformedRecord bay bytes => exact lawNext_next (lawCarry_fresh s)
  | estopInputChange level => exact onPin_still (setEstopPin_ledger level) (fun t => push_ledger t (.condition .estop (!level))) s
  | rackReset held => exact onPin_still (setResetPin_ledger held) rackResetAt_ledger s
  | filterTimerExpiry inst => exact inService_still (filterExpiry_ledger inst) s
  | tripDelayExpiry => exact inService_still secondStage_ledger s
  | setupTimerExpiry => exact inService_still setupTimerAt_ledger s
  | setupOpenDecision => exact inService_still decideSetupOpen_ledger s
  | linkTimeout => exact inService_still linkTimeoutAt_ledger s
  | clockSecond =>
    refine lawNext_next ?_
    split
    · exact .refl s
    · exact KeepsLaw.afresh lawCarry_secondPasses s
    · exact (KeepsLaw.settled lawCarry_secondPasses).afresh s
  | interByteGap => exact onReceiver_still (fun t => by simp only [ite_ledger, setReceiver_ledger, ite_self]) s
  | lineIdle => exact onReceiver_still (fun t => by simp only [ite_ledger, setReceiver_ledger, ite_self]) s
  | frameDiscarded bytes => exact onReceiver_still (discardFrame_ledger bytes) s
  | replyComplete => exact onReceiver_law lawCarry_replyGone s
  | unknownKind kind body =>
    simp only [exec, execUnknownKind]
    split
    · exact onReceiver_still (fun t => by simp only [ite_ledger, setReceiver_ledger, ite_self]) s
    · exact receiveFrame_law (keepsLaw_of_ledger (sendReply_ledger kind _)) s
  | rackStatus body => exact request_still (noBody_leaves (fun _ => rfl) body) _ s
  | bayStatus body => exact request_still (unitStatus_leaves body _) _ s
  | armStatus body => exact request_still (unitStatus_leaves body _) _ s
  | injectorStatus body => exact request_still (unitStatus_leaves body _) _ s
  | supervisionList body => exact request_still (noBody_leaves (fun _ => rfl) body) _ s
  | totaliserRead body => exact request_still (noBody_leaves (fun _ => rfl) body) _ s
  | clockSet dest body => exact requestTo_law (lawCarry_clockSetOwner body) dest _ s
  | setupOpen body => exact receiveFrame_law (setupOpenFrame_law body) s
  | configPut body => exact request_still (configPutOwner_leaves body) _ s
  | configRead body => exact request_still (configReadOwner_leaves body) _ s
  | setupClose body => exact request_law (lawCarry_setupCloseOwner body) _ s
  | setupAbandon body => exact request_still (noBody_leaves setupAbandonOwner_leaves body) _ s
  | permitPut body => exact request_law (lawCarry_permitPutOwner body) _ s
  | permitRead body => exact request_still (permitReadOwner_leaves body) _ s
  | permitSuspend body => exact request_law (namedPermit_law (lawCarry_setPermitState .suspended) body) _ s
  | permitReinstate body => exact request_law (namedPermit_law (lawCarry_setPermitState .active) body) _ s
  | permitRemove body => exact request_law (namedPermit_law lawCarry_permitRemoveOwner body) _ s
  | quotaSet body => exact request_law (lawCarry_quotaSetOwner body) _ s
  | orderPut body => exact request_still (orderPutOwner_leaves body) _ s
  | orderRead body => exact request_still (orderReadOwner_leaves body) _ s
  | orderCancel body => exact request_still (orderCancelOwner_leaves body) _ s
  | sessionEnd body => exact request_still (sessionEndOwner_leaves body) _ s
  | noteIndex body => exact request_still (noBody_leaves (fun _ => rfl) body) _ s
  | noteRead body => exact request_still (noteReadOwner_leaves body) _ s
  | noteRelease body => exact request_still (noteReleaseOwner_leaves body) _ s
  | supervisionClear body => exact request_still (clearOwner_leaves body) _ s
  | tripRequest dest body => exact requestTo_law (noBody_leaves tripRequestOwner_leaves body).keepsLaw dest _ s
  | tripClear body => exact request_still (noBody_leaves tripClearOwner_leaves body) _ s
  | restart body => exact request_still (noBody_leaves (fun _ => rfl) body) _ s
  | powerLoss lost => exact lawNext_next (lawCarry_losePower lost s)
  | startByte => exact onReceiver_still (fun t => by simp only [ite_ledger, setReceiver_ledger, ite_self]) s
  | lengthAbove1024 => exact onReceiver_still (fun t => by simp only [ite_ledger, setReceiver_ledger, ite_self]) s

/-! ### The tick -/

/-- The writes of two commands of one tick, both undone by a loss of supply, lead back to lawful copies. -/
theorem lawCarry_keepEarlier {s t : State} (ran : LawCarry s t) : LawCarry s (keepEarlier s t) := by
  refine ⟨fun lawful => ?_⟩
  obtain ⟨table, retained, writes⟩ := ran.lawful lawful
  obtain ⟨-, -, earlier⟩ := lawful
  exact ⟨table, retained, fun x hx => (List.mem_append.1 hx).elim (writes x) (earlier x)⟩

theorem performDue_law (l : List Instr) (s : State) : LawNext s (performDue exec l s) := by
  induction l generalizing s with
  | nil => exact lawNext_next (.refl s)
  | cons c rest ih =>
    intro t performed
    unfold performDue at performed
    split at performed
    · split at performed
      · next u ran => exact (lawCarry_keepEarlier (exec_law c s u ran)).trans (ih _ t performed)
      · exact nomatch performed
      · exact nomatch performed
    · exact ih s t performed

theorem tick_law (s : State) : LawNext s (tick exec s) := by
  unfold tick
  split
  · intro t performed
    have advanced : LawCarry s (advance s.fresh) := (lawCarry_fresh s).trans (.of_ledger rfl)
    exact advanced.trans (performDue_law _ _ t performed)
  · exact exec_law (.startUp []) s
  · exact lawNext_next (.refl s)

/-- Settles O7: a step is a command of the queue or a tick; a new entry comes by PERMIT PUT alone, which asks for a free
number, a free token and room, and a copy of the table is written or undone as a whole. -/
theorem permitTableStaysLawful : Obligations.PermitTableStaysLawful := by
  intro s t lawful stepped
  unfold step at stepped
  split at stepped
  · exact (tick_law s t stepped).lawful lawful
  · next c rest _ =>
    have queued : LawCarry s { s with pending := rest } := .of_ledger rfl
    exact (queued.trans (exec_law c _ t stepped)).lawful lawful

end Sys2Proof.Machine
end

section
/-! RESUME (O40): its refusals in the order of R112, the state check of the permit (R102), and the halted arm's entry into
LOW_START with nothing reserved (R114). -/

namespace Sys2Proof.Machine

/-! ### The state check (R102) -/

section Check

variable {s : State} {n : Nat} {p : Permit} (found : findPermit s.permits n = some p)
include found

theorem stateCheck_active (state : p.state = .active) : stateCheck n s = .ok := by
  simp only [stateCheck, found, if_pos state]

theorem stateCheck_suspended (state : p.state = .suspended ∨ p.state = .retiring) :
    stateCheck n s = .permitSuspended := by
  have inactive : p.state ≠ .active := by
    rcases state with h | h <;> rw [h] <;> decide
  simp only [stateCheck, found, if_neg inactive]

end Check

/-! ### The key -/

theorem exec_resume {s : State} (ready : Ready s) (b : BayNo) (a : ArmNo) :
    exec (.resume b a) s = .next (settleCommand (resumeKey b a (keyed b s))) :=
  inService_ready (withKey b (resumeKey b a)) s ready

theorem resumeKey_refused {s : State} {b : BayNo} {a : ArmNo} {p : Prompt} {numbers : List Nat}
    (refused : flowRefusal s b a .held = some (p, numbers)) : resumeKey b a s = s.sendShow b p numbers := by
  simp only [resumeKey, refused]

/-- The state in which the arm takes an accepted RESUME: the key counted and RESUMED shown. -/
def resumeShown (b : BayNo) (a : ArmNo) (oc : OnArm) (s : State) : State :=
  keyShown b .resumed [unitNo a, unitNo oc.comp] s

section Asked

variable {s : State} {b : BayNo} {a : ArmNo} {oc : OnArm} {p : Permit} (ready : Ready s)
  (passes : FlowChecksPass s b a .held) (onArm : s.arms[a].comp = some oc)
  (found : findPermit s.permits (sessionPermit s b) = some p)
include ready passes onArm found

/-- The checks pass and the permit is ACTIVE: the arm takes the key. -/
theorem exec_resume_accepted (state : p.state = .active) :
    exec (.resume b a) s = .next (settleCommand (enterLowStart a (resumeShown b a oc s))) := by
  have passes : flowRefusal (keyed b s) b a .held = none :=
    (flowRefusal_keyed b a .held s).trans (flowRefusal_none passes)
  rw [← keyed_permits b, ← sessionPermit_keyed] at found
  rw [← keyed_arms b] at onArm
  rw [exec_resume ready]
  simp only [resumeKey, passes, onArm, stateCheck_active found state]
  rfl

/-- The checks pass and the permit is SUSPENDED or RETIRING: the key is refused (R102). -/
theorem exec_resume_suspended (state : p.state = .suspended ∨ p.state = .retiring) :
    exec (.resume b a) s = .next (settleCommand (keyShown b .permitSuspended [] s)) := by
  have passes : flowRefusal (keyed b s) b a .held = none :=
    (flowRefusal_keyed b a .held s).trans (flowRefusal_none passes)
  rw [← keyed_permits b, ← sessionPermit_keyed] at found
  rw [← keyed_arms b] at onArm
  rw [exec_resume ready]
  simp only [resumeKey, passes, onArm, stateCheck_suspended found state]
  rfl

end Asked

/-! ### O40 -/

/-- An accepted RESUME changes the pulse inputs, meters, arms, pumps, bays and notices alone. -/
theorem resumeEntered_frame (b : BayNo) (a : ArmNo) (oc : OnArm) (s : State) :
    enterLowStart a (resumeShown b a oc s)
      = flowFrom { s.fresh with bays := (enterLowStart a (resumeShown b a oc s)).bays }
          (enterLowStart a (resumeShown b a oc s)) := by
  obtain ⟨bays, -⟩ := enterLowStart_rest a (resumeShown b a oc s)
  rw [bays]
  calc enterLowStart a (resumeShown b a oc s)
    _ = flowFrom (resumeShown b a oc s) (enterLowStart a (resumeShown b a oc s)) := enterLowStart_frame a _
    _ = _ := congrArg (flowFrom · (enterLowStart a (resumeShown b a oc s)))
      (keyShown_frame b .resumed [unitNo a, unitNo oc.comp] s)

/-- The arm that takes an accepted RESUME, part by part. -/
theorem resume_accepted {s : State} {b : BayNo} {a : ArmNo} {oc : OnArm} {p : Permit} (ready : Ready s)
    (passes : FlowChecksPass s b a .held) (onArm : s.arms[a].comp = some oc)
    (found : findPermit s.permits (sessionPermit s b) = some p) (state : p.state = .active) :
    ∃ u, exec (.resume b a) s = .next (settleCommand u)
      ∧ u.arms[a].state = .lowStart ∧ u.arms[a].comp = some oc ∧ u.arms[a].lastStop = .none
      ∧ u.meters[a].leak = 0 ∧ u.bays[b].lastPrompt = some ⟨.resumed, [unitNo a, unitNo oc.comp]⟩
      ∧ .redeliver a ∈ u.inbox
      ∧ OtherArmsSame a s u ∧ OtherBaysSame b s u ∧ SessionsSame s u
      ∧ u = { s.fresh with
          pulses := u.pulses, meters := u.meters, arms := u.arms, pumps := u.pumps, bays := u.bays
          inbox := u.inbox } := by
  have taken := exec_resume_accepted ready passes onArm found state
  obtain ⟨_, mine, _, mode, _⟩ := passes
  have shown : resumeShown b a oc s = { s.fresh with bays := (resumeShown b a oc s).bays } := keyShown_frame ..
  have modeV : (resumeShown b a oc s).mode = .run := by
    rw [shown]
    exact mode
  have setup : (resumeShown b a oc s).setup = s.setup := by
    rw [shown]
    rfl
  have used : ((resumeShown b a oc s).armCfg a).used = true := by
    rw [armCfg_of_setup setup a, ArmCfg.used, mine, Option.isSome_some]
  have arms : (resumeShown b a oc s).arms = s.arms := keyShown_arms ..
  obtain ⟨lowStart, comp, stop⟩ := enterLowStart_arm modeV used
  have others := enterLowStart_others a (resumeShown b a oc s)
  obtain ⟨bays, -⟩ := enterLowStart_rest a (resumeShown b a oc s)
  simp only [OtherArmsSame, arms, onArm] at comp others
  have leak := enterLowStart_leak a (resumeShown b a oc s)
  have redelivered := enterLowStart_redeliver a (resumeShown b a oc s)
  have frame := resumeEntered_frame b a oc s
  generalize enterLowStart a (resumeShown b a oc s) = u at *
  refine ⟨u, taken, lowStart, comp, stop, leak, ?_, redelivered, others, ?_, ?_, frame⟩
  · rw [bays]
    exact keyShown_lastPrompt ..
  · rw [OtherBaysSame, bays]
    exact keyShown_otherBays b .resumed [unitNo a, unitNo oc.comp] s
  · simp only [SessionsSame, State.session, bays]
    exact keyShown_sessions b .resumed [unitNo a, unitNo oc.comp] s

/-- Settles O40: the refusals, the accepted key, and the refusal by the permit's state. -/
theorem resumeContinuesTheLoad : Obligations.ResumeContinuesTheLoad := by
  refine ⟨fun s b a ready => flowKeyRefusals_of ready fun p numbers refused => ?_,
    fun s b a oc p ready passes onArm found => ⟨resume_accepted ready passes onArm found, fun state => ?_⟩⟩
  · rw [exec_resume ready, resumeKey_refused ((flowRefusal_keyed b a .held s).trans refused)]
  · obtain ⟨t, run, prompt, sessions, others, frame⟩ :=
      keyShown_written b .permitSuspended [] s ready (exec_resume_suspended ready passes onArm found state)
    obtain ⟨_, _, held, _⟩ := passes
    refine ⟨t, run, prompt, ?_, sessions, others, frame⟩
    rw [frame]
    exact held

end Sys2Proof.Machine
end

section
/-! The link timer, the clock's second and CLOCK SET (O55). -/

namespace Sys2Proof.Machine

/-! ### All-call frames -/

/-- An all-call frame that the mode takes leaves what an owner answering OK makes, and no reply (R173). -/
theorem allCall_ok {kind : Byte} {owner : State → State × Answer} {s t : State} {body : ReplyBody} (taken : Taken kind s)
    (ok : owner (heard s) = (t, .ok, body)) (quiet : t.inbox = []) :
    requestTo .allCall kind owner s = .next t.write := by
  obtain ⟨ready, free, takes⟩ := taken
  have takes : modeTakes (heard s).mode kind.toNat = true := takes
  simp only [requestTo, receiveFrame_ready _ s ready free, allCall, takes, if_true, ok, settleCommand_nil t quiet]

/-- An owner's answer other than OK leaves no effect of an all-call frame (R173). -/
theorem allCall_notOk {kind : Byte} {owner : State → State × Answer} {s : State} {x : State × Answer}
    (taken : Taken kind s) (answer : owner (heard s) = x) (notOk : x.2.1 ≠ .ok) :
    requestTo .allCall kind owner s = .next (heard s).write := by
  obtain ⟨ready, free, takes⟩ := taken
  have takes : modeTakes (heard s).mode kind.toNat = true := takes
  have left : (match owner (heard s) with
      | (t, .ok, _) => t
      | _ => heard s) = heard s := by
    rw [answer]
    split
    · exact absurd rfl notOk
    · rfl
  have call : allCall kind owner (heard s) = heard s := by
    unfold allCall
    rw [if_pos takes]
    exact left
  rw [requestTo, receiveFrame_ready _ s ready free, call, settleCommand_nil (heard s) ready.2]

/-- A command in service that sends no notice is its operation and the retained write. -/
theorem inService_quiet {f : State → State} {s u : State} (ready : Ready s) (made : f s.fresh = u)
    (quiet : u.inbox = []) : inService f s = .next u.write := by
  rw [inService_ready f s ready, made, settleCommand_nil u quiet]

/-! ### The day (R104) -/

/-- In service the change of day zeroes the used figures in the table. -/
theorem dayRollover_service {s : State} (service : s.phase = .service) :
    dayRollover s = { s with permits := s.permits.map fun p => { p with used := 0 } } := by
  simp only [dayRollover, service]

theorem stamp_next_sameDay {t : Stamp} (before : t.second + 1 < 86400) : t.next = ⟨t.day, t.second + 1⟩ := by
  rw [Stamp.next, if_pos before]

theorem stamp_next_newDay {t : Stamp} (last : 86400 ≤ t.second + 1) : t.next = ⟨(t.day + 1) % 65536, 0⟩ := by
  rw [Stamp.next, if_neg (Nat.not_lt.2 last)]

/-- The day after is never the day before, across the return from 65535 to 0 either. -/
theorem day_changes (day : Nat) : (day + 1) % 65536 ≠ day := by
  omega

/-! ### The clock's second (R176) -/

theorem secondPasses_unset {s : State} (unset : s.line.clock = none) : secondPasses s = s := by
  simp only [secondPasses, unset]

theorem secondPasses_sameDay {s : State} {t : Stamp} (clock : s.line.clock = some t) (before : t.second + 1 < 86400) :
    secondPasses s = { s with line := { s.line with clock := some ⟨t.day, t.second + 1⟩, subSecond := 0 } } := by
  simp only [secondPasses, clock, stamp_next_sameDay before, if_true]
  rfl

theorem secondPasses_newDay {s : State} {t : Stamp} (clock : s.line.clock = some t) (last : 86400 ≤ t.second + 1)
    (service : s.phase = .service) :
    secondPasses s = { s with
      line := { s.line with clock := some ⟨(t.day + 1) % 65536, 0⟩, subSecond := 0 }
      permits := s.permits.map fun p => { p with used := 0 } } := by
  simp only [secondPasses, clock, stamp_next_newDay last, if_neg (day_changes t.day)]
  exact dayRollover_service service

theorem exec_clockSecond {s u : State} (ready : Ready s) (passes : secondPasses s.fresh = u) (quiet : u.inbox = []) :
    exec .clockSecond s = .next u.write := by
  simp only [exec, execClockSecond, ready.1, passes, settleCommand_nil u quiet]

/-! ### CLOCK SET (R176) -/

/-- The clock set, with its count toward the next second and, on a new day of a set clock, the used figures from 0. -/
def clockTaken (t : Stamp) (s : State) : State :=
  { s with
    line := { s.line with clock := some t, subSecond := 0 }
    permits := match s.line.clock with
      | some o => if o.day = t.day then s.permits else s.permits.map fun p => { p with used := 0 }
      | none => s.permits }

theorem setClock_service {s : State} (t : Stamp) (service : s.phase = .service) : setClock t s = clockTaken t s := by
  unfold setClock clockTaken
  cases s.line.clock with
  | none => rfl
  | some o =>
    simp only
    split
    · rfl
    · exact dayRollover_service service

theorem clockSetOwner_ok {s : State} {body : List Byte} (service : s.phase = .service) (length : body.length = 6)
    (second : fld body 2 4 ≤ 86399) :
    clockSetOwner body s = (clockTaken ⟨fld body 0 2, fld body 2 4⟩ s, .ok, .bytes []) := by
  rw [clockSetOwner, if_pos ⟨length, second⟩, setClock_service _ service]
  rfl

theorem clockSetOwner_format {s : State} {body : List Byte} (second : 86399 < fld body 2 4) :
    clockSetOwner body s = (s, .format, .bytes []) :=
  if_neg fun ⟨_, within⟩ => absurd second (Nat.not_lt.2 within)

/-- Settles O55: the link timer, the second by the clock's reading, and CLOCK SET by its address and its second. -/
theorem clockAndLinkKeepTime : Obligations.ClockAndLinkKeepTime := by
  intro s
  refine ⟨fun ready running => ?_, fun ready unset => ?_, fun t ready clock before => ?_, fun t ready clock last => ?_,
    fun dest body taken length second => ?_, fun body taken length second => ⟨?_, ?_⟩⟩
  · exact inService_quiet (f := linkTimeoutAt) ready (if_pos running) ready.2
  · exact exec_clockSecond ready (secondPasses_unset unset) ready.2
  · exact exec_clockSecond ready (secondPasses_sameDay clock before) ready.2
  · exact exec_clockSecond ready (secondPasses_newDay clock last ready.1) ready.2
  · have owner := clockSetOwner_ok (s := heard s) taken.1.1 length second
    cases dest with
    | addressed => exact request_quiet 0x10 _ s _ _ taken owner taken.1.2
    | allCall => exact allCall_ok taken owner taken.1.2
  · exact request_quiet 0x10 _ s _ _ taken (clockSetOwner_format second) taken.1.2
  · exact allCall_notOk taken (clockSetOwner_format second) (fun ok => nomatch ok)

end Sys2Proof.Machine
end

section
/-! The bodies of the permit, order and note messages read back (R180, R183, R184), and the messages that read a record
(O57). -/

namespace Sys2Proof.Machine

/-! ### Fields -/

theorem fld_cons_head (x : Byte) (l : List Byte) : fld (x :: l) 0 1 = x.toNat := by
  simp [fld, beNat]

theorem fld_cons_tail (x : Byte) (l : List Byte) (off w : Nat) : fld (x :: l) (off + 1) w = fld l off w := rfl

theorem rangeOf_within {lo hi k : Nat} (low : lo ≤ k) (high : k ≤ hi) : rangeOf lo hi k = some k := if_pos ⟨low, high⟩

theorem parsePermitNumber_be {n : Nat} (low : 1 ≤ n) (high : n < 65536) : parsePermitNumber (be 2 n) = some n := by
  rw [parsePermitNumber, if_pos (be_length 2 n), fld_be 2 n high, rangeOf_within low (Nat.le_of_lt_succ high)]

theorem parseNoteNumber_be {n : Nat} (low : 1 ≤ n) (high : n ≤ 999999) : parseNoteNumber (be 4 n) = some n := by
  rw [parseNoteNumber, if_pos (be_length 4 n), fld_be 4 n (by omega)]
  exact rangeOf_within low high

theorem parseOrderNumber_within {n : Nat} (low : 1 ≤ n) (high : n < 2147483648) : parseOrderNumber n = some n :=
  rangeOf_within low (Nat.le_of_lt_succ high)

/-! ### A record read -/

/-- The answer of an owner that has looked a record up: its bytes, or NOT_FOUND (R88, R97, R154, R162). -/
def readAnswer (found : Option (List Byte)) (s : State) : State × Answer :=
  match found with
  | some l => s.okBytes l
  | none => s.answer .notFound

/-- What the message leaves: the reply alone. -/
def readReply (kind : Byte) (found : Option (List Byte)) (s : State) : Host.Outcome State Fault Refusal :=
  match found with
  | some l => .next (sendReply kind (.ok, .bytes l) (heard s)).write
  | none => .next (sendReply kind (.notFound, .bytes []) (heard s)).write

/-- A message whose owner looks a record up changes nothing but the host line. -/
theorem request_read {kind : Byte} {owner : State → State × Answer} {s : State} {found : Option (List Byte)}
    (taken : Taken kind s) (reads : owner (heard s) = readAnswer found (heard s)) :
    request kind owner s = readReply kind found s := by
  cases found with
  | some l => exact request_quiet kind owner s _ _ taken reads taken.1.2
  | none => exact request_quiet kind owner s _ _ taken reads taken.1.2

/-! ### The owners -/

/-- PERMIT READ by its mode, 0 EXACT and 1 NEXT (R88). -/
theorem permitReadOwner_eq (s : State) (mode : Byte) {n : Nat} (within : n < 65536) (known : mode.toNat ≤ 1) :
    permitReadOwner (be 2 n ++ [mode]) s = readAnswer ((permitRead s.permits mode.toNat n).map Permit.bytes) s := by
  have number : fld (be 2 n ++ [mode]) 0 2 = n := fld_be_append 2 n [mode] within
  have selector : fld (be 2 n ++ [mode]) 2 1 = mode.toNat := (fld_be_skip 2 n [mode] 0 1).trans (fld_cons_head mode [])
  have length : (be 2 n ++ [mode]).length = 3 := by simp
  rw [permitReadOwner, number, selector, if_pos ⟨length, known⟩]
  cases permitRead s.permits mode.toNat n <;> rfl

theorem orderReply_eq (s : State) (o : Option Order) : orderReply s o = readAnswer (o.map Order.bytes) s := by
  cases o <;> rfl

section Order

variable (s : State) {n : Nat} (low : 1 ≤ n) (high : n < 2147483648)
include low high

theorem orderReadOwner_number :
    orderReadOwner (0 :: be 4 n) s = readAnswer ((findOrder s.orders n).map Order.bytes) s := by
  have number : fld (0 :: be 4 n) 1 4 = n := (fld_cons_tail 0 (be 4 n) 0 4).trans (fld_be 4 n (by omega))
  have length : (0 :: be 4 n).length = 5 := by simp
  simp only [orderReadOwner, length, ne_eq, not_true, if_false, fld_cons_head, number, parseOrderNumber_within low high,
    orderReply_eq]
  rfl

theorem orderReadOwner_position :
    orderReadOwner (1 :: be 4 n) s = readAnswer ((s.orders[n - 1]?).map Order.bytes) s := by
  have number : fld (1 :: be 4 n) 1 4 = n := (fld_cons_tail 1 (be 4 n) 0 4).trans (fld_be 4 n (by omega))
  have length : (1 :: be 4 n).length = 5 := by simp
  have placed : n ≠ 0 := Nat.one_le_iff_ne_zero.1 low
  simp only [orderReadOwner, length, ne_eq, not_true, if_false, fld_cons_head, number, orderReply_eq, if_neg placed]
  rfl

end Order

/-- Position 0 asks for the count of the orders (R97). -/
theorem orderReadOwner_count (s : State) :
    orderReadOwner [1, 0, 0, 0, 0] s = readAnswer (some (be 1 s.orders.length)) s := by
  have selector : fld [1, 0, 0, 0, 0] 0 1 = 1 := by decide
  have position : fld [1, 0, 0, 0, 0] 1 4 = 0 := by decide
  simp only [orderReadOwner, selector, position]
  rfl

theorem noteReadOwner_eq (s : State) {n : Nat} (low : 1 ≤ n) (high : n ≤ 999999) :
    noteReadOwner (be 4 n) s = readAnswer ((s.notes.find n).map Note.bytes) s := by
  simp only [noteReadOwner, parseNoteNumber_be low high]
  cases s.notes.find n <;> rfl

/-! ### CONFIG READ (R162) -/

/-- Every configuration holds the records of the same kinds and indices (R182). -/
theorem record_isSome (c d : Configuration) (kind index : Nat) :
    (c.record kind index).isSome = (d.record kind index).isSome := by
  unfold Configuration.record
  split
  · split <;> rfl
  all_goals simp only [Option.isSome_map, Option.isSome_none]

section Config

variable {s : State} {c : Configuration} (copy : readCopy s = some c)
include copy

theorem configReadOwner_digests : configReadOwner [0, 0] s = readAnswer
    (some (be 2 c.digestOf.toNat ++ boolByte s.setup.active.isSome ++ be 2 s.setup.digest.toNat)) s := by
  have digest : readDigest s = c.digestOf := by
    simp only [readDigest, copy]
  rw [← digest]
  rfl

theorem configReadOwner_record {kind index : Nat} {r : CfgRecord} (record : c.record kind index = some r)
    (low : 1 ≤ kind) (high : kind < 256) (within : index < 256) :
    configReadOwner (be 1 kind ++ be 1 index) s = readAnswer (some r.bytes) s := by
  have kindRead : fld (be 1 kind ++ be 1 index) 0 1 = kind := fld_be_append 1 kind _ high
  have indexRead : fld (be 1 kind ++ be 1 index) 1 1 = index :=
    (fld_be_skip 1 kind (be 1 index) 0 1).trans (fld_be 1 index within)
  have length : (be 1 kind ++ be 1 index).length = 2 := by simp
  have known : (Configuration.factory.record kind index).isNone = false := by
    rw [← Option.not_isSome, record_isSome _ c, record]
    rfl
  have named : kind ≠ 0 := Nat.one_le_iff_ne_zero.1 low
  simp only [configReadOwner, kindRead, indexRead, length, ne_eq, not_true, if_false, if_neg named, known,
    Bool.false_eq_true, copy, record]
  rfl

end Config

/-- A record of a configuration that is not there is NOT_FOUND (R162). -/
theorem configReadOwner_absent {s : State} (absent : readCopy s = none) (a : ArmNo) :
    configReadOwner [3, BitVec.ofNat 8 (unitNo a)] s = readAnswer none s := by
  have indexRead : fld [3, BitVec.ofNat 8 (unitNo a)] 1 1 = unitNo a := by
    have within : unitNo a < 256 := by
      simp only [unitNo]
      omega
    rw [fld_cons_tail, fld_cons_head, BitVec.toNat_ofNat, Nat.mod_eq_of_lt within]
  have known : (Configuration.factory.record 3 (unitNo a)).isNone = false := by
    simp only [Configuration.record, unitOf_unitNo]
    rfl
  have kindRead : fld [3, BitVec.ofNat 8 (unitNo a)] 0 1 = 3 := fld_cons_head ..
  simp only [configReadOwner, List.length_cons, List.length_nil, kindRead, indexRead, known, absent]
  rfl

/-! ### O57 -/

/-- Settles O57: each owner looks its record up, and the reply is all that the message leaves. -/
theorem recordMessagesOnlyRead : Obligations.RecordMessagesOnlyRead := by
  intro s
  refine ⟨fun n taken within => ⟨?_, ?_⟩, fun n taken low high => ⟨?_, ?_⟩, fun taken => ?_, fun taken => ?_,
    fun n taken low high => ?_, fun c taken copy => ⟨?_, fun kind index r record low high within => ?_⟩,
    fun a taken mode absent => ?_⟩
  · exact request_read taken (permitReadOwner_eq (heard s) 0 within (Nat.zero_le _))
  · exact request_read taken (permitReadOwner_eq (heard s) 1 within (Nat.le_refl _))
  · exact request_read taken (orderReadOwner_number (heard s) low high)
  · exact request_read taken (orderReadOwner_position (heard s) low high)
  · exact request_read taken (orderReadOwner_count (heard s))
  · exact request_read (found := some (noteIndexBytes s.notes)) taken rfl
  · exact request_read taken (noteReadOwner_eq (heard s) low high)
  · exact request_read taken (configReadOwner_digests (s := heard s) copy)
  · exact request_read taken (configReadOwner_record (s := heard s) copy record low high within)
  · have none_ : readCopy (heard s) = none := (if_neg mode).trans absent
    exact request_read taken (configReadOwner_absent none_ a)

end Sys2Proof.Machine
end

section
/-! The messages that change the permit table, the order book and the note store (O58 to O60): each owner's answer by the
entry it finds, and the reply. -/

namespace Sys2Proof.Machine

/-! ### PERMIT PUT (R87) -/

section PermitPut

variable {ps : List Permit} {new : Permit}

theorem permitPutRefusal_inUse (inUse : (findPermit ps new.number).any (fun p => p.openSession.isSome) = true) :
    permitPutRefusal ps new = some .inUse := if_pos inUse

/-- Another entry holds the token. -/
theorem double_iff : ps.any (fun p => p.token = new.token && p.number ≠ new.number) = true ↔
    ∃ p ∈ ps, p.token = new.token ∧ p.number ≠ new.number := by
  simp [List.any_eq_true]

variable (free : ¬(findPermit ps new.number).any (fun p => p.openSession.isSome) = true)
include free

theorem permitPutRefusal_duplicate (double : ∃ p ∈ ps, p.token = new.token ∧ p.number ≠ new.number) :
    permitPutRefusal ps new = some .duplicate := (if_neg free).trans (if_pos (double_iff.2 double))

variable (single : ¬∃ p ∈ ps, p.token = new.token ∧ p.number ≠ new.number)
include single

/-- Past the tests of the entry and of the token, the table's room decides. -/
theorem permitPutRefusal_room : permitPutRefusal ps new =
    if (findPermit ps new.number).isNone ∧ Config.permitCapacity ≤ ps.length then some .full else none :=
  (if_neg free).trans (if_neg (single ∘ double_iff.1))

end PermitPut

section PermitPutOwner

variable {s : State} {body : List Byte} {new : Permit}

theorem permitPutOwner_format (malformed : parsePermit body = none) : permitPutOwner body s = s.answer .format := by
  simp only [permitPutOwner, malformed]

variable (parsed : parsePermit body = some new)
include parsed

theorem permitPutOwner_refused {code : ResultCode} (refused : permitPutRefusal s.permits new = some code) :
    permitPutOwner body s = s.answer code := by
  simp only [permitPutOwner, parsed, refused]

variable (accepted : permitPutRefusal s.permits new = none)
include accepted

theorem permitPutOwner_added (absent : findPermit s.permits new.number = none) :
    permitPutOwner body s = ({ s with permits := s.permits ++ [new] } : State).okBytes [0] := by
  simp only [permitPutOwner, parsed, accepted, absent]
  rfl

theorem permitPutOwner_replaced (held : (findPermit s.permits new.number).isSome = true) :
    permitPutOwner body s
      = ({ s with permits := modPermit s.permits new.number fun p => p.replacedBy new } : State).okBytes [1] := by
  obtain ⟨p, found⟩ := Option.isSome_iff_exists.1 held
  simp only [permitPutOwner, parsed, accepted, found]
  rfl

end PermitPutOwner

/-- Settles O58: the refusals in their order, and the entry added or replaced. -/
theorem permitPutAddsOrReplaces : Obligations.PermitPutAddsOrReplaces := by
  intro s body taken
  have answers {t : State} {x : Answer} (owner : permitPutOwner body (heard s) = (t, x)) (quiet : t.inbox = []) :
      exec (.permitPut body) s = .next (sendReply 0x30 x t).write := request_quiet 0x30 _ s t x taken owner quiet
  have inbox : (heard s).inbox = [] := taken.1.2
  refine ⟨fun malformed => answers (permitPutOwner_format malformed) inbox, fun new parsed => ⟨fun inUse => ?_,
    fun free double => ?_, fun single absent full => ?_, fun single absent room => ?_, fun free single held => ?_⟩⟩
  · exact answers (permitPutOwner_refused parsed (permitPutRefusal_inUse inUse)) inbox
  · exact answers (permitPutOwner_refused parsed (permitPutRefusal_duplicate free double)) inbox
  · have free : ¬(findPermit s.permits new.number).any (fun p => p.openSession.isSome) = true := by
      simp only [absent, Option.any_none, Bool.false_eq_true, not_false_eq_true]
    have refused : permitPutRefusal s.permits new = some .full :=
      (permitPutRefusal_room free single).trans (if_pos ⟨Option.isNone_iff_eq_none.2 absent, full⟩)
    exact answers (permitPutOwner_refused parsed refused) inbox
  · have free : ¬(findPermit s.permits new.number).any (fun p => p.openSession.isSome) = true := by
      simp only [absent, Option.any_none, Bool.false_eq_true, not_false_eq_true]
    have accepted : permitPutRefusal s.permits new = none :=
      (permitPutRefusal_room free single).trans (if_neg fun ⟨_, full⟩ => absurd full (Nat.not_le.2 room))
    exact answers (permitPutOwner_added (s := heard s) parsed accepted absent) inbox
  · have accepted : permitPutRefusal s.permits new = none :=
      (permitPutRefusal_room free single).trans (if_neg fun ⟨absent, _⟩ => by
        rw [← Option.not_isSome, held] at absent
        exact nomatch absent)
    exact answers (permitPutOwner_replaced (s := heard s) parsed accepted held) inbox

/-! ### PERMIT SUSPEND, REINSTATE and REMOVE (R89, R90) -/

theorem namedPermit_be {n : Nat} (low : 1 ≤ n) (high : n < 65536) (owner : Nat → State → State × Answer) (s : State) :
    namedPermit (be 2 n) owner s = owner n s := by
  simp only [namedPermit, parsePermitNumber_be low high]

section Named

variable {s : State} {n : Nat}

theorem setPermitState_absent (next : PermitState) (absent : findPermit s.permits n = none) :
    setPermitState next n s = s.answer .notFound := by
  simp only [setPermitState, absent]

theorem permitRemoveOwner_absent (absent : findPermit s.permits n = none) :
    permitRemoveOwner n s = s.answer .notFound := by
  simp only [permitRemoveOwner, absent]

variable {p : Permit} (found : findPermit s.permits n = some p)
include found

theorem setPermitState_retiring (next : PermitState) (state : p.state = .retiring) :
    setPermitState next n s = s.answer .inUse := by
  simp only [setPermitState, found, if_pos state]

theorem setPermitState_set (next : PermitState) (state : p.state ≠ .retiring) : setPermitState next n s
    = ({ s with permits := modPermit s.permits n fun p => { p with state := next } } : State).answer .ok := by
  simp only [setPermitState, found, if_neg state]

theorem permitRemoveOwner_deleted (closed : p.openSession = none) :
    permitRemoveOwner n s = (deletePermit n s).okBytes [0] := by
  simp only [permitRemoveOwner, found, closed]
  rfl

theorem permitRemoveOwner_retiring (open_ : p.openSession ≠ none) : permitRemoveOwner n s
    = ({ s with permits := modPermit s.permits n fun p => { p with state := .retiring } } : State).okBytes [1] := by
  simp only [permitRemoveOwner, found, Option.isNone_iff_eq_none, if_neg open_]
  rfl

end Named

/-! ### QUOTA SET (R91) -/

section Quota

variable {s : State} {n quota : Nat} (low : 1 ≤ n) (high : n < 65536) (within : quota ≤ 10000000) (zero : Bool)
include low high within

/-- A well-formed QUOTA SET acts on the entry it names. -/
theorem quotaSetOwner_eq : quotaSetOwner (be 2 n ++ be 4 quota ++ boolByte zero) s =
    match findPermit s.permits n with
    | none => s.answer .notFound
    | some p => ({ s with permits := modPermit s.permits n fun p => p.withQuota quota zero } : State).okBytes
        (p.withQuota quota zero).quotaBytes := by
  have number : fld (be 2 n ++ be 4 quota ++ boolByte zero) 0 2 = n := by
    rw [List.append_assoc]
    exact fld_be_append 2 n _ high
  have figure : fld (be 2 n ++ be 4 quota ++ boolByte zero) 2 4 = quota := by
    rw [List.append_assoc]
    exact (fld_be_skip 2 n _ 0 4).trans (fld_be_append 4 quota _ (by omega))
  have flag : fld (be 2 n ++ be 4 quota ++ boolByte zero) 6 1 = fld (boolByte zero) 0 1 := by
    rw [List.append_assoc]
    exact (fld_be_skip 2 n _ 4 1).trans (fld_be_skip 4 quota _ 0 1)
  have length : (be 2 n ++ be 4 quota ++ boolByte zero).length = 7 := by simp
  cases found : findPermit s.permits n <;>
    simp only [quotaSetOwner, number, figure, flag, length, rangeOf_within low (Nat.le_of_lt_succ high),
      rangeOf_within (Nat.zero_le quota) within, boolOf_boolByte, ne_eq, not_true, if_false, found]

theorem quotaSetOwner_absent (absent : findPermit s.permits n = none) :
    quotaSetOwner (be 2 n ++ be 4 quota ++ boolByte zero) s = s.answer .notFound := by
  rw [quotaSetOwner_eq low high within, absent]

theorem quotaSetOwner_set {p : Permit} (found : findPermit s.permits n = some p) :
    quotaSetOwner (be 2 n ++ be 4 quota ++ boolByte zero) s
      = ({ s with permits := modPermit s.permits n fun p => p.withQuota quota zero } : State).okBytes
        (p.withQuota quota zero).quotaBytes := by
  rw [quotaSetOwner_eq low high within, found]

end Quota

/-- The reply of a message that names a permit, from the owner's answer. -/
theorem request_named {kind : Byte} {owner : Nat → State → State × Answer} {s t : State} {x : Answer} {n : Nat}
    (low : 1 ≤ n) (high : n < 65536) (taken : Taken kind s) (answer : owner n (heard s) = (t, x)) (quiet : t.inbox = []) :
    request kind (namedPermit (be 2 n) owner) s = .next (sendReply kind x t).write :=
  request_quiet kind _ s t x taken ((namedPermit_be low high owner (heard s)).trans answer) quiet

/-- Settles O59: each message by whether the entry is there, and by what it finds of it. -/
theorem permitMessagesActOnTheEntryNamed : Obligations.PermitMessagesActOnTheEntryNamed := by
  intro s n low high
  refine ⟨fun absent => ?_, fun p found => ?_⟩
  · refine ⟨fun taken => ?_, fun taken => ?_, fun taken => ?_, fun quota zero taken within => ?_⟩
    · exact request_named low high taken (setPermitState_absent .suspended absent) taken.1.2
    · exact request_named low high taken (setPermitState_absent .active absent) taken.1.2
    · exact request_named low high taken (permitRemoveOwner_absent absent) taken.1.2
    · exact request_quiet 0x35 _ s _ _ taken (quotaSetOwner_absent low high within zero absent) taken.1.2
  · have found : findPermit (heard s).permits n = some p := found
    refine ⟨fun taken state => ?_, fun taken state => ?_, fun taken state => ?_, fun taken state => ?_,
      fun taken closed => ?_, fun taken open_ => ?_, fun quota zero taken within => ?_⟩
    · exact request_named low high taken (setPermitState_retiring found .suspended state) taken.1.2
    · exact request_named low high taken (setPermitState_set found .suspended state) taken.1.2
    · exact request_named low high taken (setPermitState_retiring found .active state) taken.1.2
    · exact request_named low high taken (setPermitState_set found .active state) taken.1.2
    · exact request_named low high taken (permitRemoveOwner_deleted found closed) taken.1.2
    · exact request_named low high taken (permitRemoveOwner_retiring found open_) taken.1.2
    · exact request_quiet 0x35 _ s _ _ taken (quotaSetOwner_set low high within zero found) taken.1.2

/-! ### ORDER PUT (R96) -/

section OrderPut

variable {s : State} {body : List Byte} {o : Order} (parsed : parseOrder body = some o)
include parsed

/-- An order put is PENDING and under its permit (R96, R183). -/
theorem parseOrder_pending : o.active = false ∧ o.orphaned = false := by
  simp only [parseOrder, Option.bind_eq_bind, Option.bind_eq_some_iff] at parsed
  obtain ⟨_, _, _, _, _, _, _, _, made⟩ := parsed
  split at made
  · cases made
    exact ⟨rfl, rfl⟩
  · exact nomatch made

theorem orderPutOwner_refused {code : ResultCode} (refused : orderPutRefusal s o = some code) :
    orderPutOwner body s = s.answer code := by
  simp only [orderPutOwner, parsed, refused]

theorem orderPutOwner_joined (accepted : orderPutRefusal s o = none) :
    orderPutOwner body s = ({ s with orders := s.orders ++ [o] } : State).answer .ok := by
  simp only [orderPutOwner, parsed, accepted]

end OrderPut

section OrderRefusal

variable {s : State} {o : Order}

theorem orderPutRefusal_duplicate (held : findOrder s.orders o.number ≠ none) :
    orderPutRefusal s o = some .duplicate := if_pos (Option.isSome_iff_ne_none.2 held)

variable (new : findOrder s.orders o.number = none)
include new

theorem orderPutRefusal_notFound (absent : findPermit s.permits o.permit = none) :
    orderPutRefusal s o = some .notFound := by
  simp only [orderPutRefusal, new, absent, Option.isSome_none, Bool.false_eq_true, if_false]

/-- An order under a permit that the table holds is judged by its products, then by the room in the book. -/
theorem orderPutRefusal_held {p : Permit} (found : findPermit s.permits o.permit = some p) : orderPutRefusal s o =
    if orderAllowed s p o = false then some .invalid
    else if Config.orderCapacity ≤ s.orders.length then some .full else none := by
  simp only [orderPutRefusal, new, found, Option.isSome_none, Bool.false_eq_true, if_false]

end OrderRefusal

theorem orderAllowed_iff (s : State) (p : Permit) (o : Order) : orderAllowed s p o = true ↔
    ∀ e ∈ o.entries, maskHas p.productMask e.product = true ∧ s.cfg.products[e.product].enabled = true := by
  simp only [orderAllowed, List.all_eq_true, Bool.and_eq_true]

theorem orderAllowed_true {s : State} {p : Permit} {o : Order} (inside : ∀ e ∈ o.entries,
    maskHas p.productMask e.product = true ∧ s.cfg.products[e.product].enabled = true) : ¬orderAllowed s p o = false := by
  rw [(orderAllowed_iff s p o).2 inside]
  exact fun no => nomatch no

theorem orderAllowed_false {s : State} {p : Permit} {o : Order} (refused : ∃ e ∈ o.entries,
    maskHas p.productMask e.product = false ∨ s.cfg.products[e.product].enabled = false) : orderAllowed s p o = false := by
  obtain ⟨e, mem, outside⟩ := refused
  refine Bool.eq_false_iff.2 fun allowed => ?_
  obtain ⟨masked, enabled⟩ := (orderAllowed_iff s p o).1 allowed e mem
  rcases outside with unmasked | disabled
  · exact nomatch masked.symm.trans unmasked
  · exact nomatch enabled.symm.trans disabled

/-! ### ORDER CANCEL (R98) and NOTE RELEASE (R155) -/

section Cancel

variable {s : State} {n : Nat} (low : 1 ≤ n) (high : n < 2147483648)
include low high

theorem orderCancelOwner_eq : orderCancelOwner (be 4 n) s =
    match findOrder s.orders n with
    | none => s.answer .notFound
    | some o => if o.active then s.answer .inUse else (removeOrder n s).answer .ok := by
  have length : (be 4 n).length = 4 := be_length 4 n
  cases found : findOrder s.orders n <;>
    simp only [orderCancelOwner, fld_be 4 n (by omega), parseOrderNumber_within low high, length, ne_eq, not_true,
      if_false, found]

theorem orderCancelOwner_absent (absent : findOrder s.orders n = none) :
    orderCancelOwner (be 4 n) s = s.answer .notFound := by
  rw [orderCancelOwner_eq low high, absent]

theorem orderCancelOwner_active {o : Order} (found : findOrder s.orders n = some o) (active : o.active = true) :
    orderCancelOwner (be 4 n) s = s.answer .inUse := by
  simp only [orderCancelOwner_eq low high, found, if_pos active]

theorem orderCancelOwner_pending {o : Order} (found : findOrder s.orders n = some o) (pending : o.active = false) :
    orderCancelOwner (be 4 n) s = (removeOrder n s).answer .ok := by
  simp only [orderCancelOwner_eq low high, found, pending, Bool.false_eq_true, if_false]

end Cancel

section Release

variable {s : State} {n : Nat} (low : 1 ≤ n) (high : n ≤ 999999)
include low high

theorem noteReleaseOwner_absent (absent : s.notes.find n = none) :
    noteReleaseOwner (be 4 n) s = s.answer .notFound := by
  simp only [noteReleaseOwner, parseNoteNumber_be low high, absent]

theorem noteReleaseOwner_found {x : Note} (found : s.notes.find n = some x) : noteReleaseOwner (be 4 n) s
    = ({ s with notes := s.notes.release n } : State).okBytes (be 1 (s.notes.release n).free) := by
  simp only [noteReleaseOwner, parseNoteNumber_be low high, found]

end Release

/-! ### O60 -/

/-- ORDER PUT: the refusals in their order, and the order at the end of the book. -/
theorem orderPut_answers {s : State} {body : List Byte} {o : Order} (taken : Taken 0x40 s)
    (parsed : parseOrder body = some o) :
    let refused (r : ResultCode) := exec (.orderPut body) s = .next (sendReply 0x40 (r, .bytes []) (heard s)).write
    (findOrder s.orders o.number ≠ none → refused .duplicate) ∧
    (findOrder s.orders o.number = none → findPermit s.permits o.permit = none → refused .notFound) ∧
    (∀ p, findOrder s.orders o.number = none → findPermit s.permits o.permit = some p →
      (∃ e ∈ o.entries, maskHas p.productMask e.product = false ∨ s.cfg.products[e.product].enabled = false) →
      refused .invalid) ∧
    (∀ p, findOrder s.orders o.number = none → findPermit s.permits o.permit = some p →
      (∀ e ∈ o.entries, maskHas p.productMask e.product = true ∧ s.cfg.products[e.product].enabled = true) →
      (32 ≤ s.orders.length → refused .full) ∧
      (s.orders.length < 32 → o.active = false ∧ o.orphaned = false ∧
        exec (.orderPut body) s = .next
          (sendReply 0x40 (.ok, .bytes []) { heard s with orders := s.orders ++ [o] }).write)) := by
  have refuse {r : ResultCode} (refused : orderPutRefusal (heard s) o = some r) :
      exec (.orderPut body) s = .next (sendReply 0x40 (r, .bytes []) (heard s)).write :=
    request_quiet 0x40 _ s _ _ taken (orderPutOwner_refused parsed refused) taken.1.2
  refine ⟨fun held => refuse (orderPutRefusal_duplicate held), fun new absent => refuse (orderPutRefusal_notFound new absent),
    fun p new found outside => refuse ?_, fun p new found inside => ⟨fun full => refuse ?_, fun room => ?_⟩⟩
  · exact (orderPutRefusal_held new found).trans (if_pos (orderAllowed_false outside))
  · exact (orderPutRefusal_held new found).trans ((if_neg (orderAllowed_true (s := heard s) inside)).trans (if_pos full))
  · have accepted : orderPutRefusal (heard s) o = none :=
      (orderPutRefusal_held new found).trans ((if_neg (orderAllowed_true (s := heard s) inside)).trans (if_neg (Nat.not_le.2 room)))
    obtain ⟨pending, owned⟩ := parseOrder_pending parsed
    exact ⟨pending, owned, request_quiet 0x40 _ s _ _ taken (orderPutOwner_joined parsed accepted) taken.1.2⟩

/-- Settles O60: the three messages by what their owners find. -/
theorem orderAndNoteMessagesKeepTheirStores : Obligations.OrderAndNoteMessagesKeepTheirStores := by
  intro s
  refine ⟨fun body o taken parsed => orderPut_answers taken parsed,
    fun n taken low high => ⟨fun absent => ?_, fun o found active => ?_, fun o found pending => ?_⟩,
    fun n taken low high => ⟨fun x found => ?_, fun absent => ?_⟩⟩
  · exact request_quiet 0x42 _ s _ _ taken (orderCancelOwner_absent low high absent) taken.1.2
  · have found : findOrder (heard s).orders n = some o := found
    exact request_quiet 0x42 _ s _ _ taken (orderCancelOwner_active low high found active) taken.1.2
  · have found : findOrder (heard s).orders n = some o := found
    exact request_quiet 0x42 _ s _ _ taken (orderCancelOwner_pending low high found pending) taken.1.2
  · exact request_quiet 0x62 _ s _ _ taken (noteReleaseOwner_found low high found) taken.1.2
  · exact request_quiet 0x62 _ s _ _ taken (noteReleaseOwner_absent low high absent) taken.1.2

end Sys2Proof.Machine
end

section
/-! The number of a filed note (R148), and the filing of an ended session (O35). -/

namespace Sys2Proof.Machine

/-! ### The number of a note (R148) -/

/-- The candidates run through 1..999,999 in a circle. -/
theorem nextNumber_iterate {k : Nat} (low : 1 ≤ k) (high : k ≤ 999999) (j : Nat) :
    nextNumber^[j] k = (k - 1 + j) % 999999 + 1 := by
  induction j with
  | zero =>
    rw [Function.iterate_zero_apply]
    omega
  | succ j ih =>
    rw [Function.iterate_succ_apply', ih]
    unfold nextNumber Config.lastNoteNumber
    split <;> omega

/-- The search passes over candidates that held notes carry, and ends at a free one or out of fuel. -/
theorem freeNumber_cases (held : List Note) (fuel k : Nat) : ∃ j, freeNumber held fuel k = nextNumber^[j] k
    ∧ (∀ i < j, nextNumber^[i] k ∈ held.map Note.number)
    ∧ (j = fuel ∨ nextNumber^[j] k ∉ held.map Note.number) := by
  induction fuel generalizing k with
  | zero => exact ⟨0, rfl, fun i none => absurd none (Nat.not_lt_zero i), .inl rfl⟩
  | succ fuel ih =>
    have test : held.any (fun x => x.number = k) = true ↔ k ∈ held.map Note.number := by
      simp [List.any_eq_true]
    unfold freeNumber
    split
    · next carried =>
      obtain ⟨j, found, passed, ended⟩ := ih (nextNumber k)
      refine ⟨j + 1, found, fun i before => ?_, ended.imp (congrArg (· + 1)) id⟩
      cases i with
      | zero => exact test.1 carried
      | succ i => exact passed i (Nat.lt_of_succ_lt_succ before)
    · next free => exact ⟨0, rfl, fun i none => absurd none (Nat.not_lt_zero i), .inr (free ∘ test.2)⟩

/-- One candidate more than there are held notes is enough: they cannot all be carried (R148). -/
theorem numberFor_free {n : NoteStore} (few : n.held.length ≤ 64) (low : 1 ≤ n.next) (high : n.next ≤ 999999) :
    1 ≤ n.numberFor ∧ n.numberFor ≤ 999999 ∧ ∀ y ∈ n.held, y.number ≠ n.numberFor := by
  obtain ⟨j, found, passed, ended⟩ := freeNumber_cases n.held (n.held.length + 1) n.next
  have number : n.numberFor = (n.next - 1 + j) % 999999 + 1 := found.trans (nextNumber_iterate low high j)
  refine ⟨by omega, by omega, fun y hy same => ?_⟩
  have carried : nextNumber^[j] n.next ∈ n.held.map Note.number :=
    List.mem_map.2 ⟨y, hy, same.trans found⟩
  have out : j = n.held.length + 1 := ended.resolve_right (not_not_intro carried)
  have distinct : ((List.range j).map fun i => nextNumber^[i] n.next).Nodup := by
    refine List.Nodup.map_on (fun i hi i' hi' same => ?_) List.nodup_range
    rw [List.mem_range] at hi hi'
    rw [nextNumber_iterate low high, nextNumber_iterate low high] at same
    omega
  have within : ((List.range j).map fun i => nextNumber^[i] n.next) ⊆ n.held.map Note.number := by
    intro k hk
    obtain ⟨i, before, rfl⟩ := List.mem_map.1 hk
    exact passed i (List.mem_range.1 before)
  have fits := (distinct.subperm within).length_le
  simp only [List.length_map, List.length_range] at fits
  omega

/-! ### The close request at a filing (R94) -/

theorem closeRequest_orderNumbers (n : Nat) (b : BayNo) (s : State) :
    (closeRequest n b s).1.orders.map Order.number = s.orders.map Order.number := by
  rcases closeRequest_cases n b s with ⟨-, same⟩ | ⟨-, -, -, same⟩ | ⟨-, -, -, -, same⟩ | ⟨-, -, -, -, same⟩ <;> rw [same]
  show (orphan s.orders n).map Order.number = _
  rw [orphan, List.map_map]
  refine List.map_congr_left fun o _ => ?_
  rw [Function.comp_apply]
  split <;> rfl

/-- After a close request no entry of the number has its session open at the bay. -/
theorem closeRequest_closed {n : Nat} {b : BayNo} {s : State} (lawful : TableLawful s.permits) :
    ∀ p ∈ (closeRequest n b s).1.permits, p.number = n → p.openSession ≠ some b := by
  intro p mem number
  rcases closeRequest_cases n b s with ⟨absent, same⟩ | ⟨q, found, away, same⟩ | ⟨-, -, -, -, same⟩ | ⟨-, -, -, -, same⟩ <;>
    rw [same] at mem
  · exact absurd (decide_eq_true number) (List.find?_eq_none.1 absent p mem)
  · obtain ⟨numbers, -, -⟩ := lawful
    have only : p = q := List.inj_on_of_nodup_map numbers mem (List.mem_of_find?_eq_some found)
      (number.trans (findPermit_number _ _ _ found).symm)
    exact only ▸ away
  · exact absurd number (of_decide_eq_true (List.mem_filter.1 mem).2)
  · obtain ⟨q, -, rfl⟩ := List.mem_map.1 mem
    split at number
    · next own => exact fun open_ => by simp [own] at open_
    · next other => exact absurd number other

/-! ### The session filed (R119) -/

section Filed

variable (b : BayNo) (x : Session) (s : State)

theorem booksClosed_frame : booksClosed b x s = { s.write with
    permits := (booksClosed b x s).permits, orders := (booksClosed b x s).orders
    notes := s.notes.file (endNote b x s) } :=
  closeRequest_frame x.permit b (removeOrder x.order { s.write with notes := s.notes.file (endNote b x s) })

theorem booksClosed_orders : ∀ o ∈ (booksClosed b x s).orders, o.number ≠ x.order := by
  intro o mem same
  have kept : x.order ∈ (s.orders.filter fun y => y.number ≠ x.order).map Order.number := by
    have numbers := closeRequest_orderNumbers x.permit b
      (removeOrder x.order { s.write with notes := s.notes.file (endNote b x s) })
    exact numbers ▸ List.mem_map.2 ⟨o, mem, same⟩
  obtain ⟨y, left, number⟩ := List.mem_map.1 kept
  exact of_decide_eq_true (List.mem_filter.1 left).2 number

theorem booksClosed_permits (lawful : TableLawful s.permits) :
    ∀ p ∈ (booksClosed b x s).permits, p.number = x.permit → p.openSession ≠ some b :=
  closeRequest_closed (s := removeOrder x.order { s.write with notes := s.notes.file (endNote b x s) }) lawful

/-- The bay VACANT, showing NOTE with the note's number. -/
def Bay.filed (y : Bay) (number : Nat) : Bay :=
  { y with session := none, awaited := [], lastPrompt := some ⟨.note, [number]⟩, sent := y.sent ++ [⟨.note, [number]⟩] }

theorem sessionFiled_frame : sessionFiled b x s = { s.write with
    permits := (booksClosed b x s).permits, orders := (booksClosed b x s).orders
    notes := s.notes.file (endNote b x s), bays := vmod s.bays b fun y => y.filed s.notes.numberFor } := by
  have bays : (sessionFiled b x s).bays = vmod s.bays b fun y => y.filed s.notes.numberFor := by
    have before : (booksClosed b x s).bays = s.bays := by
      rw [booksClosed_frame]
      rfl
    refine vec_ext _ _ fun i => ?_
    simp only [sessionFiled, sendShow_bays, modBay_bays, before, vmod_get]
    split <;> rfl
  rw [← bays]
  exact congrArg (fun t : State => { t with bays := (sessionFiled b x s).bays }) (booksClosed_frame b x s)

/-- The notice of a filing in the second stage of a trip (R142). -/
theorem fileSession_frame : fileSession b x s = { sessionFiled b x s with
    inbox := s.inbox ++ if s.mode = .tripping ∧ s.trip.stageTwo = true then [.bayReport b] else [] } := by
  have inbox : (sessionFiled b x s).inbox = s.inbox := by
    rw [sessionFiled_frame]
    rfl
  have rack : (sessionFiled b x s).mode = s.mode ∧ (sessionFiled b x s).trip = s.trip := by
    rw [sessionFiled_frame]
    exact ⟨rfl, rfl⟩
  rw [fileSession_eq, rack.1, rack.2, ← inbox]
  split
  · rfl
  · rw [List.append_nil]

end Filed

/-! ### O35 -/

/-- A session that is ENDING, its arms IDLE and its shots written, is filed (R119). -/
theorem exec_noteFiling {s : State} {b : BayNo} {x : Session} (ready : Ready s) (session : s.session b = some x)
    (ending : x.state = .ending) (idle : bayIdle s b = true) (written : ∀ i ∈ x.injs, holdsShotOf s b i = false) :
    exec (.noteFiling b) s = .next (settleCommand (fileSession b x s.fresh)) := by
  have none_ : (x.injs.filter fun i => holdsShotOf s.fresh b i) = [] :=
    List.filter_eq_nil_iff.2 fun i mem => Bool.eq_false_iff.1 (written i mem)
  have idle : bayIdle s.fresh b = true := idle
  have filed : filingTest b s.fresh = fileSession b x s.fresh := by
    simp only [filingTest, fresh_session, session, ending, idle, and_self, if_true, none_]
  rw [← filed]
  exact inService_ready (filingTest b) s ready

/-- Settles O35: the note, the order, the permit, the bay, and the report of the second stage. -/
theorem filingLeavesTheBayVacant : Obligations.FilingLeavesTheBayVacant := by
  intro s b x ready session ending idle written
  have run := exec_noteFiling ready session ending idle written
  have frame := fileSession_frame b x s.fresh
  rw [sessionFiled_frame, show s.fresh.inbox = [] from ready.2, List.nil_append] at frame
  have orders := booksClosed_orders b x s.fresh
  have permits := booksClosed_permits b x s.fresh
  generalize (booksClosed b x s.fresh).orders = os at *
  generalize (booksClosed b x s.fresh).permits = ps at *
  generalize fileSession b x s.fresh = u at *
  have bays : u.bays = vmod s.fresh.bays b fun y => y.filed s.notes.numberFor := by rw [frame]; rfl
  have here : u.bays[b] = s.fresh.bays[b].filed s.notes.numberFor := by
    rw [bays]
    exact vmod_self ..
  have notes : u.notes = s.notes.file (endNote b x s.fresh) := by rw [frame]; rfl
  have vacant : u.session b = none := congrArg Bay.session here
  refine ⟨u, { endNote b x s.fresh with number := s.notes.numberFor }, run, vacant, congrArg NoteStore.held notes, rfl,
    fun few low high => ?_, rfl, rfl, rfl, rfl, rfl, rfl, congrArg NoteStore.reserved notes, ?_, fun lawful => ?_,
    congrArg Bay.lastPrompt here, ?_, fun quiet => ?_, fun y other => ?_, ?_⟩
  · obtain ⟨positive, bounded, fresh⟩ := numberFor_free few low high
    exact ⟨positive, bounded, fresh, congrArg NoteStore.next notes⟩
  · rw [frame]
    exact orders
  · rw [frame]
    exact permits lawful
  · rw [frame]
    rfl
  · rw [settleCommand_nil u quiet]
    exact ⟨rfl, (vmap_get Bay.session u.bays b).trans vacant⟩
  · rw [bays]
    exact vmod_other _ _ _ _ other
  · rw [frame]
    rfl

end Sys2Proof.Machine
end

section
/-! The inputs and idle timers of a bay (R117, R122 to R124, R129): what an operation of one bay leaves alone, a permit
input, the deadman window, and the ATTENTION and ABANDON timers. -/

namespace Sys2Proof.Machine

/-! ### What an operation of one bay leaves alone -/

/-- From `s` to `t` one bay and the notices in flight change, and no session. -/
structure BayOnly (b : BayNo) (s t : State) : Prop where
  others : ∀ x : BayNo, x ≠ b → t.bays[x] = s.bays[x]
  sessions : SessionsSame s t
  frame : t = { s with bays := t.bays, inbox := t.inbox }

theorem BayOnly.refl (b : BayNo) (s : State) : BayOnly b s s := ⟨fun _ _ => rfl, fun _ => rfl, rfl⟩

theorem BayOnly.trans {b : BayNo} {s t u : State} (first : BayOnly b s t) (second : BayOnly b t u) : BayOnly b s u where
  others x other := (second.others x other).trans (first.others x other)
  sessions x := (second.sessions x).trans (first.sessions x)
  frame := second.frame.trans (congrArg (fun v : State => { v with bays := u.bays, inbox := u.inbox }) first.frame)

/-- A change of the bay that keeps its session. -/
theorem bayOnly_modBay {b : BayNo} {s : State} {f : Bay → Bay} (keeps : (f s.bays[b]).session = s.bays[b].session) :
    BayOnly b s (s.modBay b f) where
  others _ other := vmod_other _ _ _ _ other
  sessions x := by
    by_cases here : x = b
    · subst here
      exact (congrArg Bay.session (vmod_self ..)).trans keeps
    · exact congrArg Bay.session (vmod_other _ _ _ _ here)
  frame := rfl

theorem bayOnly_push (b : BayNo) (n : Notice) (s : State) : BayOnly b s (s.push n) := ⟨fun _ _ => rfl, fun _ => rfl, rfl⟩

theorem bayOnly_pushAll (b : BayNo) (l : List Notice) (s : State) : BayOnly b s (s.pushAll l) :=
  ⟨fun _ _ => rfl, fun _ => rfl, rfl⟩

theorem bayOnly_activity (b : BayNo) (k : Activity) (s : State) : BayOnly b s (activity b k s) := by
  rcases activity_cases b k s with same | timed
  · rw [same]
    exact .refl b s
  · rw [timed]
    exact bayOnly_modBay rfl

/-- What a command's operation on one bay leaves alone, said of the state before the command. -/
theorem BayOnly.command {b : BayNo} {s s' t : State} (only : BayOnly b s' t)
    (bays : s'.bays = s.fresh.bays) : OtherBaysSame b s t ∧ SessionsSame s t := by
  refine ⟨fun x other => (only.others x other).trans (by rw [bays]), fun x => (only.sessions x).trans ?_⟩
  exact (congrArg (fun v : Vector Bay 4 => v[x].session) bays).trans (fresh_session x s)

/-! ### Activity (R122) -/

/-- An activity event changes nothing of its bay but the idle timers and the attention flag. -/
theorem activity_bay (b : BayNo) (k : Activity) (s : State) : (activity b k s).bays[b] = { s.bays[b] with
    attentionFlag := (activity b k s).bays[b].attentionFlag, attention := (activity b k s).bays[b].attention
    abandon := (activity b k s).bays[b].abandon } := by
  rcases activity_cases b k s with same | timed
  · rw [same]
  · have here : (activity b k s).bays[b] = _ := (congrArg (fun t : State => t.bays[b]) timed).trans (vmod_self ..)
    rw [here]
    rfl

theorem activity_inbox (b : BayNo) (k : Activity) (s : State) : (activity b k s).inbox = s.inbox := by
  rcases activity_cases b k s with same | timed
  · rw [same]
  · rw [timed, modBay_inbox]

/-- An activity event that is selected restarts both idle timers of an open session. -/
theorem activity_selected {b : BayNo} {k : Activity} {s : State} (runs : sessionRuns s b = true)
    (selected : maskHas (s.bayCfg b).activity k.bit = true) : activity b k s = startIdleTimers b s := by
  rw [activity, runs, selected]
  rfl

/-- At a bay whose session does not run, activity restarts nothing. -/
theorem activity_stands {b : BayNo} {k : Activity} {s : State} (stands : sessionRuns s b = false) :
    activity b k s = s := by
  rw [activity, stands]
  rfl

/-! ### The permit inputs (R129) -/

theorem setPermitPin_frame (b : BayNo) (k : PermitInput) (level : Bool) (s : State) :
    setPermitPin b k level s = { s with pins := (setPermitPin b k level s).pins } := by
  cases k <;> rfl

/-- The levels of a bay's permit inputs once one of them has been set. -/
theorem permitLevel_setPermitPin (b : BayNo) (k j : PermitInput) (level : Bool) (s : State) :
    permitLevel (setPermitPin b k level s) b j = if j = k then level else permitLevel s b j := by
  by_cases same : j = k
  · subst same
    rw [if_pos rfl]
    cases j <;> exact vset_self ..
  · rw [if_neg same]
    cases k <;> cases j <;> first | rfl | exact absurd rfl same

/-- Which permits are then present (R112). -/
theorem permitPresent_setPermitPin (b : BayNo) (k j : PermitInput) (level : Bool) (s : State) :
    permitPresent (setPermitPin b k level s) b j
      = ((if j = k then level else permitLevel s b j) != maskHas (s.bayCfg b).polarity (permitBit j)) := by
  rw [permitPresent, permitLevel_setPermitPin, setPermitPin_frame]
  rfl

/-- An input set to the level it has. -/
theorem setPermitPin_same (b : BayNo) (k : PermitInput) (s : State) :
    setPermitPin b k (permitLevel s b k) s = s := by
  have same {α : Type} (v : Vector α 4) : vset v b v[b] = v := vec_ext _ _ fun i => by
    rw [vset_get]
    split
    · next here => rw [here]; rfl
    · rfl
  cases k with
  | ground => exact congrArg (fun v => { s with pins := { s.pins with ground := v } }) (same s.pins.ground)
  | overfill => exact congrArg (fun v => { s with pins := { s.pins with overfill := v } }) (same s.pins.overfill)
  | vapour => exact congrArg (fun v => { s with pins := { s.pins with vapour := v } }) (same s.pins.vapour)

/-- A changed permit input is activity or not, and is then reported. -/
theorem permitChanged_cases (b : BayNo) (k : PermitInput) (s : State) :
    permitChanged b k s = reportPermissives b s
      ∨ permitChanged b k s = reportPermissives b (activity b .permissive s) := by
  unfold permitChanged
  simp only
  split
  · split
    · exact .inr rfl
    · exact .inl rfl
  · exact .inr rfl

theorem permitChanged_bayOnly (b : BayNo) (k : PermitInput) (s : State) : BayOnly b s (permitChanged b k s) := by
  rcases permitChanged_cases b k s with same | stirred
  · rw [same]
    exact bayOnly_pushAll ..
  · rw [stirred]
    exact (bayOnly_activity b .permissive s).trans (bayOnly_pushAll ..)

theorem permitChanged_inbox (b : BayNo) (k : PermitInput) (s : State) :
    (permitChanged b k s).inbox = (reportPermissives b s).inbox := by
  rcases permitChanged_cases b k s with same | stirred
  · rw [same]
  · rw [stirred, (bayOnly_activity b .permissive s).frame, activity_inbox]
    rfl

/-- Settles O32: a level that changes, and a level the input has. -/
theorem permitInputsAreReported : Obligations.PermitInputsAreReported := by
  intro s b k level ready
  have run : exec (.bayPermitChange b k level) s = .next (settleCommand
      ((if permitLevel s b k = level then id else permitChanged b k) (setPermitPin b k level s.fresh))) :=
    onPin_ready _ _ s ready
  refine ⟨fun changes => ?_, fun same => ?_⟩
  · rw [if_neg changes] at run
    have only := permitChanged_bayOnly b k (setPermitPin b k level s.fresh)
    have inbox := permitChanged_inbox b k (setPermitPin b k level s.fresh)
    have present := permitPresent_setPermitPin b k (level := level) (s := s.fresh)
    have set := setPermitPin_frame b k level s.fresh
    generalize permitChanged b k (setPermitPin b k level s.fresh) = u at *
    obtain ⟨others, sessions⟩ := only.command (s := s) (congrArg State.bays set :)
    have frame : u = { s.fresh with
        pins := (setPermitPin b k level s.fresh).pins, bays := u.bays, inbox := u.inbox } :=
      only.frame.trans (congrArg (fun v : State => { v with bays := u.bays, inbox := u.inbox }) set)
    have pins : u.pins = (setPermitPin b k level s.fresh).pins := (congrArg State.pins frame :)
    have same : ∀ j, permitPresent u b j = permitPresent (setPermitPin b k level s.fresh) b j := fun j => by
      rw [frame, set]
      rfl
    refine ⟨u, run, pins.trans ?_, ?_, fun j => (same j).trans (present j), others, sessions, ?_⟩
    · cases k <;> rfl
    · rw [inbox, same, same, same, set]
      exact congrArg (· ++ _) ready.2
    · rw [pins]
      exact frame
  · have pin : setPermitPin b k level s.fresh = s.fresh := same ▸ setPermitPin_same b k s.fresh
    rw [if_pos same, pin, id, settleCommand_nil s.fresh ready.2] at run
    exact run

/-! ### The deadman window (R123, R124) -/

/-- The bay once a violation has been shown: the timer from 0, and a count. -/
def Bay.violated (x : Bay) (shown : Show) (count : Nat) : Bay :=
  { x with deadman := x.deadman.map fun t => { t with elapsed := 0 }, violations := count, lastPrompt := some shown
           sent := x.sent ++ [shown] }

/-- What the violation of a bay shows. -/
def violationShown (b : BayNo) (p : Prompt) (s : State) : Show :=
  ⟨p, [s.bays[b].violations + 1, (s.bayCfg b).deadmanLimit]⟩

/-- The timer restarted and the violation judged by the limit. -/
theorem violation_eq (b : BayNo) (p : Prompt) (s : State) : deadmanViolation b p (restartDeadman b s)
    = if (s.bayCfg b).deadmanLimit ≤ s.bays[b].violations + 1
      then (s.modBay b fun x => x.violated (violationShown b p s) 0).push (.event (.deadman b))
      else s.modBay b fun x => x.violated (violationShown b p s) (s.bays[b].violations + 1) := by
  have count : (restartDeadman b s).bays[b].violations = s.bays[b].violations := by
    rw [restartDeadman, modBay_bays, Fin.getElem_fin, vmod_self]
    rfl
  have cfg : (restartDeadman b s).bayCfg b = s.bayCfg b := rfl
  simp only [deadmanViolation, count, cfg]
  simp only [restartDeadman, State.modBay, State.sendShow, vmod_vmod]
  rfl

/-- What a press or a missed period that violates the window makes of the bay (R124): the timer from 0, the violation counted
and shown, and at the limit an event and the count 0 again. -/
structure Violated (b : BayNo) (p : Prompt) (s t : State) : Prop where
  only : BayOnly b s t
  deadman : t.bays[b].deadman = s.bays[b].deadman.map fun t => { t with elapsed := 0 }
  prompt : t.bays[b].lastPrompt = some (violationShown b p s)
  below : s.bays[b].violations + 1 < (s.bayCfg b).deadmanLimit →
    t.bays[b].violations = s.bays[b].violations + 1 ∧ t.inbox = s.inbox
  limit : (s.bayCfg b).deadmanLimit ≤ s.bays[b].violations + 1 →
    t.bays[b].violations = 0 ∧ t.inbox = s.inbox ++ [.event (.deadman b)]

theorem violation_violated (b : BayNo) (p : Prompt) (s : State) :
    Violated b p s (deadmanViolation b p (restartDeadman b s)) := by
  have here (n : Nat) : (s.modBay b fun x => x.violated (violationShown b p s) n).bays[b]
      = s.bays[b].violated (violationShown b p s) n := vmod_self ..
  rw [violation_eq]
  split
  · next reached =>
    exact ⟨(bayOnly_modBay rfl).trans (bayOnly_push ..), (congrArg Bay.deadman (here 0) :),
      (congrArg Bay.lastPrompt (here 0) :), fun below => absurd reached (Nat.not_le.2 below),
      fun _ => ⟨(congrArg Bay.violations (here 0) :), rfl⟩⟩
  · next below =>
    exact ⟨bayOnly_modBay rfl, (congrArg Bay.deadman (here _) :), (congrArg Bay.lastPrompt (here _) :),
      fun _ => ⟨(congrArg Bay.violations (here _) :), rfl⟩, fun reached => absurd reached below⟩

section Window

variable {b : BayNo} {s : State} {t : Timer} (timer : s.bays[b].deadman = some t)
include timer

/-- A press before the window opens (R124). -/
theorem judgePress_early (early : t.elapsed < windowTicks (s.bayCfg b)) :
    judgePress b s = deadmanViolation b .deadmanEarly (restartDeadman b s) := by
  have early : t.elapsed < windowTicks ((restartDeadman b s).bayCfg b) := early
  simp only [judgePress, timer, early, if_true]

/-- A press in the window lowers the count (R124). -/
theorem judgePress_valid (open_ : windowTicks (s.bayCfg b) ≤ t.elapsed) :
    judgePress b s = s.modBay b fun x =>
      { x with deadman := x.deadman.map fun t => { t with elapsed := 0 }, violations := x.violations - 1 } := by
  have open_ : ¬ t.elapsed < windowTicks ((restartDeadman b s).bayCfg b) := Nat.not_lt.2 open_
  simp only [judgePress, timer, open_, if_false]
  simp only [restartDeadman, State.modBay, vmod_vmod]

theorem deadmanLateAt_runs : deadmanLateAt b s = deadmanViolation b .deadmanLate (restartDeadman b s) := by
  simp only [deadmanLateAt, timer]

end Window

/-- While the timer is stopped, nothing of the window finds anything (R123). -/
theorem window_stopped {b : BayNo} {s : State} (stopped : s.bays[b].deadman = none) :
    judgePress b s = s ∧ deadmanLateAt b s = s ∧ windowOpensAt b s = s := by
  refine ⟨by simp only [judgePress, stopped], by simp only [deadmanLateAt, stopped], ?_⟩
  refine congrArg (fun v => { s with bays := v }) (vec_ext _ _ fun i => ?_)
  rw [vmod_get]
  split
  · next here =>
    subst here
    simp only [Fin.getElem_fin] at stopped
    rw [stopped, Option.map_none, ← stopped]
  · rfl

/-! #### A press (R124) -/

/-- The state in which a press is judged: the pin at its level, the activity counted. -/
def pressed (b : BayNo) (held : Bool) (s : State) : State := activity b .deadman (setDeadmanPin b held s.fresh)

section Pressed

variable (b : BayNo) (held : Bool) (s : State)

theorem exec_deadmanPress {s : State} (ready : Ready s) :
    exec (.deadmanPress b held) s = .next (settleCommand (judgePress b (pressed b held s))) :=
  onPin_ready (setDeadmanPin b held) (fun s => judgePress b (activity b .deadman s)) s ready

theorem pressed_bayOnly : BayOnly b (setDeadmanPin b held s.fresh) (pressed b held s) := bayOnly_activity ..

theorem pressed_bay : (pressed b held s).bays[b] = { s.bays[b] with
    sent := [], attentionFlag := (pressed b held s).bays[b].attentionFlag
    attention := (pressed b held s).bays[b].attention, abandon := (pressed b held s).bays[b].abandon } := by
  have before : (setDeadmanPin b held s.fresh).bays[b] = { s.bays[b] with sent := [] } := vmap_get ..
  have after := activity_bay b .deadman (setDeadmanPin b held s.fresh)
  rw [before] at after
  exact after

theorem pressed_bayCfg : (pressed b held s).bayCfg b = s.bayCfg b := by
  rw [(pressed_bayOnly b held s).frame]
  rfl

theorem pressed_inbox : (pressed b held s).inbox = s.inbox := activity_inbox ..

/-- What a press leaves alone, whatever becomes of it. -/
theorem pressed_leaves {t : State} (only : BayOnly b (pressed b held s) t) :
    OtherBaysSame b s t ∧ SessionsSame s t
      ∧ t = { s.fresh with
          pins := { s.pins with deadman := vset s.pins.deadman b held }, bays := t.bays, inbox := t.inbox } := by
  have whole := (pressed_bayOnly b held s).trans only
  obtain ⟨others, sessions⟩ := whole.command (s := s) rfl
  exact ⟨others, sessions, whole.frame⟩

end Pressed

/-- A press that counts as activity at an open session (R122). -/
theorem pressed_selected {b : BayNo} {held : Bool} {s : State} (runs : sessionRuns s b = true)
    (selected : maskHas (s.bayCfg b).activity (2 : Fin 5) = true) :
    (pressed b held s).bays[b].attentionFlag = false
      ∧ (pressed b held s).bays[b].attention = some ⟨0, (s.bayCfg b).attention * 100000⟩
      ∧ (pressed b held s).bays[b].abandon = some ⟨0, (s.bayCfg b).abandon * 100000⟩ := by
  have runs : sessionRuns (setDeadmanPin b held s.fresh) b = true := (sessionRuns_congr (fresh_session b s)).trans runs
  have here : (startIdleTimers b (setDeadmanPin b held s.fresh)).bays[b] = _ := vmod_self ..
  rw [pressed, activity_selected runs (k := .deadman) selected, here]
  exact ⟨rfl, rfl, rfl⟩

/-- A press while the timer runs (R124): EARLY or valid, and the timer from 0. -/
theorem press_judged {b : BayNo} (held : Bool) {s : State} {t : Timer} (ready : Ready s)
    (timer : s.bays[b].deadman = some t) : ∃ u, exec (.deadmanPress b held) s = .next (settleCommand u)
      ∧ BayOnly b (pressed b held s) u
      ∧ u.bays[b].deadman = some ⟨0, t.limit⟩
      ∧ (windowTicks (s.bayCfg b) ≤ t.elapsed → u.bays[b].violations = s.bays[b].violations - 1 ∧ u.inbox = [])
      ∧ (t.elapsed < windowTicks (s.bayCfg b) →
          u.bays[b].lastPrompt = some (violationShown b .deadmanEarly s)
          ∧ (s.bays[b].violations + 1 < (s.bayCfg b).deadmanLimit →
            u.bays[b].violations = s.bays[b].violations + 1 ∧ u.inbox = [])
          ∧ ((s.bayCfg b).deadmanLimit ≤ s.bays[b].violations + 1 →
            u.bays[b].violations = 0 ∧ u.inbox = [.event (.deadman b)])) := by
  have bay := pressed_bay b held s
  have cfg := pressed_bayCfg b held s
  have quiet : (pressed b held s).inbox = [] := (pressed_inbox b held s).trans ready.2
  have run := exec_deadmanPress b held ready
  have running : (pressed b held s).bays[b].deadman = some t := by rw [bay, timer]
  have count : (pressed b held s).bays[b].violations = s.bays[b].violations := by rw [bay]
  rcases Nat.lt_or_ge t.elapsed (windowTicks (s.bayCfg b)) with early | open_
  · rw [judgePress_early running (cfg.symm ▸ early)] at run
    obtain ⟨only, deadman, prompt, below, limit⟩ := violation_violated b .deadmanEarly (pressed b held s)
    rw [running] at deadman
    rw [violationShown, count, cfg] at prompt
    rw [count, cfg, quiet] at below limit
    exact ⟨_, run, only, deadman, fun open_ => absurd early (Nat.not_lt.2 open_), fun _ => ⟨prompt, below, limit⟩⟩
  · rw [judgePress_valid running (cfg.symm ▸ open_)] at run
    have here := vmod_self (pressed b held s).bays b fun x =>
      { x with deadman := x.deadman.map fun t => { t with elapsed := 0 }, violations := x.violations - 1 }
    refine ⟨_, run, bayOnly_modBay rfl, (congrArg Bay.deadman here).trans (congrArg (Option.map _) running),
      fun _ => ⟨(congrArg Bay.violations here).trans (congrArg (· - 1) count), quiet⟩,
      fun early => absurd early (Nat.not_lt.2 open_)⟩

/-- Settles O33: a press and a missed period while the timer runs, and the events of a stopped timer. -/
theorem deadmanPressesAreJudged : Obligations.DeadmanPressesAreJudged := by
  intro s b held ready
  have freshBay : s.fresh.bays[b] = { s.bays[b] with sent := [] } := vmap_get ..
  have late : exec (.deadmanLate b) s = .next (settleCommand (deadmanLateAt b s.fresh)) :=
    inService_ready (deadmanLateAt b) s ready
  refine ⟨fun t timer => ⟨?_, ?_, ?_⟩, fun stopped => ⟨?_, ?_, ?_⟩⟩
  · obtain ⟨u, run, only, deadman, valid, early⟩ := press_judged held ready timer
    refine ⟨u, run, deadman, valid, fun before under => ?_, fun before reached => ?_, pressed_leaves b held s only⟩
    · obtain ⟨prompt, below, -⟩ := early before
      exact ⟨(below under).1, (below under).2, prompt⟩
    · obtain ⟨prompt, -, limit⟩ := early before
      exact ⟨(limit reached).1, (limit reached).2, prompt⟩
  · have running : s.fresh.bays[b].deadman = some t := by rw [freshBay, timer]
    have count : s.fresh.bays[b].violations = s.bays[b].violations := by rw [freshBay]
    rw [deadmanLateAt_runs running] at late
    obtain ⟨only, deadman, prompt, below, limit⟩ := violation_violated b .deadmanLate s.fresh
    rw [running] at deadman
    rw [violationShown, count] at prompt
    rw [count, show s.fresh.inbox = [] from ready.2] at below limit
    obtain ⟨others, sessions⟩ := only.command (s := s) rfl
    exact ⟨_, late, deadman, prompt, below, limit, others, sessions, only.frame⟩
  · have running : s.fresh.bays[b].deadman = some t := by rw [freshBay, timer]
    have here : (windowOpensAt b s.fresh).bays[b] = _ := vmod_self ..
    have only : BayOnly b s.fresh (windowOpensAt b s.fresh) := bayOnly_modBay rfl
    obtain ⟨others, sessions⟩ := only.command (s := s) rfl
    refine ⟨_, inService_quiet (f := windowOpensAt b) ready rfl ready.2, ?_, ?_, others, sessions, rfl⟩
    · exact (congrArg Bay.deadman here).trans (congrArg (Option.map _) running)
    · exact (congrArg Bay.violations here).trans (congrArg Bay.violations freshBay :)
  · have bay := pressed_bay b held s
    have press := exec_deadmanPress b held ready
    rw [(window_stopped (by rw [bay, stopped])).1,
      settleCommand_nil _ ((pressed_inbox b held s).trans ready.2)] at press
    obtain ⟨others, sessions, frame⟩ := pressed_leaves b held s (.refl ..)
    rw [pressed_inbox] at frame
    exact ⟨_, press, (congrArg Bay.deadman bay).trans stopped, (congrArg Bay.violations bay :),
      (congrArg Bay.lastPrompt bay :), (congrArg Bay.sent bay :), others, sessions, pressed_selected,
      congrArg State.write frame⟩
  · rw [(window_stopped (s := s.fresh) (by rw [freshBay, stopped])).2.1, settleCommand_nil s.fresh ready.2] at late
    exact late
  · exact inService_quiet ready (window_stopped (s := s.fresh) (by rw [freshBay, stopped])).2.2 ready.2

/-! ### The idle timers (R117, R122) -/

/-- The ATTENTION timer of an open session reaches its time (R122). -/
theorem attentionAt_reached {b : BayNo} {s : State} {t : Timer} (runs : sessionRuns s b = true)
    (timer : s.bays[b].attention = some t) (running : t.elapsed < t.limit) (silent : s.bays[b].sent = []) :
    attentionAt b s = s.modBay b fun x =>
      { x with attention := some ⟨t.limit, t.limit⟩, attentionFlag := true
               lastPrompt := some ⟨.attention, []⟩, sent := [⟨.attention, []⟩] } := by
  have running : isRunning s.bays[b].attention = true := by
    rw [timer]
    exact decide_eq_true running
  rw [attentionAt, runs, running]
  simp only [Bool.and_self, if_true, State.sendShow, State.modBay, vmod_vmod]
  refine congrArg (fun v => { s with bays := v }) (vmod_congr ?_)
  rw [show s.bays[b.val].attention = some t from timer, show s.bays[b.val].sent = [] from silent]
  rfl

/-- Settles O34: the ATTENTION timer, and the ABANDON timer. -/
theorem idleTimersAct : Obligations.IdleTimersAct := by
  intro s b ready runs
  have freshBay : s.fresh.bays[b] = { s.bays[b] with sent := [] } := vmap_get ..
  have running : sessionRuns s.fresh b = true := (sessionRuns_congr (fresh_session b s)).trans runs
  refine ⟨fun t timer before => ?_, fun due => ?_⟩
  · exact inService_quiet ready (attentionAt_reached running ((congrArg Bay.attention freshBay).trans timer) before
      (congrArg Bay.sent freshBay)) ready.2
  · have due : isRunning s.fresh.bays[b].abandon = true := by rw [freshBay]; exact due
    have run : exec (.abandonTimerExpiry b) s = .next (settleCommand (abandonAt b s.fresh)) :=
      inService_ready (abandonAt b) s ready
    rw [abandonAt, if_pos due, endSession_runs running] at run
    have ends := enterEnding_ends b .abandoned s.fresh
    obtain ⟨ending, cause⟩ := ends.ending (sessionRuns_open running)
    obtain ⟨attention, abandon, flag⟩ := ends.timers
    refine ⟨_, run, ending, cause, attention, abandon, flag, ends.prompt, ?_, ends.others, ends.frame⟩
    rw [ends.inbox]
    exact List.mem_append_right _ (List.mem_singleton_self _)

end Sys2Proof.Machine
end

section
/-! Clears (R121, R137, R138): what one clear and a list of clears make of the instances and of the figures they stand for,
and the three sources of a clear (O44). -/

namespace Sys2Proof.Machine

/-! ### What clearing changes -/

/-- What a clear leaves of an `Instance` it reaches. -/
def Instance.cleared (x : Instance) : Instance := { x with state := .normal, timer := none }

/-- From `s` to `t` the instances reached are cleared with the figures that stand for them, and nothing else changes. -/
structure Cleared (reached : InstId → Bool) (s t : State) : Prop where
  insts : ∀ i, t.inst i = if reached i then (s.inst i).cleared else s.inst i
  meters : ∀ a : ArmNo, t.meters[a] = { s.meters[a] with leak := if reached (.leak a) then 0 else s.meters[a].leak }
  injectors : ∀ j : InjNo, t.injectors[j]
    = { s.injectors[j] with leakPulses := if reached (.injLeak j) then 0 else s.injectors[j].leakPulses }
  bays : ∀ b : BayNo, t.bays[b]
    = { s.bays[b] with violations := if reached (.deadman b) then 0 else s.bays[b].violations }
  frame : t = { s with meters := t.meters, injectors := t.injectors, bays := t.bays, sup := t.sup }

theorem Cleared.refl (s : State) : Cleared (fun _ => false) s s :=
  ⟨fun _ => rfl, fun _ => rfl, fun _ => rfl, fun _ => rfl, rfl⟩

/-- Clears add up: a clear of what is cleared already changes nothing. -/
theorem Cleared.trans {p q : InstId → Bool} {s t u : State} (first : Cleared p s t) (second : Cleared q t u) :
    Cleared (fun i => p i || q i) s u where
  insts i := by
    rw [second.insts, first.insts]
    cases p i <;> cases q i <;> rfl
  meters a := by
    rw [second.meters, first.meters]
    cases p (.leak a) <;> cases q (.leak a) <;> rfl
  injectors j := by
    rw [second.injectors, first.injectors]
    cases p (.injLeak j) <;> cases q (.injLeak j) <;> rfl
  bays b := by
    rw [second.bays, first.bays]
    cases p (.deadman b) <;> cases q (.deadman b) <;> rfl
  frame := second.frame.trans (congrArg (fun v : State =>
    { v with meters := u.meters, injectors := u.injectors, bays := u.bays, sup := u.sup }) first.frame)

theorem Cleared.congr {p q : InstId → Bool} {s t : State} (cleared : Cleared p s t) (same : ∀ i, p i = q i) :
    Cleared q s t := funext same ▸ cleared

theorem Cleared.sessions {p : InstId → Bool} {s t : State} (cleared : Cleared p s t) : SessionsSame s t :=
  fun b => (congrArg Bay.session (cleared.bays b) :)

/-! ### One clear -/

section Notice

variable (i : InstId) (s : State)

/-- The owner of a leak volume is told, and no other engine. -/
theorem clearNotice_meters (a : ArmNo) : (clearNotice i s).meters[a]
    = { s.meters[a] with leak := if InstId.leak a = i then 0 else s.meters[a].leak } := by
  cases i with
  | leak x =>
    by_cases here : a = x
    · subst here
      rw [if_pos rfl]
      exact vmod_self ..
    · rw [if_neg fun same => here (InstId.leak.inj same)]
      exact vmod_other _ _ _ _ here
  | _ => rfl

theorem clearNotice_injectors (j : InjNo) : (clearNotice i s).injectors[j]
    = { s.injectors[j] with leakPulses := if InstId.injLeak j = i then 0 else s.injectors[j].leakPulses } := by
  cases i with
  | injLeak x =>
    by_cases here : j = x
    · subst here
      rw [if_pos rfl]
      exact vmod_self ..
    · rw [if_neg fun same => here (InstId.injLeak.inj same)]
      exact vmod_other _ _ _ _ here
  | _ => rfl

theorem clearNotice_bays (b : BayNo) : (clearNotice i s).bays[b]
    = { s.bays[b] with violations := if InstId.deadman b = i then 0 else s.bays[b].violations } := by
  cases i with
  | deadman x =>
    by_cases here : b = x
    · subst here
      rw [if_pos rfl]
      exact vmod_self ..
    · rw [if_neg fun same => here (InstId.deadman.inj same)]
      exact vmod_other _ _ _ _ here
  | _ => rfl

theorem clearNotice_frame : clearNotice i s = { s with
    meters := (clearNotice i s).meters, injectors := (clearNotice i s).injectors, bays := (clearNotice i s).bays } := by
  cases i <;> rfl

end Notice

/-- One of the instances cleared, and the owner of its figures told (R138). -/
theorem instCleared (i : InstId) (s : State) :
    Cleared (fun j => j = i) s (clearNotice i (s.modInst i Instance.cleared)) where
  insts j := by
    rw [clearNotice_frame]
    by_cases here : j = i
    · subst here
      rw [decide_eq_true rfl]
      exact modInst_self j Instance.cleared s
    · rw [decide_eq_false here]
      exact modInst_other i j Instance.cleared s here
  meters a := by
    rw [clearNotice_meters]
    simp only [decide_eq_true_eq, modInst_meters]
  injectors j := by
    rw [clearNotice_injectors]
    simp only [decide_eq_true_eq, modInst_injectors]
  bays b := by
    rw [clearNotice_bays]
    simp only [decide_eq_true_eq, modInst_bays]
  frame := by
    have told := clearNotice_frame i (s.modInst i Instance.cleared)
    have sup : (clearNotice i (s.modInst i Instance.cleared)).sup = (s.modInst i Instance.cleared).sup := by
      rw [told]
    rw [sup]
    exact told

theorem clearOne_cleared (i : InstId) (s : State) :
    Cleared (fun j => j = i && clearable (s.inst i)) s (clearOne s i) := by
  by_cases reached : clearable (s.inst i) = true
  · rw [clearOne, if_pos reached]
    exact (instCleared i s).congr fun j => by rw [reached, Bool.and_true]
  · rw [clearOne, if_neg reached]
    exact (Cleared.refl s).congr fun j => by rw [Bool.eq_false_iff.2 reached, Bool.and_false]

theorem each_clearOne_cleared (l : List InstId) (s : State) :
    Cleared (fun j => l.contains j && clearable (s.inst j)) s (s.each l clearOne) := by
  induction l generalizing s with
  | nil => exact .refl s
  | cons i l ih =>
    refine ((clearOne_cleared i s).trans (ih (clearOne s i))).congr fun j => ?_
    by_cases here : j = i
    · subst here
      by_cases reached : clearable (s.inst j) = true
      · simp [reached]
      · have stays : clearOne s j = s := if_neg reached
        simp [reached, stays]
    · have other : (clearOne s i).inst j = s.inst j := by
        rw [(clearOne_cleared i s).insts, decide_eq_false here]
        rfl
      simp [here, other]

/-! ### A list of clears -/

/-- All 83 stand once in their list. -/
theorem allInsts_nodup : allInsts.Nodup :=
  allInsts_sorted.imp fun before same => by
    subst same
    omega

/-- What a source of a clear makes of the rack: the instances it covers that are LATCHED with their condition absent are
cleared, counted, and those still effective among the covered counted as well (R121, R137). -/
theorem clearAll_covered {l : List InstId} {covers : InstId → Bool} (covered : l = allInsts.filter covers) (s : State) :
    Cleared (fun i => covers i && clearable (s.inst i)) s (clearAll l s).1
      ∧ (clearAll l s).2.1 = allInsts.countP (fun i => covers i && clearable (s.inst i))
      ∧ (clearAll l s).2.2
        = allInsts.countP fun i => covers i && ((clearAll l s).1.inst i).state.effective := by
  subst covered
  refine ⟨(each_clearOne_cleared _ s).congr fun i => ?_, ?_, ?_⟩
  · have mem : (allInsts.filter covers).contains i = covers i := by
      simp [List.contains_eq_mem, mem_allInsts]
    rw [mem]
  · simp only [clearAll, List.countP_filter, Bool.and_comm]
  · simp only [clearAll, List.countP_filter, Bool.and_comm]

/-- What a clear of one of the instances covers. -/
theorem filter_one (i : InstId) : [i] = allInsts.filter fun j => j = i := by
  rw [List.filter_eq, List.count_eq_one_of_mem allInsts_nodup (mem_allInsts i)]
  rfl

/-! ### A command that clears -/

/-- What a command that clears says of its state before and its state after (R137, R138). -/
def ClearsCovered (covers : InstId → Bool) (s t : State) : Prop :=
  (∀ i, t.inst i
      = if covers i && clearable (s.inst i) then { s.inst i with state := .normal, timer := none } else s.inst i)
    ∧ (∀ a : ArmNo, t.meters[a] = { s.meters[a] with
        leak := if covers (.leak a) && clearable (s.inst (.leak a)) then 0 else s.meters[a].leak })
    ∧ (∀ j : InjNo, t.injectors[j] = { s.injectors[j] with
        leakPulses := if covers (.injLeak j) && clearable (s.inst (.injLeak j)) then 0 else s.injectors[j].leakPulses })
    ∧ (∀ b : BayNo, t.bays[b].violations
        = if covers (.deadman b) && clearable (s.inst (.deadman b)) then 0 else s.bays[b].violations)
    ∧ SessionsSame s t

/-- Two states agree in the instances, the figures a clear reaches, and the sessions. -/
structure SameFigures (s t : State) : Prop where
  sup : t.sup = s.sup
  meters : t.meters = s.meters
  injectors : t.injectors = s.injectors
  violations : ∀ b : BayNo, t.bays[b].violations = s.bays[b].violations
  sessions : SessionsSame s t

theorem SameFigures.write {s t : State} (same : SameFigures s t) : SameFigures s t.write :=
  ⟨same.sup, same.meters, same.injectors, same.violations, same.sessions⟩

/-- What comes before and after the clear itself leaves the figures alone. -/
theorem Cleared.command {covers : InstId → Bool} {s s' u t : State}
    (cleared : Cleared (fun i => covers i && clearable (s'.inst i)) s' u) (before : SameFigures s s')
    (after : SameFigures u t) : ClearsCovered covers s t := by
  have insts : ∀ i, s'.inst i = s.inst i := fun i => congrArg (fun v : Vector Instance 83 => v[i.slot]) before.sup
  obtain ⟨sup, meters, injectors, bays, -⟩ := id cleared
  simp only [insts, before.meters, before.injectors] at sup meters injectors bays
  refine ⟨fun i => ?_, fun a => ?_, fun j => ?_, fun b => ?_, fun b => ?_⟩
  · exact (congrArg (fun v : Vector Instance 83 => v[i.slot]) after.sup).trans (sup i)
  · rw [after.meters]
    exact meters a
  · rw [after.injectors]
    exact injectors j
  · rw [after.violations, bays b, before.violations]
  · exact (after.sessions b).trans ((cleared.sessions b).trans (before.sessions b))

/-- A command begins with the figures as they were. -/
theorem sameFigures_of_fresh {s t : State} (sup : t.sup = s.sup) (meters : t.meters = s.meters)
    (injectors : t.injectors = s.injectors) (bays : t.bays = s.fresh.bays) : SameFigures s t where
  sup := sup
  meters := meters
  injectors := injectors
  violations b := (congrArg (fun v : Vector Bay 4 => v[b].violations) bays).trans (congrArg Bay.violations (vmap_get ..) :)
  sessions b := (congrArg (fun v : Vector Bay 4 => v[b].session) bays).trans (fresh_session b s)

/-- A turn of the RACK RESET key outside TRIPPED clears all 83 instances (R138). -/
theorem rackReset_clears {s : State} (ready : Ready s) (mode : s.mode ≠ .tripped) (held : Bool) :
    ∃ t, exec (.rackReset held) s = .next t ∧ ClearsCovered (fun _ => true) s t
      ∧ t = ({ s.fresh with
          pins := { s.pins with resetKey := held }
          meters := t.meters, injectors := t.injectors, bays := t.bays, sup := t.sup } : State).write := by
  have run : exec (.rackReset held) s = .next (settleCommand (rackResetAt (setResetPin held s.fresh))) :=
    onPin_ready (setResetPin held) rackResetAt s ready
  obtain ⟨cleared, -, -⟩ := clearAll_covered (l := allInsts) (covers := fun _ => true)
    (List.filter_true _).symm (setResetPin held s.fresh)
  have frame := cleared.frame
  have untripped : rackResetAt (setResetPin held s.fresh) = (clearAll allInsts (setResetPin held s.fresh)).1 := by
    have mode : ¬(clearAll allInsts (setResetPin held s.fresh)).1.mode = .tripped := by
      rw [frame]
      exact mode
    simp only [rackResetAt, mode, if_false]
  rw [untripped] at run
  generalize (clearAll allInsts (setResetPin held s.fresh)).1 = u at *
  have quiet : u.inbox = [] := (congrArg State.inbox frame :).trans ready.2
  rw [settleCommand_nil u quiet] at run
  have before : SameFigures s (setResetPin held s.fresh) := sameFigures_of_fresh rfl rfl rfl rfl
  exact ⟨_, run, cleared.command before ⟨rfl, rfl, rfl, fun _ => rfl, fun _ => rfl⟩, congrArg State.write frame⟩

/-- The instances a bay's RESET key covers: the bay's own and its arms' (R121). -/
def resetCovers (s : State) (b : BayNo) (i : InstId) : Bool :=
  match i.scope with
  | .bay x => x = b
  | .arm a => (s.armCfg a).bay = some b
  | _ => false

theorem resetScope_eq (s : State) (b : BayNo) : resetScope s b = allInsts.filter (resetCovers s b) := by
  refine List.filter_congr fun i _ => ?_
  unfold resetCovers
  cases i.scope with
  | bay x => exact decide_eq_decide.2 eq_comm
  | arm a => rfl
  | rack => rfl
  | inj j => rfl

theorem keyed_figures (b : BayNo) (s : State) : SameFigures s (keyed b s) := by
  have violations : ∀ x : BayNo, (keyed b s).bays[x].violations = s.bays[x].violations := fun x => by
    by_cases here : x = b
    · rw [here, keyed_bay]
    · exact (congrArg Bay.violations ((keyed_bay_other s here).trans (vmap_get ..)) :)
  have sessions : SessionsSame s (keyed b s) := fun x => (activity_sessions s.fresh b .key x).trans (fresh_session x s)
  have frame := keyed_frame b s
  exact ⟨(congrArg State.sup frame :), (congrArg State.meters frame :), (congrArg State.injectors frame :),
    violations, sessions⟩

theorem sendShow_figures (b : BayNo) (p : Prompt) (l : List Nat) (s : State) : SameFigures s (s.sendShow b p l) := by
  have kept (x : BayNo) : (s.sendShow b p l).bays[x]
      = if x = b then { s.bays[x] with lastPrompt := some ⟨p, l⟩, sent := s.bays[x].sent ++ [⟨p, l⟩] }
        else s.bays[x] := vmod_get ..
  refine ⟨rfl, rfl, rfl, fun x => ?_, fun x => ?_⟩
  · rw [kept]
    split <;> rfl
  · rw [State.session, kept]
    split <;> rfl

/-- The RESET key of a bay (R121): its own instances and its arms', the numbers shown. -/
theorem resetKey_clears {s : State} (ready : Ready s) (b : BayNo) :
    ∃ t, exec (.resetKey b) s = .next t ∧ ClearsCovered (resetCovers s b) s t
      ∧ t.bays[b].lastPrompt = some ⟨.cleared, [allInsts.countP fun i => resetCovers s b i && clearable (s.inst i),
        allInsts.countP fun i => resetCovers s b i && (t.inst i).state.effective]⟩
      ∧ t = ({ s.fresh with meters := t.meters, bays := t.bays, sup := t.sup } : State).write := by
  have run : exec (.resetKey b) s = .next (settleCommand (resetKeyAt b (keyed b s))) :=
    inService_ready (withKey b (resetKeyAt b)) s ready
  have key := keyed_frame b s
  have scope : resetScope (keyed b s) b = allInsts.filter (resetCovers s b) := by
    rw [resetScope_eq, key]
    rfl
  obtain ⟨cleared, count, left⟩ := clearAll_covered scope (keyed b s)
  have figures := keyed_figures b s
  have insts : ∀ i, (keyed b s).inst i = s.inst i := fun i =>
    congrArg (fun v : Vector Instance 83 => v[i.slot]) figures.sup
  simp only [insts] at count
  rw [resetKeyAt] at run
  simp only [count] at run
  generalize clearAll (resetScope (keyed b s) b) (keyed b s) = r at *
  have injectors : r.1.injectors = s.injectors := vec_ext _ _ fun j => by
    have untouched := cleared.injectors j
    rw [figures.injectors] at untouched
    exact untouched
  have frame : r.1 = { s.fresh with meters := r.1.meters, bays := r.1.bays, sup := r.1.sup } := by
    have frame := cleared.frame
    rw [injectors, key] at frame
    exact frame
  have quiet : r.1.inbox = [] := (congrArg State.inbox frame :).trans ready.2
  rw [left, settleCommand_nil (State.sendShow _ b .cleared _) quiet] at run
  exact ⟨_, run, cleared.command figures (sendShow_figures ..).write, (congrArg Bay.lastPrompt (vmod_self ..) :),
    congrArg (fun v : State => ({ v with bays := (r.1.sendShow b .cleared _).bays } : State).write) frame⟩

/-! ### SUPERVISION CLEAR (R137, R184) -/

section Bytes

variable (kind unit : Byte)

/-- Scope 1 names one of the instances by kind code and unit number. -/
theorem parseClear_one : parseClear [1, kind, unit] = (instOf kind.toNat unit.toNat).map .one :=
  congrArg₂ (fun k n => (instOf k n).map ClearScope.one) (fld_cons_head kind [unit]) (fld_cons_head unit [])

theorem parseClear_bay : parseClear [3, 0, unit] = (unitOf 4 unit.toNat).map fun b => .unit (.bay b) :=
  congrArg (fun n => (unitOf 4 n).map fun b => ClearScope.unit (.bay b)) (fld_cons_head unit [])

theorem parseClear_arm : parseClear [4, 0, unit] = (unitOf 8 unit.toNat).map fun a => .unit (.arm a) :=
  congrArg (fun n => (unitOf 8 n).map fun a => ClearScope.unit (.arm a)) (fld_cons_head unit [])

theorem parseClear_inj : parseClear [5, 0, unit] = (unitOf 6 unit.toNat).map fun j => .unit (.inj j) :=
  congrArg (fun n => (unitOf 6 n).map fun j => ClearScope.unit (.inj j)) (fld_cons_head unit [])

end Bytes

/-- A unit number is one byte. -/
theorem unitByte_toNat {n : Nat} (few : n < 256) (i : Fin n) : (BitVec.ofNat 8 (unitNo i)).toNat = unitNo i := by
  have := i.isLt
  rw [BitVec.toNat_ofNat, unitNo]
  omega

/-- Kind code and unit number are read back (R127). -/
theorem instOf_kind_unit (i : InstId) : instOf (i.kind.val + 1) i.unit = some i := by
  cases i with
  | estop => rfl
  | _ => exact congrArg (Option.map _) (unitOf_unitNo _)

/-- Outside 1..14 there is no kind (R137). -/
theorem instOf_none {k : Nat} (unit : Nat) (outside : k = 0 ∨ 14 < k) : instOf k unit = none := by
  obtain rfl | ⟨m, rfl⟩ : k = 0 ∨ ∃ m, k = m + 15 := outside.imp id fun above => ⟨k - 15, by omega⟩
  · rfl
  · rfl

theorem instUnit_lt (i : InstId) : i.unit < 256 := by
  cases i <;> simp only [InstId.unit, unitNo] <;> omega

theorem parseClear_inst (i : InstId) :
    parseClear [1, BitVec.ofNat 8 (i.kind.val + 1), BitVec.ofNat 8 i.unit] = some (.one i) := by
  have kind : (BitVec.ofNat 8 (i.kind.val + 1)).toNat = i.kind.val + 1 := by
    rw [BitVec.toNat_ofNat]
    omega
  have unit : (BitVec.ofNat 8 i.unit).toNat = i.unit := (BitVec.toNat_ofNat ..).trans (Nat.mod_eq_of_lt (instUnit_lt i))
  rw [parseClear_one, kind, unit, instOf_kind_unit]
  rfl

/-- What a SUPERVISION CLEAR of a scope does and answers. -/
theorem supervisionClear_clears {s : State} {body : List Byte} {x : ClearScope} {covers : InstId → Bool}
    (taken : Taken 0x70 s) (parsed : parseClear body = some x) (covered : x.insts = allInsts.filter covers)
    (open_ : ∀ i, x = .one i → holdsOut (s.inst i) = false) :
    ∃ t, exec (.supervisionClear body) s = .next t ∧ ClearsCovered covers s t
      ∧ t.line.reply = bytesReply 0x70 .ok (be 1 (allInsts.countP fun i => covers i && clearable (s.inst i))
          ++ be 1 (allInsts.countP fun i => covers i && (t.inst i).state.effective))
      ∧ t = ({ heard s with
          line := t.line, meters := t.meters, injectors := t.injectors, bays := t.bays, sup := t.sup } : State).write := by
  obtain ⟨cleared, count, left⟩ := clearAll_covered covered (heard s)
  have owner : clearOwner body (heard s)
      = (clearAll x.insts (heard s)).1.okBytes (be 1 (clearAll x.insts (heard s)).2.1
          ++ be 1 (clearAll x.insts (heard s)).2.2) := by
    cases x with
    | one i =>
      have open_ : holdsOut ((heard s).inst i) = false := open_ i rfl
      simp only [clearOwner, parsed, open_, Bool.false_eq_true, if_false]
    | unit | all => simp only [clearOwner, parsed, Bool.false_eq_true, if_false]
  rw [count, left] at owner
  have frame := cleared.frame
  generalize (clearAll x.insts (heard s)).1 = u at *
  have quiet : u.inbox = [] := (congrArg State.inbox frame :).trans taken.1.2
  have before : SameFigures s (heard s) := sameFigures_of_fresh rfl rfl rfl rfl
  have sent (x : Answer) : sendReply 0x70 x u = { heard s with
      line := (sendReply 0x70 x u).line, meters := u.meters, injectors := u.injectors, bays := u.bays, sup := u.sup } :=
    congrArg (fun v : State => { v with line := (sendReply 0x70 x u).line }) frame
  exact ⟨_, request_quiet 0x70 (clearOwner body) s u _ taken owner quiet,
    cleared.command before ⟨rfl, rfl, rfl, fun _ => rfl, fun _ => rfl⟩, rfl, congrArg State.write (sent _)⟩

/-- One of the instances, named while it is ACTIVE or LATCHED with its condition present, is left (R137). -/
theorem supervisionClear_condition {s : State} {body : List Byte} {i : InstId} (taken : Taken 0x70 s)
    (parsed : parseClear body = some (.one i)) (held : holdsOut (s.inst i) = true) :
    exec (.supervisionClear body) s = .next (sendReply 0x70 (.condition, .bytes []) (heard s)).write := by
  have held : holdsOut ((heard s).inst i) = true := held
  refine request_quiet 0x70 (clearOwner body) s (heard s) _ taken ?_ taken.1.2
  simp only [clearOwner, parsed, held, if_true]
  rfl

theorem supervisionClear_format {s : State} {body : List Byte} (taken : Taken 0x70 s) (parsed : parseClear body = none) :
    exec (.supervisionClear body) s = .next (sendReply 0x70 (.format, .bytes []) (heard s)).write := by
  refine request_quiet 0x70 (clearOwner body) s (heard s) _ taken ?_ taken.1.2
  simp only [clearOwner, parsed]
  rfl

/-- Settles O44: the RACK RESET key, a bay's RESET key, and the scopes and refusals of SUPERVISION CLEAR. -/
theorem clearsReachLatchedInstances : Obligations.ClearsReachLatchedInstances := by
  intro s
  refine ⟨fun ready mode held => rackReset_clears ready mode held, fun b ready => ?_, fun taken => ?_⟩
  · obtain ⟨t, run, cleared, prompt, frame⟩ := resetKey_clears ready b
    exact ⟨t, run, ⟨cleared, prompt⟩, frame⟩
  · have all {x : Scope} : ∀ i, ClearScope.unit x = .one i → holdsOut (s.inst i) = false := fun _ same => nomatch same
    refine ⟨?_, ?_, fun b => ?_, fun a => ?_, fun j => ?_, fun i => ⟨fun free => ?_, fun held => ?_⟩,
      fun kind unit outside => ?_⟩
    · exact supervisionClear_clears taken (x := .all) rfl (List.filter_true _).symm fun _ same => nomatch same
    · exact supervisionClear_clears taken (x := .unit .rack) rfl rfl all
    · refine supervisionClear_clears taken (x := .unit (.bay b)) ?_ rfl all
      rw [parseClear_bay, unitByte_toNat (by decide), unitOf_unitNo]
      rfl
    · refine supervisionClear_clears taken (x := .unit (.arm a)) ?_ rfl all
      rw [parseClear_arm, unitByte_toNat (by decide), unitOf_unitNo]
      rfl
    · refine supervisionClear_clears taken (x := .unit (.inj j)) ?_ rfl all
      rw [parseClear_inj, unitByte_toNat (by decide), unitOf_unitNo]
      rfl
    · refine supervisionClear_clears taken (parseClear_inst i) (filter_one i) fun x same => ?_
      cases same
      exact free
    · exact supervisionClear_condition taken (parseClear_inst i) held
    · refine supervisionClear_format taken ?_
      rw [parseClear_one, instOf_none unit.toNat (outside.imp (congrArg BitVec.toNat) id)]
      rfl

end Sys2Proof.Machine
end

section
/-! The records on a bay's terminal line (R107, R181): fields written back from their bytes, the framing of a record, and the
bytes that are a CARD or a KEY (O37). -/

namespace Sys2Proof.Machine

/-! ### Fields written back -/

theorem beNat_lt (l : List Byte) : beNat l < 256 ^ l.length := by
  induction l with
  | nil => exact Nat.one_pos
  | cons x l ih =>
    have cons : beNat (x :: l) = (0 * 256 + x.toNat) * 256 ^ l.length + beNat l := foldl_beNat l _
    have byte := x.isLt
    rw [cons, List.length_cons, pow_succ]
    nlinarith

/-- A field's bytes are those of the number's low part. -/
theorem digits_add_mul (w c n : Nat) : digits w (c * 256 ^ w + n) = digits w n := by
  induction w generalizing c with
  | zero => rfl
  | succ w ih =>
    have high : (c * 256 ^ (w + 1) + n) / 256 ^ w = c * 256 + n / 256 ^ w := by
      rw [pow_succ, ← mul_assoc, mul_right_comm, Nat.add_comm, Nat.add_mul_div_right _ _ (by positivity), Nat.add_comm]
    have byte : BitVec.ofNat 8 (c * 256 + n / 256 ^ w) = BitVec.ofNat 8 (n / 256 ^ w) := by
      apply BitVec.eq_of_toNat_eq
      simp only [BitVec.toNat_ofNat]
      omega
    have low : c * 256 ^ (w + 1) = c * 256 * 256 ^ w := by ring
    rw [digits, digits, high, byte, low, ih]

/-- The bytes of the number a byte string spells are that string. -/
theorem be_beNat (l : List Byte) : be l.length (beNat l) = l := by
  rw [be, if_pos (beNat_lt l)]
  induction l with
  | nil => rfl
  | cons x l ih =>
    have cons : beNat (x :: l) = x.toNat * 256 ^ l.length + beNat l := by
      have spelled : beNat (x :: l) = (0 * 256 + x.toNat) * 256 ^ l.length + beNat l := foldl_beNat l _
      rwa [Nat.zero_mul, Nat.zero_add] at spelled
    have head : (x.toNat * 256 ^ l.length + beNat l) / 256 ^ l.length = x.toNat := by
      rw [Nat.add_comm, Nat.add_mul_div_right _ _ (by positivity), Nat.div_eq_of_lt (beNat_lt l), Nat.zero_add]
    rw [cons, List.length_cons, digits, head, digits_add_mul, ih, BitVec.ofNat_toNat, BitVec.setWidth_eq]

/-- A field within a body, written back. -/
theorem be_fld {l : List Byte} {off w : Nat} (within : off + w ≤ l.length) :
    be w (fld l off w) = (l.drop off).take w := by
  have length : ((l.drop off).take w).length = w := by
    rw [List.length_take, List.length_drop]
    omega
  have spelled := be_beNat ((l.drop off).take w)
  rwa [length] at spelled

theorem fld_lt (l : List Byte) (off w : Nat) : fld l off w < 256 ^ w :=
  (beNat_lt _).trans_le (Nat.pow_le_pow_right (by decide) (List.length_take_le ..))

/-! ### The framing of a record (R181) -/

/-- What the check of a record covers: length, kind, body. -/
def recordCovered (kind : Nat) (body : List Byte) : List Byte := be 2 body.length ++ be 1 kind ++ body

/-- A record after its start byte. -/
theorem bayRecord_drop (kind : Nat) (body : List Byte) : (bayRecord kind body).drop 1
    = recordCovered kind body ++ be 2 (crc16 (recordCovered kind body)).toNat := by
  have start : (be 1 0xC3).length = 1 := be_length ..
  rw [bayRecord, List.append_assoc, List.drop_append, start, List.drop_eq_nil_of_le (by rw [start])]
  rfl

section Record

variable {kind : Nat} {body : List Byte}

theorem recordCovered_length (kind : Nat) (body : List Byte) : (recordCovered kind body).length = body.length + 3 := by
  simp only [recordCovered, List.length_append, be_length]
  omega

/-- A record's length field. -/
theorem record_length (bodyFits : body.length < 65536) :
    fld ((bayRecord kind body).drop 1) 0 2 = body.length := by
  rw [bayRecord_drop, recordCovered, List.append_assoc, List.append_assoc, fld_be_append 2 _ _ bodyFits]

/-- A record's kind. -/
theorem record_kind (kindFits : kind < 256) : fld ((bayRecord kind body).drop 1) 2 1 = kind := by
  rw [bayRecord_drop, recordCovered, List.append_assoc, List.append_assoc]
  exact (fld_be_skip 2 _ _ 0 1).trans (fld_be_append 1 _ _ kindFits)

/-- A field of a record's body. -/
theorem record_body (off w : Nat) : fld ((bayRecord kind body).drop 1) (3 + off) w
    = fld (body ++ be 2 (crc16 (recordCovered kind body)).toNat) off w := by
  have skip := fld_append (be 2 body.length ++ be 1 kind) (body ++ be 2 (crc16 (recordCovered kind body)).toNat) off w
  rw [List.length_append, be_length, be_length] at skip
  rw [bayRecord_drop, ← skip]
  simp only [recordCovered, List.append_assoc]

/-- A record has the framing and the check of one (R181). -/
theorem record_good (bodyFits : body.length < 65536) : bayFrameGood ((bayRecord kind body).drop 1) = true := by
  have length : ((bayRecord kind body).drop 1).length = body.length + 5 := by
    rw [bayRecord_drop, List.length_append, be_length, recordCovered_length]
  have covered : ((bayRecord kind body).drop 1).take (body.length + 3) = recordCovered kind body := by
    rw [bayRecord_drop, ← recordCovered_length kind body, List.take_left]
  have check : fld ((bayRecord kind body).drop 1) (body.length + 3) 2 = (crc16 (recordCovered kind body)).toNat := by
    have skip := fld_append (recordCovered kind body) (be 2 (crc16 (recordCovered kind body)).toNat) 0 2
    rw [Nat.add_zero, recordCovered_length] at skip
    rw [bayRecord_drop, skip, fld_be 2 _ (crc16 _).isLt]
  have before : body.length + 5 - 2 = body.length + 3 := rfl
  rw [bayFrameGood, record_length bodyFits, length, before, covered, check]
  simp only [decide_true, Bool.and_self]

end Record

/-- A well framed record is the one of its kind and body. -/
theorem record_of_good {f : List Byte} (good : bayFrameGood f = true) :
    f = (bayRecord (fld f 2 1) ((f.drop 3).take (fld f 0 2))).drop 1 := by
  obtain ⟨length, check⟩ := Bool.and_eq_true_iff.1 good
  have length : f.length = fld f 0 2 + 5 := of_decide_eq_true length
  have check : (crc16 (f.take (f.length - 2))).toNat = fld f (f.length - 2) 2 := of_decide_eq_true check
  have bodyLength : ((f.drop 3).take (fld f 0 2)).length = fld f 0 2 := by
    rw [List.length_take, List.length_drop]
    omega
  have covered : recordCovered (fld f 2 1) ((f.drop 3).take (fld f 0 2)) = f.take (f.length - 2) := by
    have bytes : f.length - 2 = 2 + 1 + fld f 0 2 := by omega
    rw [recordCovered, bodyLength, be_fld (by omega), be_fld (by omega), List.drop_zero, bytes, List.take_add,
      List.take_add]
  have last : be 2 (fld f (f.length - 2) 2) = f.drop (f.length - 2) := by
    rw [be_fld (by omega), List.take_of_length_le]
    rw [List.length_drop]
    omega
  rw [bayRecord_drop, covered, check, last, List.take_append_drop]

/-! ### The keys (R107) -/

/-- The keys with their codes and arguments. -/
inductive KeyOf (b : BayNo) : Nat → Nat → Nat → Instr → Prop
  | select (c : CompNo) (a : ArmNo) : KeyOf b 1 (unitNo c) (unitNo a) (.select b c a)
  | start (a : ArmNo) : KeyOf b 2 (unitNo a) 0 (.start b a)
  | stop (a : ArmNo) : KeyOf b 3 (unitNo a) 0 (.stop b a)
  | resume (a : ArmNo) : KeyOf b 4 (unitNo a) 0 (.resume b a)
  | finish (a : ArmNo) : KeyOf b 5 (unitNo a) 0 (.finish b a)
  | endKey : KeyOf b 6 0 0 (.endKey b)
  | resetKey : KeyOf b 7 0 0 (.resetKey b)

theorem unitOf_eq_some {n k : Nat} {i : Fin n} (found : unitOf n k = some i) : k = unitNo i := by
  unfold unitOf at found
  split at found
  · next within =>
    obtain rfl := Option.some.inj found
    simp only [unitNo]
    omega
  · cases found

theorem armKey_eq_some {key : ArmNo → Instr} {x y : Nat} {c : Instr} (found : armKey key x y = some c) :
    ∃ a : ArmNo, x = unitNo a ∧ y = 0 ∧ c = key a := by
  unfold armKey at found
  split at found
  · next zero =>
    obtain ⟨a, unit, rfl⟩ := Option.map_eq_some_iff.1 found
    exact ⟨a, unitOf_eq_some unit, zero, rfl⟩
  · cases found

theorem plainKey_eq_some {key : Instr} {x y : Nat} {c : Instr} (found : plainKey key x y = some c) :
    x = 0 ∧ y = 0 ∧ c = key := by
  unfold plainKey at found
  split at found
  · next zero => exact ⟨zero.1, zero.2, (Option.some.inj found).symm⟩
  · cases found

/-- The keys read are the keys there are. -/
theorem keyCommand_iff {b : BayNo} {code x y : Nat} {c : Instr} : keyCommand b code x y = some c ↔ KeyOf b code x y c := by
  constructor
  · intro found
    unfold keyCommand at found
    split at found
    · obtain ⟨k, comp, found⟩ := Option.bind_eq_some_iff.1 found
      obtain ⟨a, arm, rfl⟩ := Option.map_eq_some_iff.1 found
      rw [unitOf_eq_some comp, unitOf_eq_some arm]
      exact .select k a
    · obtain ⟨a, rfl, rfl, rfl⟩ := armKey_eq_some found
      exact .start a
    · obtain ⟨a, rfl, rfl, rfl⟩ := armKey_eq_some found
      exact .stop a
    · obtain ⟨a, rfl, rfl, rfl⟩ := armKey_eq_some found
      exact .resume a
    · obtain ⟨a, rfl, rfl, rfl⟩ := armKey_eq_some found
      exact .finish a
    · obtain ⟨rfl, rfl, rfl⟩ := plainKey_eq_some found
      exact .endKey
    · obtain ⟨rfl, rfl, rfl⟩ := plainKey_eq_some found
      exact .resetKey
    · cases found
  · intro key
    cases key <;> simp [keyCommand, armKey, plainKey]

/-- The arguments of a key are unit numbers or 0. -/
theorem KeyOf.small {b : BayNo} {code x y : Nat} {c : Instr} (key : KeyOf b code x y c) :
    code < 256 ∧ x < 256 ∧ y < 256 := by
  cases key with
  | endKey | resetKey => decide
  | select | start | stop | resume | finish =>
    simp only [unitNo]
    omega

/-! ### The records of a bay (R107, R181) -/

/-- A CARD is taken with its token. -/
theorem bayCommand_card (b : BayNo) (token : BitVec 64) :
    bayCommand b ((bayRecord 1 (be 8 token.toNat)).drop 1) = some (.card b token) := by
  have fits : (be 8 token.toNat).length < 65536 := by
    rw [be_length]
    decide
  have field : fld ((bayRecord 1 (be 8 token.toNat)).drop 1) 3 8 = token.toNat :=
    (record_body 0 8).trans (fld_be_append 8 _ _ token.isLt)
  rw [bayCommand, if_pos (record_good fits), record_kind (by decide), record_length fits, field, be_length,
    BitVec.ofNat_toNat, BitVec.setWidth_eq]
  rfl

/-- The bytes of a KEY after its start byte: code and two arguments. -/
def keyRecord (code x y : Nat) : List Byte := (bayRecord 2 (be 1 code ++ be 1 x ++ be 1 y)).drop 1

/-- A KEY record is read as the key of its code and arguments. -/
theorem bayCommand_key (b : BayNo) {code x y : Nat} (codeFits : code < 256) (xFits : x < 256) (yFits : y < 256) :
    bayCommand b (keyRecord code x y) = keyCommand b code x y := by
  have length : (be 1 code ++ be 1 x ++ be 1 y).length = 3 := by
    simp only [List.length_append, be_length]
  have fits : (be 1 code ++ be 1 x ++ be 1 y).length < 65536 := by
    rw [length]
    decide
  have first : fld (keyRecord code x y) 3 1 = code := by
    refine (record_body 0 1).trans ?_
    rw [List.append_assoc, List.append_assoc]
    exact fld_be_append 1 _ _ codeFits
  have second : fld (keyRecord code x y) 4 1 = x := by
    refine (record_body 1 1).trans ?_
    rw [List.append_assoc, List.append_assoc]
    exact (fld_be_skip 1 _ _ 0 1).trans (fld_be_append 1 _ _ xFits)
  have third : fld (keyRecord code x y) 5 1 = y := by
    refine (record_body 2 1).trans ?_
    rw [List.append_assoc, List.append_assoc]
    exact (fld_be_skip 1 _ _ 1 1).trans ((fld_be_skip 1 _ _ 0 1).trans (fld_be_append 1 _ _ yFits))
  have good : bayFrameGood (keyRecord code x y) = true := record_good fits
  have kind : fld (keyRecord code x y) 2 1 = 2 := record_kind (by decide)
  have size : fld (keyRecord code x y) 0 2 = 3 := (record_length fits).trans length
  rw [bayCommand, if_pos good, kind, size, first, second, third]
  rfl

/-- The bytes that are taken: a CARD with its token, or a KEY with its code and arguments. -/
theorem bayCommand_cases {b : BayNo} {f : List Byte} {c : Instr} (found : bayCommand b f = some c) :
    (∃ token : BitVec 64, f = (bayRecord 1 (be 8 token.toNat)).drop 1 ∧ c = .card b token)
      ∨ ∃ code x y, f = keyRecord code x y ∧ KeyOf b code x y c := by
  unfold bayCommand at found
  split at found
  · next good =>
    have whole := record_of_good good
    have length : f.length = fld f 0 2 + 5 := of_decide_eq_true (Bool.and_eq_true_iff.1 good).1
    split at found
    · next kind =>
      split at found
      · next size =>
        obtain rfl := Option.some.inj found
        refine .inl ⟨_, ?_, rfl⟩
        have fits : fld f 3 8 < 2 ^ 64 := fld_lt f 3 8
        rw [BitVec.toNat_ofNat, Nat.mod_eq_of_lt fits, be_fld (by omega)]
        rwa [kind, size] at whole
      · cases found
    · next kind =>
      split at found
      · next size =>
        refine .inr ⟨_, _, _, ?_, keyCommand_iff.1 found⟩
        have body : (f.drop 3).take 3 = be 1 (fld f 3 1) ++ be 1 (fld f 4 1) ++ be 1 (fld f 5 1) := by
          rw [be_fld (by omega), be_fld (by omega), be_fld (by omega), show 3 = 1 + 1 + 1 from rfl, List.take_add,
            List.take_add, List.drop_drop, List.drop_drop]
        rw [kind, size, body] at whole
        exact whole
      · cases found
    · cases found
  · cases found

end Sys2Proof.Machine
end

section
/-! The card (R108 to R110): its checks in order, the three requests of a card whose checks have passed, and the session
that opens. With them O36 and O37. -/

namespace Sys2Proof.Machine

/-! ### The checks (R108) -/

section Checks

variable {s : State} {b : BayNo} {token : BitVec 64}

theorem cardBayCheck_fresh (s : State) (b : BayNo) : cardBayCheck s.fresh b = cardBayCheck s b := by
  rw [cardBayCheck, fresh_session]
  rfl

/-- The first check passes at a VACANT bay alone. -/
theorem vacant_of_cardBayCheck (passes : cardBayCheck s b = none) : s.session b = none := by
  cases session : s.session b with
  | none => rfl
  | some x => simp [cardBayCheck, session] at passes

theorem exec_card (ready : Ready s) : exec (.card b token) s = .next (settleCommand (cardAt b token s.fresh)) :=
  inService_ready (cardAt b token) s ready

/-- A card at a bay with a session (R108). -/
theorem cardAt_busy (open_ : (s.session b).isSome = true) :
    cardAt b token s = (activity b .card s).sendShow b .bayBusy [] := by
  have open_ : ((activity b .card s).session b).isSome = true := by
    rw [activity_sessions s b .card b]
    exact open_
  simp only [cardAt, cardBayCheck, open_, if_true]

/-- At a VACANT bay a card is no activity. -/
theorem activity_vacant {k : Activity} (vacant : s.session b = none) : activity b k s = s :=
  activity_stands (sessionRuns_vacant vacant)

theorem cardAt_refusedAtBay {prompt : Prompt} (vacant : s.session b = none) (refused : cardBayCheck s b = some prompt) :
    cardAt b token s = s.sendShow b prompt [] := by
  simp only [cardAt, activity_vacant vacant, refused]

variable (passes : cardBayCheck s b = none)
include passes

theorem cardAt_unknown (unknown : findToken s.permits token = none) :
    cardAt b token s = s.sendShow b .cardUnknown [] := by
  simp only [cardAt, activity_vacant (vacant_of_cardBayCheck passes), passes, unknown]

theorem cardAt_refusedPermit {p : Permit} {prompt : Prompt} (found : findToken s.permits token = some p)
    (refused : cardPermitCheck s b p = some prompt) : cardAt b token s = s.sendShow b prompt [] := by
  simp only [cardAt, activity_vacant (vacant_of_cardBayCheck passes), passes, found, refused]

theorem cardAt_passed {p : Permit} (found : findToken s.permits token = some p) (accepted : cardPermitCheck s b p = none) :
    cardAt b token s = cardRequests b p s := by
  simp only [cardAt, activity_vacant (vacant_of_cardBayCheck passes), passes, found, accepted]

end Checks

/-- A permit whose checks pass is ACTIVE and has no open session (R108). -/
theorem cardPermitCheck_passes {s : State} {b : BayNo} {p : Permit} (passes : cardPermitCheck s b p = none) :
    p.state = .active ∧ p.openSession = none := by
  unfold cardPermitCheck at passes
  split_ifs at passes with suspended unknown expired away busy
  exact ⟨not_not.1 suspended, Option.not_isSome_iff_eq_none.1 busy⟩

/-! ### The three requests (R93, R99, R109, R147) -/

/-- The permit opened for the bay. -/
def permitOpened (b : BayNo) (n : Nat) (s : State) : State :=
  { s with permits := modPermit s.permits n fun p => { p with openSession := some b } }

/-- The order ACTIVE at the bay. -/
def orderTaken (b : BayNo) (n : Nat) (s : State) : State :=
  { s with orders := s.orders.map fun y => if y.number = n then { y with active := true, sessionBay := some b } else y }

theorem takeOrder_some {s : State} {b : BayNo} {p : Permit} {o : Order}
    (order : oldestUsable s p.number b p.productMask = some o) :
    takeOrder p.number b p.productMask (permitOpened b p.number s)
      = (orderTaken b o.number (permitOpened b p.number s), some o) := by
  have order : oldestUsable (permitOpened b p.number s) p.number b p.productMask = some o := order
  simp only [takeOrder, order]
  rfl

section Requests

variable {s : State} {b : BayNo} {p : Permit} (found : findPermit s.permits p.number = some p)
  (passes : cardPermitCheck s b p = none)
include found passes

theorem openRequest_ok : openRequest p.number b s = (permitOpened b p.number s, .ok) := by
  obtain ⟨active, free⟩ := cardPermitCheck_passes passes
  simp only [openRequest, found, active, free, ne_eq, not_true_eq_false, if_false, Option.isSome_none,
    Bool.false_eq_true]
  rfl

/-- No usable order: the permit is closed again and NO_ORDER shown. -/
theorem cardRequests_noOrder (none_ : oldestUsable s p.number b p.productMask = none) : cardRequests b p s
    = (closeRequest p.number b (permitOpened b p.number s)).1.sendShow b .noOrder [] := by
  have none_ : oldestUsable (permitOpened b p.number s) p.number b p.productMask = none := none_
  simp only [cardRequests, openRequest_ok found passes, takeOrder, none_]

variable {o : Order} (order : oldestUsable s p.number b p.productMask = some o)
include order

/-- No free slot: order and permit are given back and NOTES_FULL shown. -/
theorem cardRequests_notesFull (full : s.notes.free = 0) : cardRequests b p s
    = (closeRequest p.number b (returnOrder o.number (orderTaken b o.number (permitOpened b p.number s)))).1.sendShow b
        .notesFull [] := by
  have slot : s.notes.reserve = none := if_neg (by omega)
  simp only [cardRequests, openRequest_ok found passes, takeOrder_some order]
  rw [show (orderTaken b o.number (permitOpened b p.number s)).notes.reserve = none from slot]

theorem cardRequests_opens (free : 0 < s.notes.free) : cardRequests b p s
    = openSession b p o { orderTaken b o.number (permitOpened b p.number s) with
        notes := { s.notes with reserved := s.notes.reserved + 1 } } := by
  have slot : s.notes.reserve = some { s.notes with reserved := s.notes.reserved + 1 } := if_pos free
  simp only [cardRequests, openRequest_ok found passes, takeOrder_some order]
  rw [show (orderTaken b o.number (permitOpened b p.number s)).notes.reserve = _ from slot]

end Requests

/-! ### Given back (R109) -/

/-- In a lawful table a number has one entry (R86). -/
theorem permit_unique {ps : List Permit} {p q : Permit} (lawful : TableLawful ps) (mem : p ∈ ps) (mem' : q ∈ ps)
    (same : p.number = q.number) : p = q :=
  List.inj_on_of_nodup_map lawful.1 mem mem' same

/-- The entry of a card is the entry of its number. -/
theorem findPermit_of_findToken {ps : List Permit} {t : BitVec 64} {p : Permit} (lawful : TableLawful ps)
    (found : findToken ps t = some p) : findPermit ps p.number = some p := by
  have mem := List.mem_of_find?_eq_some found
  have some_ : (findPermit ps p.number).isSome = true := List.find?_isSome.2 ⟨p, mem, decide_eq_true rfl⟩
  obtain ⟨q, entry⟩ := Option.isSome_iff_exists.1 some_
  have same : p = q := permit_unique lawful mem (List.mem_of_find?_eq_some entry) (findPermit_number _ _ _ entry).symm
  exact entry.trans (congrArg some same.symm)

/-- A permit whose entry has been changed, its number kept. -/
theorem findPermit_modPermit {ps : List Permit} {n : Nat} {p : Permit} {f : Permit → Permit}
    (keeps : ∀ q, (f q).number = q.number) (found : findPermit ps n = some p) :
    findPermit (modPermit ps n f) n = some (f p) := by
  have number := findPermit_number ps n p found
  have same : (fun q : Permit => decide ((if q.number = n then f q else q).number = n))
      = fun q => decide (q.number = n) := by
    funext q
    split
    · rw [keeps]
    · rfl
  rw [findPermit, modPermit, List.find?_map]
  refine (congrArg (fun test => (ps.find? test).map _) same).trans ?_
  rw [show ps.find? (fun q => decide (q.number = n)) = some p from found, Option.map_some, if_pos number]

/-- A permit opened and closed again is as it was (R93, R94). -/
theorem closeRequest_opened {s : State} {b : BayNo} {p : Permit} (lawful : TableLawful s.permits)
    (found : findPermit s.permits p.number = some p) (active : p.state = .active) (free : p.openSession = none) :
    (closeRequest p.number b (permitOpened b p.number s)).1 = s := by
  have entry : findPermit (permitOpened b p.number s).permits p.number = some { p with openSession := some b } :=
    findPermit_modPermit (fun _ => rfl) found
  have back : modPermit (permitOpened b p.number s).permits p.number (fun q => { q with openSession := none })
      = s.permits := by
    rw [permitOpened, modPermit, modPermit, List.map_map]
    refine (List.map_congr_left fun q mem => ?_).trans (List.map_id _)
    by_cases own : q.number = p.number
    · obtain rfl := permit_unique lawful (List.mem_of_find?_eq_some found) mem own.symm
      simp [Function.comp_apply, ← free]
    · simp [Function.comp_apply, own]
  simp only [closeRequest, entry, active, ne_eq, not_true_eq_false, if_false, back, reduceCtorEq]
  rfl

/-- An order taken and returned is as it was (R109). -/
theorem returnOrder_taken {s : State} {b : BayNo} {n : Nat}
    (pending : ∀ y ∈ s.orders, y.number = n → y.active = false ∧ y.sessionBay = none) :
    returnOrder n (orderTaken b n s) = s := by
  refine congrArg (fun v => { s with orders := v }) ?_
  rw [orderTaken, List.map_map]
  refine (List.map_congr_left fun y mem => ?_).trans (List.map_id _)
  by_cases own : y.number = n
  · subst own
    obtain ⟨active, bay⟩ := pending y mem rfl
    simp [Function.comp_apply, ← active, ← bay]
  · simp [Function.comp_apply, own]

/-! ### The session opens (R110) -/

/-- The session of a permit and an order. -/
def newSession (p : Permit) (o : Order) (s : State) : Session :=
  { state := .connecting, permit := p.number, carrier := p.carrier, order := o.number, vehicle := o.vehicle
    comps := o.entries.map (formRecord s), slotReserved := true, start := s.line.clock
    digest := s.setup.digest, endCause := none }

/-- The bay of a session that has opened. -/
def Bay.opened (y : Bay) (c : BayCfg) (x : Session) (shown : Show) : Bay :=
  { y with
    session := some x, attentionFlag := false, attention := some (Timer.start (c.attention * ticksPerSecond))
    abandon := some (Timer.start (c.abandon * ticksPerSecond)), lastPrompt := some shown, sent := y.sent ++ [shown] }

theorem openSession_eq (b : BayNo) (p : Permit) (o : Order) (s : State) : openSession b p o s = { s with
    bays := vmod s.bays b fun y =>
      y.opened (s.bayCfg b) (newSession p o s) ⟨.order, [o.number, o.entries.length, o.vehicle]⟩ } := by
  simp only [openSession, startIdleTimers, State.sendShow, State.modBay, vmod_vmod]
  rfl

/-- Settles O36: the checks pass, the three requests are granted, and the session opens. -/
theorem cardOpensASession : Obligations.CardOpensASession := by
  intro s b token p o ready passes card found accepted order free
  have opens : cardAt b token s.fresh = _ :=
    (cardAt_passed ((cardBayCheck_fresh s b).trans passes) (s := s.fresh) card accepted).trans
      (cardRequests_opens (s := s.fresh) found accepted order free)
  rw [openSession_eq] at opens
  have here := vmod_self s.fresh.bays b fun y =>
    y.opened (s.bayCfg b) (newSession p o s) ⟨.order, [o.number, o.entries.length, o.vehicle]⟩
  refine ⟨_, inService_quiet ready opens ready.2, (congrArg Bay.session here :), rfl, rfl, rfl,
    (congrArg Bay.attention here :), (congrArg Bay.abandon here :), (congrArg Bay.lastPrompt here :), vmap_get .., rfl,
    fun x other => vmod_other _ _ _ _ other, rfl⟩

/-! ### What is no session (R107 to R109, R181) -/

/-- A refused card shows its prompt, and that is all. -/
theorem exec_card_shown {s : State} {b : BayNo} {token : BitVec 64} {prompt : Prompt} (ready : Ready s)
    (shows : cardAt b token s.fresh = s.fresh.sendShow b prompt []) :
    exec (.card b token) s = .next (s.fresh.sendShow b prompt []).write :=
  inService_quiet ready shows ready.2

/-- A card refused for want of an order or of a slot: what was asked for it is given back (R109). -/
theorem cardRequests_givenBack {s : State} {b : BayNo} {p : Permit} (lawful : TableLawful s.permits)
    (found : findPermit s.permits p.number = some p) (accepted : cardPermitCheck s b p = none) :
    (oldestUsable s p.number b p.productMask = none → cardRequests b p s = s.sendShow b .noOrder [])
      ∧ (∀ o, oldestUsable s p.number b p.productMask = some o →
        (∀ y ∈ s.orders, y.number = o.number → y.active = false ∧ y.sessionBay = none) → s.notes.free = 0 →
        cardRequests b p s = s.sendShow b .notesFull []) := by
  obtain ⟨active, free⟩ := cardPermitCheck_passes accepted
  have closed := closeRequest_opened (b := b) lawful found active free
  refine ⟨fun none_ => ?_, fun o order pending full => ?_⟩
  · rw [cardRequests_noOrder found accepted none_, closed]
  · have returned : returnOrder o.number (orderTaken b o.number (permitOpened b p.number s)) = permitOpened b p.number s :=
      returnOrder_taken pending
    rw [cardRequests_notesFull found accepted order full, returned, closed]

/-- A card whose checks have passed reaches the three requests. -/
theorem exec_card_asked {s : State} {b : BayNo} {token : BitVec 64} {p : Permit} {prompt : Prompt} (ready : Ready s)
    (passes : cardBayCheck s b = none) (card : findToken s.permits token = some p)
    (accepted : cardPermitCheck s b p = none) (shows : cardRequests b p s.fresh = s.fresh.sendShow b prompt []) :
    exec (.card b token) s = .next (s.fresh.sendShow b prompt []).write :=
  exec_card_shown ready
    ((cardAt_passed (s := s.fresh) ((cardBayCheck_fresh s b).trans passes) card accepted).trans shows)

/-- Settles O37: the bytes that are a CARD or a KEY, and every card that opens no session. -/
theorem refusedInputChangesNoRecord : Obligations.RefusedInputChangesNoRecord := by
  intro s b token
  have key {code x y : Nat} {c : Instr} (key : KeyOf b code x y c) : bayCommand b (keyRecord code x y) = some c := by
    obtain ⟨codeFits, xFits, yFits⟩ := key.small
    exact (bayCommand_key b codeFits xFits yFits).trans (keyCommand_iff.2 key)
  refine ⟨⟨bayCommand_card b token, fun c a => key (.select c a), fun a =>
    ⟨key (.start a), key (.stop a), key (.resume a), key (.finish a)⟩, key .endKey, key .resetKey⟩,
    fun bytes c taken => ?_, fun bytes => ⟨Option.isNone_iff_eq_none, rfl⟩, fun ready open_ => ?_,
    fun ready vacant => ⟨fun prompt refused => ?_, fun passes unknown => ?_, fun p prompt passes card refused => ?_,
      fun p lawful passes card accepted none_ => ?_, fun p o lawful passes card accepted order pending full => ?_⟩⟩
  · rcases bayCommand_cases taken with card | ⟨code, x, y, bytes, named⟩
    · exact .inl card
    · cases named with
      | select k a => exact .inr (.inl ⟨k, a, bytes, rfl⟩)
      | start a => exact .inr (.inr (.inl ⟨a, .inl ⟨bytes, rfl⟩⟩))
      | stop a => exact .inr (.inr (.inl ⟨a, .inr (.inl ⟨bytes, rfl⟩)⟩))
      | resume a => exact .inr (.inr (.inl ⟨a, .inr (.inr (.inl ⟨bytes, rfl⟩))⟩))
      | finish a => exact .inr (.inr (.inl ⟨a, .inr (.inr (.inr ⟨bytes, rfl⟩))⟩))
      | endKey => exact .inr (.inr (.inr (.inl ⟨bytes, rfl⟩)))
      | resetKey => exact .inr (.inr (.inr (.inr ⟨bytes, rfl⟩)))
  · have open_ : (s.fresh.session b).isSome = true := by rw [fresh_session, open_]
    have quiet : ((activity b .card s.fresh).sendShow b .bayBusy []).inbox = [] :=
      (activity_inbox b .card s.fresh).trans ready.2
    exact inService_quiet ready (cardAt_busy open_) quiet
  · exact exec_card_shown ready
      (cardAt_refusedAtBay ((fresh_session b s).trans vacant) ((cardBayCheck_fresh s b).trans refused))
  · exact exec_card_shown ready (cardAt_unknown ((cardBayCheck_fresh s b).trans passes) unknown)
  · exact exec_card_shown ready
      (cardAt_refusedPermit (s := s.fresh) ((cardBayCheck_fresh s b).trans passes) card refused)
  · obtain ⟨back, -⟩ := cardRequests_givenBack (s := s.fresh) lawful.1 (findPermit_of_findToken lawful.1 card) accepted
    exact exec_card_asked ready passes card accepted (back none_)
  · obtain ⟨-, back⟩ := cardRequests_givenBack (s := s.fresh) lawful.1 (findPermit_of_findToken lawful.1 card) accepted
    exact exec_card_asked ready passes card accepted (back o order pending full)

end Sys2Proof.Machine
end

section
/-! What a change of the rack mode leaves alone (R41, R64, R158), and the first stage of a trip (R139, R140), said once:
TRIP REQUEST (O45). -/

namespace Sys2Proof.Machine

/-! ### What a change of mode leaves alone -/

/-- `s` with the arms, the pumps and the notices of `t`. -/
def plantFrom (s t : State) : State := { s with arms := t.arms, pumps := t.pumps, inbox := t.inbox }

theorem plantFrom_trans {s t u : State} (first : t = plantFrom s t) (second : u = plantFrom t u) : u = plantFrom s u :=
  calc u
    _ = plantFrom t u := second
    _ = plantFrom (plantFrom s t) u := congrArg (plantFrom · u) first
    _ = plantFrom s u := rfl

theorem plantFrom_of_armsFrom {s t : State} (frame : t = armsFrom s t) : t = plantFrom s t := by
  have pumps : t.pumps = s.pumps := (congrArg State.pumps frame :)
  rw [plantFrom, pumps]
  exact frame

/-- An operation made for each unit of a list in turn changes no more than it does for one. -/
theorem each_plantFrom {α : Type} {f : State → α → State} (one : ∀ s x, f s x = plantFrom s (f s x)) (l : List α) :
    ∀ s : State, s.each l f = plantFrom s (s.each l f) := by
  induction l with
  | nil => exact fun _ => rfl
  | cons x l ih => exact fun s => plantFrom_trans (one s x) (ih (f s x))

theorem releaseIfReady_plantFrom (s : State) (a : ArmNo) : releaseIfReady a s = plantFrom s (releaseIfReady a s) := by
  unfold releaseIfReady
  split
  · rfl
  · split
    · exact plantFrom_trans rfl (plantFrom_of_armsFrom (endPumpWait_armOnly a _).1)
    · rfl

theorem modeSet_plantFrom (m : Mode) (s : State) : modeSet m s = plantFrom (modeTold m s) (modeSet m s) := by
  unfold modeSet
  split
  · rfl
  · split
    · exact plantFrom_trans (t := { modeTold m s with pumps := _ }) rfl
        (each_plantFrom releaseIfReady_plantFrom allArms _)
    · rfl

theorem setMode_plantFrom (m : Mode) (s : State) : setMode m s = plantFrom (modeTold m s) (setMode m s) :=
  plantFrom_trans (modeSet_plantFrom m s) (plantFrom_of_armsFrom (refreshEach_frame allArms (modeSet m s)))

/-- A change of mode changes the mode, the relay, the trip control, the arms, the pumps and the notices (R41, R64,
R158). -/
theorem setMode_frame (m : Mode) (s : State) : setMode m s = { s with
    mode := (setMode m s).mode, relay := (setMode m s).relay, trip := (setMode m s).trip, arms := (setMode m s).arms
    pumps := (setMode m s).pumps, inbox := (setMode m s).inbox } := by
  have frame := setMode_plantFrom m s
  generalize setMode m s = t at frame ⊢
  rw [frame]
  rfl

/-! ### What the arms report when the mode changes -/

/-- The notices from `s` to `t` are reports that a valve's condition is absent, and nothing else (R58). -/
def ValvesReport (s t : State) : Prop :=
  ∃ told, t.inbox = s.inbox ++ told ∧ ∀ n ∈ told, ∃ a, n = .condition (.valve a) false

theorem ValvesReport.refl (s : State) : ValvesReport s s := ⟨[], (List.append_nil _).symm, nofun⟩

theorem ValvesReport.trans {s t u : State} (first : ValvesReport s t) (second : ValvesReport t u) :
    ValvesReport s u := by
  obtain ⟨l, inbox, reports⟩ := first
  obtain ⟨l', inbox', reports'⟩ := second
  refine ⟨l ++ l', by rw [inbox', inbox, List.append_assoc], fun n mem => ?_⟩
  exact (List.mem_append.1 mem).elim (reports n) (reports' n)

/-- Any other notice is in flight after the reports exactly when it was before. -/
theorem ValvesReport.mem_iff {s t : State} (report : ValvesReport s t) {n : Notice}
    (other : ∀ a, n ≠ .condition (.valve a) false) : n ∈ t.inbox ↔ n ∈ s.inbox := by
  obtain ⟨told, inbox, reports⟩ := report
  rw [inbox, List.mem_append]
  refine or_iff_left fun mem => ?_
  obtain ⟨a, eq⟩ := reports n mem
  exact other a eq

theorem refreshCommand_reports (a : ArmNo) (s : State) : ValvesReport s (refreshCommand a s) := by
  unfold refreshCommand
  simp only
  split
  · exact .refl s
  · refine ⟨_, setValveCond_inbox a false _, fun n mem => ?_⟩
    split at mem
    · exact absurd mem List.not_mem_nil
    · exact ⟨a, List.mem_singleton.1 mem⟩

theorem refreshEach_reports (l : List ArmNo) :
    ∀ s : State, ValvesReport s (s.each l fun s a => refreshCommand a s) := by
  induction l with
  | nil => exact .refl
  | cons a l ih => exact fun s => (refreshCommand_reports a s).trans (ih (refreshCommand a s))

/-! ### The first stage of a trip (R140) -/

theorem mem_allInjs (j : InjNo) : j ∈ allInjs := by revert j; decide

/-- The rack mode and the trip control at the beginning of a trip, before the arms follow (R140). -/
def tripTold (cause : TripCause) (s : State) : State :=
  { s with mode := .tripping
           trip := { s.trip with
             cause := cause, delay := some (Timer.start (s.cfg.rack.tripDelay * ticksPerTenth)), stageTwo := false } }

/-- What the first stage sends to every bay, arm and injector (R140). -/
def firstStageNotices : List Notice :=
  allBays.map .tripNotice ++ allArms.map (fun a => .stopArm a .trip) ++ allInjs.map .tripInjector

/-- Whom the beginning of a trip tells: every bay, arm and injector, and at a trip delay of 0.0 s the trip control
itself (R140, R142). -/
def tripNotices (s : State) : List Notice :=
  firstStageNotices ++ if s.cfg.rack.tripDelay = 0 then [.secondStage] else []

/-- From RUN no pump is forced or returns: the mode changes, the arms follow it, and the notices go out. -/
theorem startTrip_eq {s : State} (run : s.mode = .run) (cause : TripCause) :
    startTrip cause s = ((tripTold cause s).each allArms fun s a => refreshCommand a s).pushAll (tripNotices s) := by
  have set : modeSet .tripping { tripTold cause s with mode := s.mode } = tripTold cause s := by
    simp [modeSet, modeTold, pumpsForced, tripTold, run, Mode.mayFlow, relayAfter]
  have told : setMode .tripping { tripTold cause s with mode := s.mode }
      = (tripTold cause s).each allArms fun s a => refreshCommand a s := by rw [setMode_eq, set]
  have delay : s.cfg.rack.tripDelay * ticksPerTenth = 0 ↔ s.cfg.rack.tripDelay = 0 := by simp [ticksPerTenth]
  have begun : startTrip cause s = if s.cfg.rack.tripDelay * ticksPerTenth = 0
      then ((setMode .tripping { tripTold cause s with mode := s.mode }).pushAll firstStageNotices).push .secondStage
      else (setMode .tripping { tripTold cause s with mode := s.mode }).pushAll firstStageNotices := rfl
  rw [begun, told]
  simp only [delay, tripNotices]
  split
  · simp only [State.push, State.pushAll, List.append_assoc]
  · simp only [State.pushAll, List.append_nil]

section Trip

variable {s : State} (run : s.mode = .run) (cause : TripCause)
include run

theorem startTrip_armsFrom : startTrip cause s = armsFrom (tripTold cause s) (startTrip cause s) := by
  rw [startTrip_eq run]
  have told := refreshEach_frame allArms (tripTold cause s)
  generalize ((tripTold cause s).each allArms fun s a => refreshCommand a s) = t at told ⊢
  exact congrArg (State.pushAll · (tripNotices s)) told

/-- A trip that begins reaches the mode, the trip control, the arms and the notices, and no pump. -/
theorem startTrip_frame : startTrip cause s = { s with
    mode := (startTrip cause s).mode, trip := (startTrip cause s).trip, arms := (startTrip cause s).arms
    pumps := (startTrip cause s).pumps, inbox := (startTrip cause s).inbox } := by
  have frame := startTrip_armsFrom run cause
  generalize startTrip cause s = t at frame ⊢
  rw [frame]
  rfl

/-- What is in flight once a trip has begun: what was, the trip's own notices, and reports of the valves' conditions. -/
theorem mem_startTrip_inbox {n : Notice} (other : ∀ a, n ≠ .condition (.valve a) false) :
    n ∈ (startTrip cause s).inbox ↔ n ∈ s.inbox ∨ n ∈ tripNotices s := by
  rw [startTrip_eq run, pushAll_inbox, List.mem_append, (refreshEach_reports allArms _).mem_iff other]
  rfl

theorem startTrip_begins : TripBegins cause s (startTrip cause s) := by
  obtain ⟨mode, relay, -, -⟩ := startTrip_rackState cause s
  have trip : (startTrip cause s).trip = (tripTold cause s).trip :=
    (congrArg State.trip (startTrip_armsFrom run cause) :)
  refine ⟨mode, relay, trip, fun b => ?_, fun a => ?_, fun j => ?_, ?_⟩
  · exact (mem_startTrip_inbox run cause (by simp)).2 (.inr (by simp [tripNotices, firstStageNotices, mem_allBays]))
  · exact (mem_startTrip_inbox run cause (by simp)).2 (.inr (by simp [tripNotices, firstStageNotices, mem_allArms]))
  · exact (mem_startTrip_inbox run cause (by simp)).2 (.inr (by simp [tripNotices, firstStageNotices, mem_allInjs]))
  · rw [mem_startTrip_inbox run cause (by simp)]
    simp [tripNotices, firstStageNotices]

end Trip

/-- A trip says the same of two states that agree in the relay, the trip control, the configuration and the request
for the second stage. -/
theorem TripBegins.of_before {cause : TripCause} {s v t : State} (begins : TripBegins cause v t)
    (relay : v.relay = s.relay) (trip : v.trip = s.trip) (setup : v.setup = s.setup)
    (second : .secondStage ∈ v.inbox ↔ .secondStage ∈ s.inbox) : TripBegins cause s t := by
  have cfg : v.cfg = s.cfg := by simp only [State.cfg, setup]
  unfold TripBegins at begins ⊢
  rwa [relay, trip, cfg, second] at begins

/-! ### TRIP REQUEST (R139, R178) -/

theorem tripRequestOwner_run {s : State} (run : s.mode = .run) :
    tripRequestOwner s = (startTrip .host s, .ok, .bytes []) := by
  simp only [tripRequestOwner, run, State.answer]

/-- What an all-call frame that is answered OK leaves, whatever it has sent (R173). -/
theorem allCall_settled {kind : Byte} {owner : State → State × Answer} {s t : State} {body : ReplyBody}
    (taken : Taken kind s) (ok : owner (heard s) = (t, .ok, body)) :
    requestTo .allCall kind owner s = .next (settleCommand t) := by
  obtain ⟨ready, free, takes⟩ := taken
  have takes : modeTakes (heard s).mode kind.toNat = true := takes
  simp only [requestTo, receiveFrame_ready _ s ready free, allCall, takes, if_true, ok]

/-- TRIP REQUEST to all stations changes nothing but the receiver and the link out of RUN: it is not OK in TRIPPING,
SETUP and SETUP_LOCKED, and has no effect in TRIPPED (R139, R173). -/
theorem tripRequest_allCall_other {s : State} (ready : Ready s) (free : LineFree s) (other : s.mode ≠ .run) :
    exec (.tripRequest .allCall []) s = .next (heard s).write := by
  have still : allCall 0x71 (noBody [] tripRequestOwner) (heard s) = heard s := by
    unfold allCall
    split
    · cases mode : s.mode <;> simp [noBody, tripRequestOwner, State.answer, mode] at other ⊢
    · rfl
  have run : exec (.tripRequest .allCall []) s
      = .next (receiveFrame (allCall 0x71 (noBody [] tripRequestOwner)) s) := rfl
  rw [run, receiveFrame_ready _ s ready free, still, settleCommand_nil (heard s) ready.2]

/-- TRIP REQUEST in RUN: the trip begins, and an addressed one is answered. -/
theorem tripRequest_run {s : State} (taken : Taken 0x71 s) (run : s.mode = .run) (dest : Dest) :
    exec (.tripRequest dest []) s = .next (settleCommand (match dest with
      | .addressed => sendReply 0x71 (.ok, .bytes []) (startTrip .host (heard s))
      | .allCall => startTrip .host (heard s))) := by
  have owner : noBody [] tripRequestOwner (heard s) = (startTrip .host (heard s), .ok, .bytes []) :=
    tripRequestOwner_run run
  cases dest with
  | addressed => exact (request_taken 0x71 _ s taken).trans (by rw [owner])
  | allCall => exact allCall_settled taken owner

/-- Settles O45: the beginning of the trip is that of `startTrip`; the other modes are the rows of R139. -/
theorem tripRequestStartsTheFirstStage : Obligations.TripRequestStartsTheFirstStage := by
  intro s
  have answered {x : Answer} (taken : Taken 0x71 s) (owner : tripRequestOwner (heard s) = (heard s, x)) :
      exec (.tripRequest .addressed []) s = .next (sendReply 0x71 x (heard s)).write :=
    request_quiet 0x71 (noBody [] tripRequestOwner) s (heard s) x taken owner taken.1.2
  refine ⟨fun dest taken run => ⟨_, tripRequest_run taken run dest, ?_⟩, fun taken mode => ?_, fun taken mode => ?_,
    fun taken mode => ?_, tripRequest_allCall_other⟩
  · have run' : (heard s).mode = .run := run
    have begins := (startTrip_begins run' .host).of_before (s := s) rfl rfl rfl Iff.rfl
    have frame := startTrip_frame run' .host
    have line : (startTrip .host (heard s)).line = (heard s).line := (congrArg State.line frame :)
    generalize startTrip .host (heard s) = t at *
    cases dest with
    | addressed =>
      exact ⟨begins, rfl, congrArg (fun v : State => { v with line := (sendReply 0x71 (.ok, .bytes []) t).line }) frame⟩
    | allCall =>
      refine ⟨begins, ?_, ?_⟩
      · rw [line]
        exact taken.2.1.2
      · simp only [line]
        exact frame
  · exact answered taken (by simp only [tripRequestOwner, heard_mode, mode, State.answer])
  · exact answered taken (by simp only [tripRequestOwner, heard_mode, mode, State.answer])
  · exact answered taken (by simp only [tripRequestOwner, heard_mode, mode, State.answer])

end Sys2Proof.Machine
end

section
/-! The trip clear (O47): what holds a trip (R143), RUN brought back, and the two sources of a trip clear, the message
and the RACK RESET key (R138). -/

namespace Sys2Proof.Machine

/-! ### What holds a trip (R143) -/

/-- The instances hold the trip with the states that `state` gives them. -/
def TripHeld (s : State) (state : Instance → InstState) : Prop :=
  state (s.inst .estop) ≠ .normal ∨
    ∃ i : InstId, (s.supCfg i).trip = true ∧ (state (s.inst i) = .active ∨ state (s.inst i) = .latched)

/-- The state of an `Instance` once a clear has covered it (R130, R137). -/
def stateCleared (x : Instance) : InstState := if x.state = .latched ∧ x.cond = false then .normal else x.state

theorem state_ite_cleared (x : Instance) : (if clearable x then x.cleared else x).state = stateCleared x := by
  rw [apply_ite Instance.state, stateCleared]
  exact if_congr (by simp [clearable]) rfl rfl

/-- Whether a trip clear is refused after clears, said of the instances before them. -/
theorem tripBlocked_cleared_iff {s t : State} (setup : t.setup = s.setup)
    (cleared : ∀ i, (t.inst i).state = stateCleared (s.inst i)) : tripBlocked t = true ↔ TripHeld s stateCleared := by
  have cfg (i : InstId) : t.supCfg i = s.supCfg i := by simp only [State.supCfg, State.cfg, setup]
  simp only [tripBlocked_iff, cleared, cfg, TripHeld]

/-! ### RUN brought back (R143) -/

/-- What a trip clear that is not refused makes of a rack in TRIPPED. -/
theorem setMode_run (s : State) :
    (setMode .run s).mode = .run ∧ (setMode .run s).relay = true ∧ (setMode .run s).trip.cause = s.trip.cause :=
  ⟨setMode_mode .run s, setMode_relay .run s,
    (congrArg (·.trip.cause) (setMode_plantFrom .run s) :)⟩

/-! ### TRIP CLEAR (R143, R178) -/

section Message

variable {s : State}

/-- TRIP CLEAR by the mode and, in TRIPPED, by what holds the trip. -/
theorem tripClearOwner_answers :
    (s.mode = .run → tripClearOwner s = s.answer .ok) ∧ (s.mode = .tripping → tripClearOwner s = s.answer .tripActive) ∧
    (s.mode = .tripped → tripClearOwner s
      = if tripBlocked s then s.answer .condition else (setMode .run s).answer .ok) := by
  refine ⟨fun mode => ?_, fun mode => ?_, fun mode => ?_⟩ <;> simp only [tripClearOwner, mode]

/-- A TRIP CLEAR that brings nothing back is answered, and nothing else changes. -/
theorem exec_tripClear_answered {result : ResultCode} (taken : Taken 0x72 s)
    (owner : tripClearOwner (heard s) = (heard s).answer result) :
    exec (.tripClear []) s = .next (sendReply 0x72 (result, .bytes []) (heard s)).write :=
  request_quiet 0x72 (noBody [] tripClearOwner) s (heard s) (result, .bytes []) taken owner taken.1.2

/-- A TRIP CLEAR in TRIPPED that nothing holds brings RUN back and is answered OK. -/
theorem exec_tripClear_restores (taken : Taken 0x72 s) (mode : s.mode = .tripped) (free : tripBlocked s = false) :
    exec (.tripClear []) s
      = .next (settleCommand (sendReply 0x72 (.ok, .bytes []) (setMode .run (heard s)))) := by
  have free : ¬tripBlocked (heard s) = true := Bool.eq_false_iff.1 free
  have owner : noBody [] tripClearOwner (heard s) = (setMode .run (heard s), .ok, .bytes []) := by
    obtain ⟨-, -, inTripped⟩ := tripClearOwner_answers (s := heard s)
    rw [noBody, if_pos rfl, inTripped mode, if_neg free, State.answer]
  exact (request_taken 0x72 _ s taken).trans (by rw [owner])

end Message

/-! ### The RACK RESET key (R138) -/

/-- The instances, the figures and the sessions once the key has cleared all 83, the trip clear still to come. -/
def keyCleared (key : Bool) (s : State) : State := (clearAll allInsts (setResetPin key s.fresh)).1

section Key

variable (key : Bool) (s : State)

theorem keyCleared_cleared : Cleared (fun i => clearable (s.inst i)) (setResetPin key s.fresh) (keyCleared key s) :=
  (clearAll_covered (covers := fun _ => true) (List.filter_true _).symm (setResetPin key s.fresh)).1

theorem keyCleared_state (i : InstId) : ((keyCleared key s).inst i).state = stateCleared (s.inst i) := by
  rw [(keyCleared_cleared key s).insts]
  exact state_ite_cleared (s.inst i)

theorem keyCleared_sessions : SessionsSame s (keyCleared key s) :=
  fun b => ((keyCleared_cleared key s).sessions b).trans (fresh_session b s)

theorem keyCleared_frame : keyCleared key s = { s.fresh with
    pins := { s.pins with resetKey := key }
    meters := (keyCleared key s).meters, injectors := (keyCleared key s).injectors, bays := (keyCleared key s).bays
    sup := (keyCleared key s).sup } := (keyCleared_cleared key s).frame

theorem keyCleared_blocked_iff : tripBlocked (keyCleared key s) = true ↔ TripHeld s stateCleared :=
  tripBlocked_cleared_iff (congrArg State.setup (keyCleared_frame key s) :) (keyCleared_state key s)

variable {key s}

/-- A turn of the key in TRIPPED: the clear, and then the trip clear where nothing holds the trip still. -/
theorem exec_rackReset_tripped (ready : Ready s) (tripped : s.mode = .tripped) :
    exec (.rackReset key) s = .next (settleCommand
      (if tripBlocked (keyCleared key s) then keyCleared key s else setMode .run (keyCleared key s))) := by
  have run : exec (.rackReset key) s = .next (settleCommand (rackResetAt (setResetPin key s.fresh))) :=
    onPin_ready (setResetPin key) rackResetAt s ready
  have mode : (keyCleared key s).mode = .tripped := (congrArg State.mode (keyCleared_frame key s) :).trans tripped
  have turned : rackResetAt (setResetPin key s.fresh) = if (keyCleared key s).mode = .tripped
      then tripClearInTripped (keyCleared key s) else keyCleared key s := rfl
  rw [run, turned, if_pos mode, tripClearInTripped]

/-- The key turned while one of the instances still holds the trip: cleared, and TRIPPED. -/
theorem rackReset_held (ready : Ready s) (tripped : s.mode = .tripped) (held : TripHeld s stateCleared) :
    ∃ t, exec (.rackReset key) s = .next t ∧ t.rackState = s.rackState
      ∧ (∀ i, (t.inst i).state = stateCleared (s.inst i)) ∧ SessionsSame s t
      ∧ t = ({ s.fresh with
          pins := { s.pins with resetKey := key }
          meters := t.meters, injectors := t.injectors, bays := t.bays, sup := t.sup } : State).write := by
  have run := exec_rackReset_tripped (key := key) ready tripped
  have frame := keyCleared_frame key s
  have states := keyCleared_state key s
  have sessions := keyCleared_sessions key s
  rw [if_pos ((keyCleared_blocked_iff key s).2 held)] at run
  generalize keyCleared key s = t at *
  rw [settleCommand_nil t ((congrArg State.inbox frame :).trans ready.2)] at run
  exact ⟨t.write, run, (congrArg State.rackState frame :), states, sessions, congrArg State.write frame⟩

/-- The key turned where none of the instances holds the trip any more: cleared, and RUN. -/
theorem rackReset_restores (ready : Ready s) (tripped : s.mode = .tripped) (free : ¬TripHeld s stateCleared) :
    ∃ u, exec (.rackReset key) s = .next (settleCommand u) ∧ u.mode = .run ∧ u.relay = true
      ∧ u.trip.cause = s.trip.cause ∧ SessionsSame s u ∧ (∀ i, (u.inst i).state = stateCleared (s.inst i))
      ∧ u = { s.fresh with
          mode := u.mode, relay := u.relay, trip := u.trip, pins := u.pins, meters := u.meters, arms := u.arms
          pumps := u.pumps, injectors := u.injectors, bays := u.bays, sup := u.sup, inbox := u.inbox } := by
  have run := exec_rackReset_tripped (key := key) ready tripped
  have before := keyCleared_frame key s
  have states := keyCleared_state key s
  have sessions := keyCleared_sessions key s
  rw [if_neg fun held => free ((keyCleared_blocked_iff key s).1 held)] at run
  generalize keyCleared key s = t at *
  obtain ⟨mode, relay, cause⟩ := setMode_run t
  have frame := setMode_frame .run t
  generalize setMode .run t = u at *
  have sup : u.sup = t.sup := (congrArg State.sup frame :)
  have bays : u.bays = t.bays := (congrArg State.bays frame :)
  refine ⟨u, run, mode, relay, cause.trans (congrArg (·.trip.cause) before), fun b => ?_, fun i => ?_, ?_⟩
  · rw [State.session, bays]
    exact sessions b
  · rw [State.inst, sup]
    exact states i
  · rw [frame, before]

end Key

/-- Settles O47: TRIP CLEAR by the mode and what holds the trip, and the key that clears first. -/
theorem tripClearRestoresTheRack : Obligations.TripClearRestoresTheRack := by
  intro s
  obtain ⟨inRun, inTripping, inTripped⟩ := tripClearOwner_answers (s := heard s)
  have held_iff : tripBlocked s = true ↔ TripHeld s Instance.state := tripBlocked_iff s
  refine ⟨fun taken mode held => ?_, fun taken mode free => ?_, fun taken mode => ?_, fun taken mode => ?_,
    fun _ => rackReset_held, fun _ => rackReset_restores⟩
  · exact exec_tripClear_answered taken ((inTripped mode).trans (if_pos (held_iff.2 held)))
  · have free : tripBlocked s = false := Bool.eq_false_iff.2 fun blocked => free (held_iff.1 blocked)
    have run := exec_tripClear_restores taken mode free
    obtain ⟨mode', relay, cause⟩ := setMode_run (heard s)
    have frame := setMode_frame .run (heard s)
    generalize setMode .run (heard s) = t at *
    exact ⟨_, run, mode', relay, cause, rfl,
      congrArg (fun v : State => { v with line := (sendReply 0x72 (.ok, .bytes []) t).line }) frame⟩
  · exact exec_tripClear_answered taken (inRun mode)
  · exact exec_tripClear_answered taken (inTripping mode)

end Sys2Proof.Machine
end

section
/-! What one of the supervision instances does beyond itself when it is entered or raised (R134, R136, R139): the stop
requests to its scope, the marks on the active lines in it, the trip. Level and event instances do it alike, and it is
said once. -/

namespace Sys2Proof.Machine

/-! ### What these effects are read from -/

section Reads

variable (i j : InstId) (f : Instance → Instance) (s : State)

@[simp] theorem modInst_cls : (s.modInst i f).cls j = s.cls j := rfl
@[simp] theorem modInst_filterTicks : (s.modInst i f).filterTicks j = s.filterTicks j := rfl

end Reads

/-- `v` agrees with `s` in what the effects of `i` are read from. -/
structure SameScene (i : InstId) (s v : State) : Prop where
  mode : v.mode = s.mode
  relay : v.relay = s.relay
  trip : v.trip = s.trip
  setup : v.setup = s.setup
  inbox : v.inbox = s.inbox
  scope : ∀ a, InStopScope v i a ↔ InStopScope s i a

theorem SameScene.supCfg {i : InstId} {s v : State} (same : SameScene i s v) (j : InstId) :
    v.supCfg j = s.supCfg j := by
  simp only [State.supCfg, State.cfg, same.setup]

theorem SameScene.cls {i : InstId} {s v : State} (same : SameScene i s v) (j : InstId) : v.cls j = s.cls j :=
  congrArg SupCfg.cls (same.supCfg j)

theorem SameScene.trans {i : InstId} {s t u : State} (first : SameScene i s t) (second : SameScene i t u) :
    SameScene i s u where
  mode := second.mode.trans first.mode
  relay := second.relay.trans first.relay
  trip := second.trip.trans first.trip
  setup := second.setup.trans first.setup
  inbox := second.inbox.trans first.inbox
  scope a := (second.scope a).trans (first.scope a)

theorem sameScene_modInst (i j : InstId) (f : Instance → Instance) (s : State) : SameScene i s (s.modInst j f) :=
  ⟨rfl, rfl, rfl, rfl, rfl, fun _ => Iff.rfl⟩

theorem armComp_fresh (s : State) (a : ArmNo) : s.fresh.armComp a = s.armComp a := by
  unfold State.armComp
  simp only [fresh_arms, fresh_compRec]

theorem sameScene_fresh (i : InstId) (s : State) : SameScene i s s.fresh :=
  ⟨rfl, rfl, rfl, rfl, rfl, fun a => by
    unfold InStopScope
    simp only [armComp_fresh]
    exact Iff.rfl⟩

/-! ### Stop requests (R134) -/

theorem armNames_iff (s : State) (a : ArmNo) (j : InjNo) :
    armNames s a j = true ↔ ∃ r, s.armComp a = some r ∧ r.names j = true := by
  unfold armNames
  cases s.armComp a <;> simp

/-- The stop effect goes to the arms of its scope and to no other. -/
theorem mem_scopeArms (s : State) (i : InstId) (a : ArmNo) : a ∈ scopeArms s i ↔ InStopScope s i a := by
  unfold scopeArms InStopScope
  cases i.scope with
  | rack => simp [mem_allArms]
  | bay b => simp [State.armsOf, mem_allArms]
  | arm x => simp [eq_comm]
  | inj j => simp [mem_allArms, armNames_iff]

/-! ### Marks on the active lines (R136) -/

/-- The compartment lies in the scope of `i`. -/
def inMarkScope (i : InstId) (b : BayNo) (r : CompRec) : Bool :=
  match i.scope with
  | .rack => true
  | .bay x => b = x
  | .arm a => r.arm = some a
  | .inj j => r.names j

theorem inMarkScope_iff (i : InstId) (b : BayNo) (r : CompRec) : inMarkScope i b r = true ↔ InMarkScope i b r := by
  unfold inMarkScope InMarkScope
  cases i.scope with
  | rack => simp
  | bay x => exact decide_eq_true_iff.trans eq_comm
  | arm a => exact decide_eq_true_iff
  | inj j => exact Iff.rfl

/-- A compartment record once a warning of `i` has marked its bay. -/
def CompRec.warned (i : InstId) (b : BayNo) (r : CompRec) : CompRec :=
  if r.active && inMarkScope i b r then { r with warningRaised := true } else r

section Warned

variable (i : InstId) (b : BayNo) (r : CompRec)

theorem warned_no : (r.warned i b).no = r.no := by
  unfold CompRec.warned
  split <;> rfl

theorem warned_meterFault : (r.warned i b).meterFault = r.meterFault := by
  unfold CompRec.warned
  split <;> rfl

theorem warned_warningRaised_iff : (r.warned i b).warningRaised = true ↔
    r.warningRaised = true ∨ (r.active = true ∧ InMarkScope i b r) := by
  unfold CompRec.warned
  rw [← inMarkScope_iff, ← Bool.and_eq_true]
  split <;> simp_all

end Warned

/-- The sessions after a change of the session of each bay of a list. -/
theorem session_eachSession (f : BayNo → Session → Session) (b : BayNo) {l : List BayNo} (nodup : l.Nodup) :
    ∀ s : State, (s.each l fun s b => s.modSession b (f b)).session b
      = if b ∈ l then (s.session b).map (f b) else s.session b := by
  induction l with
  | nil => exact fun _ => (if_neg List.not_mem_nil).symm
  | cons x l ih =>
    intro s
    obtain ⟨first, rest⟩ := List.nodup_cons.1 nodup
    have here : (s.modSession x (f x)).session b = if b = x then (s.session b).map (f b) else s.session b := by
      by_cases same : b = x
      · subst same
        simp [State.session]
      · simp [State.session, vmod_other _ _ _ _ same, same]
    refine (ih rest _).trans ?_
    rw [here]
    by_cases same : b = x
    · subst same
      simp [first]
    · simp [same]

theorem markWarning_session (i : InstId) (b : BayNo) (s : State) : (markWarning i s).session b
    = (s.session b).map fun x => { x with comps := x.comps.map (CompRec.warned i b) } :=
  (session_eachSession (fun b x => { x with comps := x.comps.map (CompRec.warned i b) }) b (by decide) s).trans
    (if_pos (mem_allBays b))

theorem markWarning_compRec (i : InstId) (b : BayNo) (c : CompNo) (s : State) :
    (markWarning i s).compRec b c = (s.compRec b c).map (CompRec.warned i b) := by
  have comp (x : Session) : ({ x with comps := x.comps.map (CompRec.warned i b) } : Session).comp c
      = (x.comp c).map (CompRec.warned i b) := by
    have test : ((fun r : CompRec => decide (r.no = c)) ∘ CompRec.warned i b) = fun r => decide (r.no = c) := by
      funext r
      simp only [Function.comp, warned_no]
    show (x.comps.map _).find? _ = _
    rw [List.find?_map, test]
    rfl
  rw [compRec_eq_bind, compRec_eq_bind, markWarning_session]
  cases s.session b with
  | none => rfl
  | some x => exact comp x

theorem markWarning_cls (i j : InstId) (s : State) : (markWarning i s).cls j = s.cls j := by
  have setup : (markWarning i s).setup = s.setup := rfl
  simp only [State.cls, State.supCfg, State.cfg, setup]

/-! ### The marks and the stop requests together -/

/-- What `i` marks when of class WARNING, or what it else asks of its scope unless it comes back from RECOVERING. -/
def signalled (i : InstId) (recovers : Bool) (s : State) : State :=
  if s.cls i = .warning then markWarning i s
  else if recovers then s else s.pushAll ((scopeArms s i).map fun a => .stopArm a .effect)

section Signalled

variable (i : InstId) (recovers : Bool) (s : State)

theorem signalled_warning {s : State} (warns : s.cls i = .warning) : signalled i recovers s = markWarning i s :=
  if_pos warns

theorem signalled_sends {s : State} (acts : s.cls i ≠ .warning) : signalled i false s = sendStops i s := by
  rw [signalled, sendStops, if_neg acts, if_neg acts, if_neg Bool.false_ne_true]

theorem signalled_frame : signalled i recovers s = { s with
    bays := (signalled i recovers s).bays, inbox := (signalled i recovers s).inbox } := by
  unfold signalled
  split
  · rfl
  · split <;> rfl

theorem signalled_compRec (b : BayNo) (c : CompNo) : (signalled i recovers s).compRec b c
    = (s.compRec b c).map fun r => if s.cls i = .warning then r.warned i b else r := by
  unfold signalled
  by_cases warns : s.cls i = .warning
  · simp only [warns, if_true]
    exact markWarning_compRec i b c s
  · simp only [warns, if_false, Option.map_id']
    split <;> rfl

theorem signalled_inbox : (signalled i recovers s).inbox = s.inbox
    ++ if s.cls i ≠ .warning ∧ recovers = false then (scopeArms s i).map fun a => .stopArm a .effect else [] := by
  unfold signalled
  by_cases warns : s.cls i = .warning
  · rw [if_pos warns, if_neg fun sends => sends.1 warns, List.append_nil]
    rfl
  · cases recovers <;> simp [warns]

theorem mem_signalled_stop (a : ArmNo) : .stopArm a .effect ∈ (signalled i recovers s).inbox ↔
    .stopArm a .effect ∈ s.inbox ∨ (recovers = false ∧ s.cls i ≠ .warning ∧ InStopScope s i a) := by
  rw [signalled_inbox, ← mem_scopeArms]
  by_cases sends : s.cls i ≠ .warning ∧ recovers = false
  · simp [sends]
  · rw [if_neg sends, List.append_nil]
    exact (or_iff_left fun sent => sends ⟨sent.2.1, sent.1⟩).symm

theorem mem_signalled_second : .secondStage ∈ (signalled i recovers s).inbox ↔ .secondStage ∈ s.inbox := by
  rw [signalled_inbox]
  split <;> simp

end Signalled

/-! ### With the trip (R139) -/

/-- What `i` does beyond itself, but for the marks. -/
structure Effects (i : InstId) (sends : Prop) (s t : State) : Prop where
  stops : ∀ a : ArmNo, .stopArm a .effect ∈ t.inbox ↔
    .stopArm a .effect ∈ s.inbox ∨ (sends ∧ s.cls i ≠ .warning ∧ InStopScope s i a)
  trips : s.mode = .run → (s.supCfg i).trip = true → TripBegins (.fault i) s t
  stands : s.mode ≠ .run ∨ (s.supCfg i).trip = false → t.mode = s.mode ∧ t.trip = s.trip

/-- The effects of `i` are the same from any state that agrees in what they are read from. -/
theorem Effects.of_scene {i : InstId} {sends : Prop} {s v t : State} (same : SameScene i s v)
    (effects : Effects i sends v t) : Effects i sends s t where
  stops a := by
    rw [effects.stops, same.inbox, same.cls, same.scope]
  trips run flag := by
    have begins := effects.trips (same.mode.trans run) ((congrArg SupCfg.trip (same.supCfg i)).trans flag)
    exact begins.of_before same.relay same.trip same.setup (by rw [same.inbox])
  stands out := by
    rw [← same.mode, ← same.supCfg] at out
    rw [← same.mode, ← same.trip]
    exact effects.stands out

/-- `s` with what the effects of `i` reach taken from `t`. -/
def effectsFrom (s t : State) : State :=
  { s with mode := t.mode, trip := t.trip, arms := t.arms, pumps := t.pumps, bays := t.bays, inbox := t.inbox }

theorem tripOn_begins {i : InstId} {s : State} (run : s.mode = .run) (flag : (s.supCfg i).trip = true) :
    tripOn i s = startTrip (.fault i) s := if_pos ⟨run, flag⟩

theorem tripOn_stands {i : InstId} {s : State} (out : s.mode ≠ .run ∨ (s.supCfg i).trip = false) : tripOn i s = s := by
  refine if_neg fun ⟨run, flag⟩ => ?_
  rcases out with other | unflagged
  · exact other run
  · exact nomatch flag.symm.trans unflagged

theorem tripOn_frame (i : InstId) (s : State) : tripOn i s = { s with
    mode := (tripOn i s).mode, trip := (tripOn i s).trip, arms := (tripOn i s).arms, pumps := (tripOn i s).pumps
    inbox := (tripOn i s).inbox } := by
  by_cases begins : s.mode = .run ∧ (s.supCfg i).trip = true
  · rw [tripOn_begins begins.1 begins.2]
    exact startTrip_frame begins.1 _
  · rw [tripOn, if_neg begins]

/-- A trip sends no stop request of a stop effect. -/
theorem mem_tripOn_stop (i : InstId) (s : State) (a : ArmNo) :
    .stopArm a .effect ∈ (tripOn i s).inbox ↔ .stopArm a .effect ∈ s.inbox := by
  by_cases begins : s.mode = .run ∧ (s.supCfg i).trip = true
  · rw [tripOn_begins begins.1 begins.2, mem_startTrip_inbox begins.1 _ (by simp)]
    simp [tripNotices, firstStageNotices]
  · rw [tripOn, if_neg begins]

theorem tripOn_compRec (i : InstId) (s : State) (b : BayNo) (c : CompNo) :
    (tripOn i s).compRec b c = s.compRec b c := by
  have bays : (tripOn i s).bays = s.bays := (congrArg State.bays (tripOn_frame i s) :)
  exact compRec_congr (congrArg (fun v : Vector Bay 4 => v[b].session) bays) c

section Acts

variable (i : InstId) (recovers : Bool) (s : State)

theorem tripOn_signalled_effects : Effects i (recovers = false) s (tripOn i (signalled i recovers s)) := by
  have frame := signalled_frame i recovers s
  have mode : (signalled i recovers s).mode = s.mode := (congrArg State.mode frame :)
  have relay : (signalled i recovers s).relay = s.relay := (congrArg State.relay frame :)
  have trip : (signalled i recovers s).trip = s.trip := (congrArg State.trip frame :)
  have setup : (signalled i recovers s).setup = s.setup := (congrArg State.setup frame :)
  have cfg : (signalled i recovers s).supCfg i = s.supCfg i := by simp only [State.supCfg, State.cfg, setup]
  refine ⟨fun a => ?_, fun run flag => ?_, fun out => ?_⟩
  · rw [mem_tripOn_stop, mem_signalled_stop]
  · rw [tripOn_begins (mode.trans run) ((congrArg SupCfg.trip cfg).trans flag)]
    exact (startTrip_begins (mode.trans run) _).of_before relay trip setup (mem_signalled_second i recovers s)
  · rw [← mode, ← cfg] at out
    rw [tripOn_stands out]
    exact ⟨mode, trip⟩

theorem tripOn_signalled_frame : tripOn i (signalled i recovers s)
    = effectsFrom s (tripOn i (signalled i recovers s)) := by
  have trips := tripOn_frame i (signalled i recovers s)
  have signals := signalled_frame i recovers s
  generalize signalled i recovers s = u at *
  generalize tripOn i u = t at *
  rw [trips, signals]
  rfl

theorem tripOn_signalled_inst (j : InstId) : (tripOn i (signalled i recovers s)).inst j = s.inst j :=
  congrArg (fun v : Vector Instance 83 => v[j.slot]) (congrArg State.sup (tripOn_signalled_frame i recovers s) :)

theorem tripOn_signalled_compRec (b : BayNo) (c : CompNo) : (tripOn i (signalled i recovers s)).compRec b c
    = (s.compRec b c).map fun r => if s.cls i = .warning then r.warned i b else r := by
  rw [tripOn_compRec, signalled_compRec]

end Acts

/-! ### The entry into ACTIVE (R130, R133) -/

/-- `i` itself once it has entered ACTIVE: counted, its filter timer stopped, of the class in force. -/
def entered (i : InstId) (s : State) : State :=
  countUp i (s.modInst i fun x => { x with state := .active, timer := none, cls := s.cls i })

theorem enterActive_eq (i : InstId) (recovers : Bool) (s : State) :
    enterActive i recovers s = tripOn i (signalled i recovers (entered i s)) := by
  have told : enterActive i recovers s
      = tripOn i (if recovers then (if (entered i s).cls i = .warning then markWarning i (entered i s) else entered i s)
        else sendStops i (if (entered i s).cls i = .warning then markWarning i (entered i s) else entered i s)) := rfl
  rw [told, signalled]
  by_cases warns : (entered i s).cls i = .warning
  · have silent : sendStops i (markWarning i (entered i s)) = markWarning i (entered i s) :=
      if_pos ((markWarning_cls i i _).trans warns)
    rw [if_pos warns, if_pos warns, silent, ite_self]
  · rw [if_neg warns, if_neg warns, sendStops, if_neg warns]

theorem entered_inst (i : InstId) (s : State) : (entered i s).inst i
    = { s.inst i with state := .active, timer := none, count := satSucc 255 (s.inst i).count, cls := s.cls i } := by
  rw [entered, countUp, modInst_self, modInst_self]

theorem entered_other {i j : InstId} (s : State) (other : j ≠ i) : (entered i s).inst j = s.inst j := by
  rw [entered, countUp, modInst_other _ _ _ _ other, modInst_other _ _ _ _ other]

/-- The entry into ACTIVE is what R130 to R139 say of it, from NORMAL and FILTERING as from RECOVERING. -/
theorem enterActive_enters (i : InstId) (recovers : Bool) (s : State) :
    EntersActive i (recovers = false) s (enterActive i recovers s)
      ∧ ((enterActive i recovers s).inst i).cond = (s.inst i).cond := by
  have scene : SameScene i s (entered i s) := (sameScene_modInst i i _ s).trans (sameScene_modInst i i _ _)
  have effects := (tripOn_signalled_effects i recovers (entered i s)).of_scene scene
  have insts := tripOn_signalled_inst i recovers (entered i s)
  have marks := tripOn_signalled_compRec i recovers (entered i s)
  rw [← enterActive_eq] at effects insts marks
  have self := (insts i).trans (entered_inst i s)
  refine ⟨⟨?_, ?_, ?_, ?_, fun j other => (insts j).trans (entered_other s other), effects.stops, fun b c r found => ?_,
    effects.trips, effects.stands⟩, ?_⟩
  · rw [self]
  · rw [self]
  · rw [self]
  · rw [self]
    rfl
  · have found' : (entered i s).compRec b c = some r := found
    refine ⟨_, (marks b c).trans (congrArg (Option.map _) found'), ?_⟩
    rw [scene.cls]
    by_cases warns : s.cls i = .warning
    · simp only [warns, if_true, true_and]
      exact warned_warningRaised_iff i b r
    · simp only [warns, if_false, false_and, or_false]
  · rw [self]

theorem enterActive_frame (i : InstId) (recovers : Bool) (s : State) : enterActive i recovers s = { s with
    mode := (enterActive i recovers s).mode, trip := (enterActive i recovers s).trip
    arms := (enterActive i recovers s).arms, pumps := (enterActive i recovers s).pumps
    bays := (enterActive i recovers s).bays, sup := (enterActive i recovers s).sup
    inbox := (enterActive i recovers s).inbox } := by
  have acts := tripOn_signalled_frame i recovers (entered i s)
  rw [← enterActive_eq] at acts
  generalize enterActive i recovers s = t at acts ⊢
  rw [acts]
  rfl

/-- An entry into ACTIVE says the same of two states that agree but in what its own report and the beginning of
a command change. -/
theorem EntersActive.of_scene {i : InstId} {sends : Prop} {s v t : State} (enters : EntersActive i sends v t)
    (same : SameScene i s v) (count : (v.inst i).count = (s.inst i).count) (insts : ∀ j, j ≠ i → v.inst j = s.inst j)
    (comps : ∀ b c, v.compRec b c = s.compRec b c) : EntersActive i sends s t := by
  obtain ⟨state, timer, cls, counted, others, stops, marks, trips, stands⟩ := enters
  have effects : Effects i sends s t := .of_scene same ⟨stops, trips, stands⟩
  rw [same.cls] at cls
  rw [count] at counted
  simp only [comps, same.cls] at marks
  exact ⟨state, timer, cls, counted, fun j other => (others j other).trans (insts j other), effects.stops, marks,
    effects.trips, effects.stands⟩

end Sys2Proof.Machine
end

section
/-! The tables of the supervision instances (O43): a level condition that appears or vanishes, the filter timer (R130), and
an event (R132, R133, R136). -/

namespace Sys2Proof.Machine

/-! ### A level condition (R130) -/

/-- `i` holds the condition as it is now reported. -/
def reported (i : InstId) (present : Bool) (s : State) : State := s.modInst i fun x => { x with cond := present }

section Condition

variable {i : InstId} {s : State}

theorem reported_inst (present : Bool) : (reported i present s).inst i = { s.inst i with cond := present } :=
  modInst_self ..

theorem reported_change (present : Bool) (f : Instance → Instance) :
    ((reported i present s).modInst i f).inst i = f { s.inst i with cond := present } := by
  rw [modInst_self, reported_inst]

/-- A report that changes `i` alone: `i` after it. -/
theorem inst_of_change {present : Bool} {f : Instance → Instance}
    (changes : condition i present s = (reported i present s).modInst i f) :
    (condition i present s).inst i = f { s.inst i with cond := present } := by
  rw [changes, reported_change]

/-- An entry into ACTIVE on the condition's appearing is an entry of `i` as it was. -/
theorem EntersActive.of_reported {sends : Prop} {present : Bool} {t : State}
    (enters : EntersActive i sends (reported i present s) t) : EntersActive i sends s t :=
  enters.of_scene (sameScene_modInst i i _ s) (congrArg Instance.count (reported_inst present) :)
    (fun _ other => modInst_other _ _ _ _ other) fun _ _ => rfl

section Appears

variable (absent : (s.inst i).cond = false)
include absent

theorem condition_filters (state : (s.inst i).state = .normal) (filter : 0 < (s.supCfg i).filter) :
    condition i true s = (reported i true s).modInst i fun x =>
      { x with state := .filtering, timer := some (Timer.start ((s.supCfg i).filter * 10000)) } := by
  have ticks : s.filterTicks i ≠ 0 := Nat.mul_ne_zero filter.ne' (by decide)
  simp only [condition, absent, state, Bool.false_eq_true, if_false, if_true, modInst_filterTicks, ticks]
  rfl

theorem condition_enters (state : (s.inst i).state = .normal) (filter : (s.supCfg i).filter = 0) :
    condition i true s = enterActive i false (reported i true s) := by
  have ticks : s.filterTicks i = 0 := by rw [State.filterTicks, filter, Nat.zero_mul]
  simp only [condition, absent, state, Bool.false_eq_true, if_false, if_true, modInst_filterTicks, ticks]
  rfl

theorem condition_returns (state : (s.inst i).state = .recovering) :
    condition i true s = enterActive i true (reported i true s) := by
  simp only [condition, absent, state, Bool.false_eq_true, if_false, if_true]
  rfl

theorem condition_appears_other (notNormal : (s.inst i).state ≠ .normal)
    (notRecovering : (s.inst i).state ≠ .recovering) :
    condition i true s = reported i true s := by
  cases state : (s.inst i).state with
  | normal => exact absurd state notNormal
  | recovering => exact absurd state notRecovering
  | _ => simp only [condition, absent, state, Bool.false_eq_true, if_false, if_true, reported]

/-- All that the condition's appearing can do: report it, begin the filter, or enter ACTIVE. -/
theorem condition_appears_cases : condition i true s = reported i true s
    ∨ (∃ f, condition i true s = (reported i true s).modInst i f)
    ∨ ∃ recovers, condition i true s = enterActive i recovers (reported i true s) := by
  cases state : (s.inst i).state with
  | normal =>
    rcases Nat.eq_zero_or_pos (s.supCfg i).filter with filter | filter
    · exact .inr (.inr ⟨_, condition_enters absent state filter⟩)
    · exact .inr (.inl ⟨_, condition_filters absent state filter⟩)
  | recovering => exact .inr (.inr ⟨_, condition_returns absent state⟩)
  | _ => exact .inl (condition_appears_other absent (by simp [state]) (by simp [state]))

end Appears

section Vanishes

variable (present : (s.inst i).cond = true)
include present

theorem condition_stopsFilter (state : (s.inst i).state = .filtering) :
    condition i false s = (reported i false s).modInst i fun x => { x with state := .normal, timer := none } := by
  simp only [condition, present, state, Bool.true_eq_false, Bool.false_eq_true, if_false]
  rfl

theorem condition_latches (state : (s.inst i).state = .active) (cls : s.cls i = .latched) :
    condition i false s = (reported i false s).modInst i fun x => { x with state := .latched, cls := .latched } := by
  simp only [condition, present, state, Bool.true_eq_false, Bool.false_eq_true, if_false, modInst_cls, cls, if_true]
  rfl

theorem condition_ends (state : (s.inst i).state = .active) (cls : s.cls i ≠ .latched)
    (filter : (s.supCfg i).filter = 0) :
    condition i false s = (reported i false s).modInst i fun x => { x with state := .normal, timer := none } := by
  have ticks : s.filterTicks i = 0 := by rw [State.filterTicks, filter, Nat.zero_mul]
  simp only [condition, present, state, Bool.true_eq_false, Bool.false_eq_true, if_false, modInst_cls, cls,
    modInst_filterTicks, ticks, if_true]
  rfl

theorem condition_recovers (state : (s.inst i).state = .active) (cls : s.cls i ≠ .latched)
    (filter : 0 < (s.supCfg i).filter) :
    condition i false s = (reported i false s).modInst i fun x =>
      { x with state := .recovering, timer := some (Timer.start ((s.supCfg i).filter * 10000)), cls := s.cls i } := by
  have ticks : s.filterTicks i ≠ 0 := Nat.mul_ne_zero filter.ne' (by decide)
  simp only [condition, present, state, Bool.true_eq_false, Bool.false_eq_true, if_false, modInst_cls, cls,
    modInst_filterTicks, ticks]
  rfl

theorem condition_vanishes_other (notFiltering : (s.inst i).state ≠ .filtering)
    (notActive : (s.inst i).state ≠ .active) :
    condition i false s = reported i false s := by
  cases state : (s.inst i).state with
  | filtering => exact absurd state notFiltering
  | active => exact absurd state notActive
  | _ => simp only [condition, present, state, Bool.true_eq_false, Bool.false_eq_true, if_false, reported]

end Vanishes

/-- The vanishing of a condition changes `i` and nothing else. -/
theorem condition_vanishes (i : InstId) (s : State) : ∃ f, condition i false s = s.modInst i f := by
  have twice (f : Instance → Instance) : ∃ g, (reported i false s).modInst i f = s.modInst i g :=
    ⟨_, congrArg (fun v => { s with sup := v }) (vmod_vmod ..)⟩
  cases present : (s.inst i).cond with
  | false =>
    have same : s.modInst i id = s := congrArg (fun v => { s with sup := v })
      (vec_ext _ _ fun j => by rw [vmod_get]; split <;> rfl)
    exact ⟨id, (condition_same i false s present).trans same.symm⟩
  | true =>
    cases state : (s.inst i).state with
    | filtering => rw [condition_stopsFilter present state]; exact twice _
    | active =>
      by_cases cls : s.cls i = .latched
      · rw [condition_latches present state cls]; exact twice _
      · rcases Nat.eq_zero_or_pos (s.supCfg i).filter with filter | filter
        · rw [condition_ends present state cls filter]; exact twice _
        · rw [condition_recovers present state cls filter]; exact twice _
    | _ => exact ⟨_, condition_vanishes_other present (by simp [state]) (by simp [state])⟩

/-- What a report of a level condition can reach. -/
theorem condition_frame (i : InstId) (s : State) :
    condition i true s = { s with
      mode := (condition i true s).mode, trip := (condition i true s).trip, arms := (condition i true s).arms
      pumps := (condition i true s).pumps, bays := (condition i true s).bays, sup := (condition i true s).sup
      inbox := (condition i true s).inbox }
      ∧ ∀ j, j ≠ i → (condition i true s).inst j = s.inst j := by
  cases absent : (s.inst i).cond with
  | true =>
    rw [condition_same i true s absent]
    exact ⟨rfl, fun _ _ => rfl⟩
  | false =>
    have others (j : InstId) (other : j ≠ i) : (reported i true s).inst j = s.inst j := modInst_other _ _ _ _ other
    rcases condition_appears_cases absent with same | ⟨f, filters⟩ | ⟨recovers, enters⟩
    · rw [same]
      exact ⟨rfl, others⟩
    · rw [filters]
      exact ⟨rfl, fun j other => (modInst_other _ _ _ _ other).trans (others j other)⟩
    · rw [enters]
      obtain ⟨⟨-, -, -, -, kept, -⟩, -⟩ := enterActive_enters i recovers (reported i true s)
      have frame := enterActive_frame i recovers (reported i true s)
      generalize enterActive i recovers (reported i true s) = t at kept frame ⊢
      refine ⟨?_, fun j other => (kept j other).trans (others j other)⟩
      rw [frame]
      rfl

end Condition

/-! ### The filter timer (R130) -/

section Filter

variable {i : InstId} {s : State} (runs : isRunning (s.inst i).timer = true)
include runs

theorem filterExpiry_enters (state : (s.inst i).state = .filtering) : filterExpiry i s = enterActive i false s := by
  simp only [filterExpiry, runs, state, if_true]

theorem filterExpiry_ends (state : (s.inst i).state = .recovering) :
    filterExpiry i s = s.modInst i fun x => { x with state := .normal, timer := none } := by
  simp only [filterExpiry, runs, state, if_true]

end Filter

/-! ### An event (R132, R133, R136, R139) -/

/-- The arm of a METER_PULSE event carries the compartment (R136). -/
def onFaultArm (s : State) (i : InstId) (b : BayNo) (c : CompNo) : Bool :=
  match i with
  | .meterPulse a => (s.arms[a].comp).any fun oc => oc.bay = b && oc.comp = c
  | _ => false

theorem onFaultArm_iff (s : State) (i : InstId) (b : BayNo) (c : CompNo) : onFaultArm s i b c = true ↔
    ∃ a oc, i = .meterPulse a ∧ s.arms[a].comp = some oc ∧ oc.bay = b ∧ oc.comp = c := by
  cases i with
  | meterPulse a =>
    simp only [onFaultArm, Option.any_eq_true, Bool.and_eq_true, decide_eq_true_eq]
    constructor
    · exact fun ⟨oc, comp, named⟩ => ⟨a, oc, rfl, comp, named⟩
    · rintro ⟨_, oc, ⟨⟩, comp, named⟩
      exact ⟨oc, comp, named⟩
  | _ => simp [onFaultArm]

/-- A compartment record once the event has marked it, or has not. -/
def CompRec.faulted (on : Bool) (r : CompRec) : CompRec := if on && r.active then { r with meterFault := true } else r

theorem faulted_fields (on : Bool) (r : CompRec) : (r.faulted on).active = r.active
    ∧ (r.faulted on).warningRaised = r.warningRaised ∧ (r.faulted on).arm = r.arm
    ∧ (r.faulted on).lines = r.lines := by
  unfold CompRec.faulted
  split <;> exact ⟨rfl, rfl, rfl, rfl⟩

theorem faulted_meterFault_iff (on : Bool) (r : CompRec) :
    (r.faulted on).meterFault = true ↔ r.meterFault = true ∨ (r.active = true ∧ on = true) := by
  unfold CompRec.faulted
  rw [and_comm, ← Bool.and_eq_true]
  split <;> simp_all

theorem faulted_inMarkScope (i : InstId) (b : BayNo) (on : Bool) (r : CompRec) :
    InMarkScope i b (r.faulted on) ↔ InMarkScope i b r := by
  obtain ⟨-, -, arm, lines⟩ := faulted_fields on r
  simp only [InMarkScope, CompRec.names, arm, lines]

theorem markMeterFault_compRec {i : InstId} {s : State} {b : BayNo} {c : CompNo} {r : CompRec}
    (found : s.compRec b c = some r) : (markMeterFault i s).compRec b c = some (r.faulted (onFaultArm s i b c)) := by
  cases i with
  | meterPulse a =>
    show (s.modArmComp a fun r => if r.active then { r with meterFault := true } else r).compRec b c = _
    cases onArm : s.arms[a].comp with
    | none =>
      have off : onFaultArm s (.meterPulse a) b c = false := by simp only [onFaultArm, onArm, Option.any_none]
      simp only [State.modArmComp, onArm, off]
      exact found
    | some oc =>
      have on : onFaultArm s (.meterPulse a) b c = (decide (oc.bay = b) && decide (oc.comp = c)) := by
        simp only [onFaultArm, onArm, Option.any_some]
      rw [modArmComp_of_onArm onArm, on]
      by_cases bay : oc.bay = b
      · subst bay
        rw [compRec_modComp_bay _ _ _ _ fun r => by split <;> rfl, found, Option.map_some]
        by_cases comp : oc.comp = c
        · rw [if_pos ((compRec_no found).trans comp.symm)]
          simp [comp, CompRec.faulted]
        · rw [if_neg fun named => comp (named.symm.trans (compRec_no found))]
          simp [comp, CompRec.faulted]
      · rw [compRec_congr (session_modComp_other _ _ s (Ne.symm bay)), found]
        simp [bay, CompRec.faulted]
  | _ => exact found

/-- A mark of the meter fault leaves everything else that the effects of `i` are read from. -/
theorem markMeterFault_scene (i : InstId) (s : State) : SameScene i s (markMeterFault i s) := by
  cases i with
  | meterPulse a =>
    have frame : markMeterFault (.meterPulse a) s = _ := modArmComp_frame a _ s
    rw [frame]
    exact ⟨rfl, rfl, rfl, rfl, rfl, fun _ => Iff.rfl⟩
  | _ => exact ⟨rfl, rfl, rfl, rfl, rfl, fun _ => Iff.rfl⟩

theorem markMeterFault_sup (i : InstId) (s : State) : (markMeterFault i s).sup = s.sup := by
  unfold markMeterFault
  split
  · rw [modArmComp_frame]
  · rfl

/-- The event counted at `i`, and marked on the active line of its arm's compartment (R133, R136). -/
def eventTaken (i : InstId) (s : State) : State := markMeterFault i (countUp i s)

/-- `i` itself once an event has raised it from NORMAL: of class WARNING it stays so, else it is LATCHED. -/
def raised (i : InstId) (s : State) : State :=
  if s.cls i = .warning then eventTaken i s
  else (eventTaken i s).modInst i fun x => { x with state := .latched, cls := s.cls i }

section Event

variable {i : InstId} {s : State}

theorem eventTaken_inst (j : InstId) : (eventTaken i s).inst j = (countUp i s).inst j :=
  congrArg (fun v : Vector Instance 83 => v[j.slot]) (markMeterFault_sup i (countUp i s))

theorem eventTaken_self : (eventTaken i s).inst i = { s.inst i with count := satSucc 255 (s.inst i).count } :=
  (eventTaken_inst i).trans (modInst_self ..)

theorem eventTaken_other {j : InstId} (other : j ≠ i) : (eventTaken i s).inst j = s.inst j :=
  (eventTaken_inst j).trans (modInst_other _ _ _ _ other)

theorem eventTaken_scene (i : InstId) (s : State) : SameScene i s (eventTaken i s) :=
  (sameScene_modInst i i _ s).trans (markMeterFault_scene i _)

theorem eventTaken_compRec {b : BayNo} {c : CompNo} {r : CompRec} (found : s.compRec b c = some r) :
    (eventTaken i s).compRec b c = some (r.faulted (onFaultArm s i b c)) :=
  markMeterFault_compRec (i := i) (s := countUp i s) found

theorem raised_self : (raised i s).inst i = if s.cls i ≠ .warning
    then { s.inst i with state := .latched, cls := s.cls i, count := satSucc 255 (s.inst i).count }
    else { s.inst i with count := satSucc 255 (s.inst i).count } := by
  unfold raised
  by_cases warns : s.cls i = .warning
  · rw [if_pos warns, if_neg (not_not_intro warns), eventTaken_self]
  · rw [if_neg warns, if_pos warns, modInst_self, eventTaken_self]

theorem raised_other {j : InstId} (other : j ≠ i) : (raised i s).inst j = s.inst j := by
  unfold raised
  split
  · exact eventTaken_other other
  · exact (modInst_other _ _ _ _ other).trans (eventTaken_other other)

theorem raised_scene (i : InstId) (s : State) : SameScene i s (raised i s) := by
  unfold raised
  split
  · exact eventTaken_scene i s
  · exact (eventTaken_scene i s).trans (sameScene_modInst ..)

theorem raised_compRec (b : BayNo) (c : CompNo) : (raised i s).compRec b c = (eventTaken i s).compRec b c := by
  unfold raised
  split <;> rfl

theorem eventAt_eq (i : InstId) (s : State) : eventAt i s
    = if actingClass (eventTaken i s) i = .warning then tripOn i (markWarning i (eventTaken i s))
      else if ((eventTaken i s).inst i).state = .normal then tripOn i (sendStops i ((eventTaken i s).modInst i fun x =>
        { x with state := .latched, cls := (eventTaken i s).cls i }))
      else eventTaken i s := rfl

/-- An event at a NORMAL `i` raises it, with the effects of its class in force. -/
theorem eventAt_normal (normal : (s.inst i).state = .normal) :
    eventAt i s = tripOn i (signalled i false (raised i s)) := by
  have state : ((eventTaken i s).inst i).state = .normal := by rw [eventTaken_self]; exact normal
  have cls : (eventTaken i s).cls i = s.cls i := (eventTaken_scene i s).cls i
  have acting : actingClass (eventTaken i s) i = s.cls i := by
    rw [actingClass, state, cls]
    rfl
  rw [eventAt_eq, acting, cls, if_pos state]
  by_cases warns : s.cls i = .warning
  · rw [if_pos warns, raised, if_pos warns, signalled_warning i false (cls.trans warns)]
  · have acts : ((eventTaken i s).modInst i fun x => { x with state := .latched, cls := s.cls i }).cls i ≠ .warning :=
      fun warning => warns (cls.symm.trans warning)
    rw [if_neg warns, raised, if_neg warns, signalled_sends i acts]

/-- An event at an `i` that is LATCHED under a class other than WARNING is counted and marked, and no more. -/
theorem eventAt_latched (latched : (s.inst i).state = .latched) (held : (s.inst i).cls ≠ .warning) :
    eventAt i s = eventTaken i s := by
  have state : ((eventTaken i s).inst i).state = .latched := by rw [eventTaken_self]; exact latched
  have cls : ((eventTaken i s).inst i).cls = (s.inst i).cls := by rw [eventTaken_self]
  have acting : actingClass (eventTaken i s) i = (s.inst i).cls := by
    rw [actingClass, state, cls]
    rfl
  rw [eventAt_eq, acting, if_neg held, if_neg (by rw [state]; exact nofun)]

theorem tripOn_raised_effects (i : InstId) (s : State) :
    Effects i True s (tripOn i (signalled i false (raised i s))) := by
  obtain ⟨stops, trips, stands⟩ := (tripOn_signalled_effects i false (raised i s)).of_scene (raised_scene i s)
  exact ⟨fun a => (stops a).trans (by rw [eq_self]), trips, stands⟩

/-- The marks of an event that raises `i`: the warning of its class, and the meter fault. -/
theorem tripOn_raised_marks {b : BayNo} {c : CompNo} {r : CompRec} (found : s.compRec b c = some r) :
    ∃ r', (tripOn i (signalled i false (raised i s))).compRec b c = some r'
      ∧ (r'.warningRaised = true ↔
          r.warningRaised = true ∨ (s.cls i = .warning ∧ r.active = true ∧ InMarkScope i b r))
      ∧ (r'.meterFault = true ↔ r.meterFault = true ∨ (r.active = true ∧ onFaultArm s i b c = true)) := by
  obtain ⟨active, warned, -⟩ := faulted_fields (onFaultArm s i b c) r
  have marked := tripOn_signalled_compRec i false (raised i s) b c
  rw [raised_compRec, eventTaken_compRec found, Option.map_some, (raised_scene i s).cls] at marked
  refine ⟨_, marked, ?_⟩
  rw [← faulted_meterFault_iff]
  by_cases warns : s.cls i = .warning
  · rw [if_pos warns, warned_meterFault, warned_warningRaised_iff, active, warned, faulted_inMarkScope]
    simp only [warns, true_and]
  · rw [if_neg warns, warned]
    simp only [warns, false_and, or_false, true_and]

end Event

/-! ### The ESTOP input (R129) -/

/-- A command that sends one notice, which sends no other, ends with that notice taken. -/
theorem settleCommand_one {s t : State} {n : Notice} (inbox : s.inbox = [n]) (taken : take n { s with inbox := [] } = t)
    (quiet : t.inbox = []) : settleCommand s = t.write := by
  have drained (fuel : Nat) : drain (fuel + 1) s = t := by
    simp only [drain, inbox, taken]
    exact drain_nil fuel t quiet
  exact congrArg State.write (drained 4095)

section Estop

variable {s : State} (ready : Ready s)
include ready

theorem exec_estopInputChange (level : Bool) : exec (.estopInputChange level) s = .next (settleCommand
    { s.fresh with pins := { s.pins with estop := level }, inbox := [.condition .estop (!level)] }) := by
  have inbox : s.fresh.inbox = [] := ready.2
  have run : exec (.estopInputChange level) s
      = .next (settleCommand ((setEstopPin level s.fresh).push (.condition .estop (!level)))) :=
    onPin_ready (setEstopPin level) (fun s => s.push (.condition .estop (!level))) s ready
  have sent : (setEstopPin level s.fresh).push (.condition .estop (!level))
      = { s.fresh with
          pins := { s.pins with estop := level }
          inbox := s.fresh.inbox ++ [.condition .estop (!level)] } := rfl
  rw [run, sent, inbox, List.nil_append]

/-- Where the report of the ESTOP input changes the `Instance` of ESTOP alone, that is all the command does. -/
theorem exec_estopInputChange_alone {level : Bool} {f : Instance → Instance}
    (alone : condition .estop (!level) (setEstopPin level s.fresh)
      = (reported .estop (!level) (setEstopPin level s.fresh)).modInst .estop f) :
    ∃ t, exec (.estopInputChange level) s = .next t ∧ t.pins = { s.pins with estop := level }
      ∧ t.inst .estop = f { s.inst .estop with cond := !level } ∧ (∀ i, i ≠ .estop → t.inst i = s.inst i)
      ∧ t = ({ s.fresh with pins := t.pins, sup := t.sup } : State).write := by
  have inbox : s.fresh.inbox = [] := ready.2
  have emptied : { setEstopPin level s.fresh with inbox := [] } = setEstopPin level s.fresh :=
    congrArg (fun l => { setEstopPin level s.fresh with inbox := l }) inbox.symm
  have taken : take (.condition .estop (!level)) { setEstopPin level s.fresh with inbox := [] }
      = (reported .estop (!level) (setEstopPin level s.fresh)).modInst .estop f := by
    rw [emptied]
    exact alone
  refine ⟨_, (exec_estopInputChange ready level).trans
    (congrArg Host.Outcome.next (settleCommand_one rfl taken inbox)), rfl, ?_, fun i other => ?_, rfl⟩
  · exact reported_change (!level) f
  · exact (modInst_other _ _ _ _ other).trans (modInst_other _ _ _ _ other)

end Estop

/-! ### O43 -/

section Settle

variable {s : State}

/-- The rows of R130 for the ESTOP input, pressed and released. -/
theorem estopInput_rows (ready : Ready s) :
    ((s.inst .estop).state = .normal → (s.inst .estop).cond = false → 0 < (s.supCfg .estop).filter →
       ∃ t, exec (.estopInputChange false) s = .next t ∧ t.pins = { s.pins with estop := false }
         ∧ t.inst .estop = { s.inst .estop with
             state := .filtering, cond := true, timer := some ⟨0, (s.supCfg .estop).filter * 10000⟩ }
         ∧ (∀ i, i ≠ .estop → t.inst i = s.inst i)
         ∧ t = ({ s.fresh with pins := t.pins, sup := t.sup } : State).write) ∧
     ((s.inst .estop).cond = true → (s.inst .estop).state = .filtering ∨
         ((s.inst .estop).state = .active ∧ s.cls .estop = .latched) →
       ∃ t, exec (.estopInputChange true) s = .next t ∧ t.pins = { s.pins with estop := true }
         ∧ (t.inst .estop).cond = false ∧ (t.inst .estop).count = (s.inst .estop).count
         ∧ ((s.inst .estop).state = .filtering → (t.inst .estop).state = .normal ∧ (t.inst .estop).timer = none)
         ∧ ((s.inst .estop).state = .active → (t.inst .estop).state = .latched)
         ∧ (∀ i, i ≠ .estop → t.inst i = s.inst i)
         ∧ t = ({ s.fresh with pins := t.pins, sup := t.sup } : State).write) := by
  refine ⟨fun state absent filter => ?_, fun present from_ => ?_⟩
  · exact exec_estopInputChange_alone ready (level := false) (condition_filters absent state filter)
  · rcases from_ with state | ⟨state, cls⟩
    · obtain ⟨t, run, pins, self, others, frame⟩ :=
        exec_estopInputChange_alone ready (level := true) (condition_stopsFilter present state)
      refine ⟨t, run, pins, ?_, ?_, fun _ => ?_, fun active => ?_, others, frame⟩
      · rw [self]
        rfl
      · rw [self]
      · rw [self]
        exact ⟨rfl, rfl⟩
      · cases state.symm.trans active
    · obtain ⟨t, run, pins, self, others, frame⟩ :=
        exec_estopInputChange_alone ready (level := true) (condition_latches present state cls)
      refine ⟨t, run, pins, ?_, ?_, fun filtering => ?_, fun _ => ?_, others, frame⟩
      · rw [self]
        rfl
      · rw [self]
      · cases state.symm.trans filtering
      · rw [self]

/-- The filter timer that runs out on a FILTERING `i`, as a command. -/
theorem exec_filterTimerExpiry_enters (ready : Ready s) {i : InstId} (runs : isRunning (s.inst i).timer = true)
    (state : (s.inst i).state = .filtering) :
    ∃ u, exec (.filterTimerExpiry i) s = .next (settleCommand u)
      ∧ EntersActive i True s u ∧ (u.inst i).cond = (s.inst i).cond
      ∧ u = { s.fresh with
          mode := u.mode, trip := u.trip, arms := u.arms, pumps := u.pumps, bays := u.bays, sup := u.sup
          inbox := u.inbox } := by
  have run : exec (.filterTimerExpiry i) s = .next (settleCommand (filterExpiry i s.fresh)) :=
    inService_ready (filterExpiry i) s ready
  rw [filterExpiry_enters (s := s.fresh) runs state] at run
  obtain ⟨enters, cond⟩ := enterActive_enters i false s.fresh
  rw [eq_self] at enters
  exact ⟨_, run, enters.of_scene (sameScene_fresh i s) rfl (fun _ _ => rfl) fun b c => fresh_compRec b c s, cond,
    enterActive_frame i false s.fresh⟩

theorem exec_filterTimerExpiry_ends (ready : Ready s) {i : InstId} (runs : isRunning (s.inst i).timer = true)
    (state : (s.inst i).state = .recovering) :
    ∃ t, exec (.filterTimerExpiry i) s = .next t
      ∧ t.inst i = { s.inst i with state := .normal, timer := none }
      ∧ (∀ j, j ≠ i → t.inst j = s.inst j)
      ∧ t = ({ s.fresh with sup := t.sup } : State).write :=
  ⟨_, inService_quiet ready (filterExpiry_ends (s := s.fresh) runs state) ready.2, modInst_self ..,
    fun _ other => modInst_other _ _ _ _ other, rfl⟩

/-- An event at a NORMAL or LATCHED `i`: what it makes of `i`, and the effects it has from NORMAL alone. -/
theorem eventAt_acts {i : InstId}
    (from_ : (s.inst i).state = .normal ∨ ((s.inst i).state = .latched ∧ (s.inst i).cls ≠ .warning)) :
    (eventAt i s).inst i = (if (s.inst i).state = .normal ∧ s.cls i ≠ .warning
        then { s.inst i with state := .latched, cls := s.cls i, count := satSucc 255 (s.inst i).count }
        else { s.inst i with count := satSucc 255 (s.inst i).count })
      ∧ (∀ j, j ≠ i → (eventAt i s).inst j = s.inst j)
      ∧ (∀ a : ArmNo, .stopArm a .effect ∈ (eventAt i s).inbox ↔
          .stopArm a .effect ∈ s.inbox ∨ ((s.inst i).state = .normal ∧ s.cls i ≠ .warning ∧ InStopScope s i a))
      ∧ (∀ b c r, s.compRec b c = some r → ∃ r', (eventAt i s).compRec b c = some r'
          ∧ (r'.warningRaised = true ↔ r.warningRaised = true
              ∨ ((s.inst i).state = .normal ∧ s.cls i = .warning ∧ r.active = true ∧ InMarkScope i b r))
          ∧ (r'.meterFault = true ↔ r.meterFault = true ∨ (r.active = true ∧ onFaultArm s i b c = true)))
      ∧ (s.mode = .run → (s.supCfg i).trip = true → (s.inst i).state = .normal → TripBegins (.fault i) s (eventAt i s))
      ∧ (s.mode ≠ .run ∨ (s.supCfg i).trip = false ∨ (s.inst i).state ≠ .normal →
          (eventAt i s).mode = s.mode ∧ (eventAt i s).trip = s.trip) := by
  rcases from_ with normal | ⟨latched, held⟩
  · have insts := tripOn_signalled_inst i false (raised i s)
    obtain ⟨stops, trips, stands⟩ := tripOn_raised_effects i s
    rw [eventAt_normal normal]
    refine ⟨(insts i).trans (raised_self.trans (if_congr (and_iff_right normal).symm rfl rfl)),
      fun j other => (insts j).trans (raised_other other), fun a => (stops a).trans ?_, fun b c r found => ?_,
      fun run flag _ => trips run flag,
      fun out => stands (out.imp_right fun out => out.resolve_right (not_not_intro normal))⟩
    · simp only [normal, true_and]
    · simp only [normal, true_and]
      exact tripOn_raised_marks found
  · have scene := eventTaken_scene i s
    have notNormal : (s.inst i).state ≠ .normal := by rw [latched]; exact nofun
    rw [eventAt_latched latched held]
    simp only [notNormal, false_and, if_false, or_false]
    refine ⟨eventTaken_self, fun j => eventTaken_other, fun a => by rw [scene.inbox], fun b c r found => ?_,
      fun _ _ normal => normal.elim, fun _ => ⟨scene.mode, scene.trip⟩⟩
    obtain ⟨-, warned, -⟩ := faulted_fields (onFaultArm s i b c) r
    exact ⟨_, eventTaken_compRec found, by rw [warned], faulted_meterFault_iff ..⟩

end Settle

/-- Settles O43: the ESTOP input and the filter timer, the rows of R130, and the events. -/
theorem levelInstancesFollowTheirTable : Obligations.LevelInstancesFollowTheirTable := by
  refine ⟨fun s ready => ?_, fun s i => ?_, fun s i => ?_⟩
  · obtain ⟨pressed, released⟩ := estopInput_rows ready
    exact ⟨exec_estopInputChange ready, pressed, released, fun i => exec_filterTimerExpiry_enters ready,
      fun i => exec_filterTimerExpiry_ends ready⟩
  · obtain ⟨upFrame, upOthers⟩ := condition_frame i s
    obtain ⟨f, vanishes⟩ := condition_vanishes i s
    have downFrame : condition i false s = { s with sup := (condition i false s).sup } := by
      rw [vanishes]
      rfl
    have downOthers (j : InstId) (other : j ≠ i) : (condition i false s).inst j = s.inst j := by
      rw [vanishes]
      exact modInst_other _ _ _ _ other
    refine ⟨condition_same i true s, condition_same i false s, upFrame, downFrame, fun absent state filter => ?_,
      fun absent state filter => ?_, fun absent state => ?_, fun absent state => ?_, fun present state => ?_,
      fun present state cls => ?_, fun present state cls filter => ?_, fun present state cls filter => ?_,
      fun present state => ?_, fun j other => ⟨upOthers j other, downOthers j other⟩⟩
    · have changes := condition_filters absent state filter
      refine ⟨?_, inst_of_change changes⟩
      show condition i true s = { s with sup := (condition i true s).sup }
      rw [changes]
      rfl
    · obtain ⟨enters, cond⟩ := enterActive_enters i false (reported i true s)
      rw [← condition_enters absent state filter, reported_inst] at cond
      rw [← condition_enters absent state filter, eq_self] at enters
      exact ⟨enters.of_reported, cond⟩
    · obtain ⟨enters, cond⟩ := enterActive_enters i true (reported i true s)
      rw [← condition_returns absent state, reported_inst] at cond
      rw [← condition_returns absent state, Bool.true_eq_false] at enters
      exact ⟨enters.of_reported, cond⟩
    · exact (congrArg (State.inst · i) (condition_appears_other absent (by rw [state]; exact nofun)
        (by rw [state]; exact nofun))).trans (reported_inst true)
    · exact inst_of_change (condition_stopsFilter present state)
    · exact inst_of_change (condition_latches present state cls)
    · exact inst_of_change (condition_ends present state cls filter)
    · exact inst_of_change (condition_recovers present state cls filter)
    · exact (congrArg (State.inst · i) (condition_vanishes_other present (by rw [state]; exact nofun)
        (by rw [state]; exact nofun))).trans (reported_inst false)
  · intro x t count from_
    have acts := eventAt_acts from_
    simp only [onFaultArm_iff] at acts
    exact acts

end Sys2Proof.Machine
end

section
/-! The frame receiver (O52) and the six status messages (O56). -/

namespace Sys2Proof.Machine

/-! ### The receiver (R172) -/

/-- With supply what comes on the line reaches the receiver (R179). -/
theorem onReceiver_supplied {s : State} (supplied : s.phase ≠ .off) (f : State → State) : onReceiver f s = f s.fresh := by
  unfold onReceiver
  split
  · next off => exact absurd off supplied
  · rfl

/-- A frame that a check of R172 throws away leaves the receiver hunting. -/
theorem discardFrame_discards {s : State} {bytes : List Byte} (awake : s.line.receiver ≠ .skipping)
    (discards : frameDiscards s.line.address s.line.reply.isSome bytes = true) :
    discardFrame bytes s = setReceiver .hunt s := if_pos ⟨awake, discards⟩

/-- The bytes of a frame that are skipped change nothing. -/
theorem discardFrame_skipping {s : State} {bytes : List Byte} (skipping : s.line.receiver = .skipping) :
    discardFrame bytes s = s := if_neg fun awake => awake.1 skipping

/-- A command of the line alone is what the receiver makes of the fresh state: there is no notice and no retained write. -/
theorem receiver_moves {s t : State} {f : State → State} (supplied : s.phase ≠ .off) (moves : f s.fresh = t) :
    .next (onReceiver f s) = (.next t : Host.Outcome State Fault Refusal) := by
  rw [onReceiver_supplied supplied, moves]

/-- Settles O52: each move of the receiver, by the state it is in. -/
theorem receiverFollowsTheLine : Obligations.ReceiverFollowsTheLine := by
  intro s supplied
  refine ⟨fun hunt => ?_, fun busy => ?_, fun awake => ?_, fun receiving => ?_, fun skipping => ?_,
    fun bytes awake discards => ?_, fun bytes skipping => ?_⟩
  · exact receiver_moves supplied (if_pos hunt)
  · exact receiver_moves supplied (if_neg busy)
  · exact receiver_moves supplied (if_neg awake)
  · exact receiver_moves supplied (if_pos receiving)
  · exact receiver_moves supplied (if_pos skipping)
  · exact receiver_moves supplied (discardFrame_discards (s := s.fresh) awake discards)
  · exact receiver_moves supplied (discardFrame_skipping (s := s.fresh) skipping)

/-! ### The status messages (R177) -/

/-- The number of a unit is read back from its byte. -/
theorem unitOf_byte {n : Nat} (few : n < 256) (u : Fin n) : unitOf n (fld (be 1 (unitNo u)) 0 1) = some u := by
  have within : unitNo u < 256 := lt_of_le_of_lt u.isLt few
  rw [fld_be 1 _ within, unitOf_unitNo]

/-- A status message that names a unit of the part reads its fields. -/
theorem unitStatus_named {n : Nat} (few : n < 256) (u : Fin n) (report : Fin n → State → ReplyBody) (s : State) :
    unitStatus n (be 1 (unitNo u)) report s = (s, .ok, report u s) := by
  unfold unitStatus
  rw [unitOf_byte few u]
  exact if_pos (be_length ..)

/-- A number that names no unit is answered FORMAT. -/
theorem unitStatus_unnamed {n k : Nat} (byte : k < 256) (outside : k = 0 ∨ n < k) (report : Fin n → State → ReplyBody)
    (s : State) : unitStatus n (be 1 k) report s = (s, .format, .bytes []) := by
  have unnamed : unitOf n (fld (be 1 k) 0 1) = none := by
    rw [fld_be 1 k byte]
    exact dif_neg (by omega)
  unfold unitStatus
  rw [unnamed]
  rfl

/-- A message whose owner only answers leaves the reply alone. -/
theorem request_answered {kind : Byte} {owner : State → State × Answer} {s : State} {x : Answer} (taken : Taken kind s)
    (answers : owner (heard s) = (heard s, x)) : request kind owner s = .next (sendReply kind x (heard s)).write :=
  request_quiet kind owner s _ _ taken answers taken.1.2

/-- Settles O56: each owner answers the fields of the state it finds, and the reply is all that the message leaves. -/
theorem statusMessagesOnlyRead : Obligations.StatusMessagesOnlyRead := by
  intro s
  refine ⟨fun taken => ?_, fun b taken => ?_, fun a taken => ?_, fun i taken => ?_, fun taken => ?_, fun taken => ?_,
    fun n taken outside => ?_⟩
  · exact request_answered taken rfl
  · exact request_answered taken (unitStatus_named (by decide) b _ _)
  · exact request_answered taken (unitStatus_named (by decide) a _ _)
  · exact request_answered taken (unitStatus_named (by decide) i _ _)
  · exact request_answered taken rfl
  · exact request_answered taken rfl
  · exact request_answered taken (unitStatus_unnamed (by omega) (by omega) _ _)

end Sys2Proof.Machine
end

section
/-! What every message leaves of the host line (O53): its operation, whatever the body, keeps the receiver, the link and the
link timer, and the frame around it is taken, discarded or ignored by the supply, the receiver and the pending reply. -/

namespace Sys2Proof.Machine

/-! ### Operations that leave the host line -/

theorem line_of_inputs {s t : State} (same : t.inputs = s.inputs) : t.line = s.line := congrArg Inputs.line same

@[simp] theorem ite_line (c : Prop) [Decidable c] (s t : State) :
    (if c then s else t).line = if c then s.line else t.line := apply_ite State.line c s t

@[simp] theorem each_line {α : Type} (f : State → α → State) (l : List α) (s : State)
    (same : ∀ s x, (f s x).line = s.line) : (s.each l f).line = s.line := each_keeps State.line f same l s

@[simp] theorem setMode_line (m : Mode) (s : State) : (setMode m s).line = s.line := line_of_inputs (setMode_inputs m s)

@[simp] theorem examineTrips_line (s : State) : (examineTrips s).line = s.line := line_of_inputs (examineTrips_inputs s)

@[simp] theorem drain_line (fuel : Nat) (s : State) : (drain fuel s).line = s.line := line_of_inputs (drain_inputs fuel s)

@[simp] theorem settleCommand_line (s : State) : (settleCommand s).line = s.line :=
  line_of_inputs (settleCommand_inputs s)

@[simp] theorem dayRollover_line (s : State) : (dayRollover s).line = s.line := by
  unfold dayRollover
  split <;> rfl

@[simp] theorem clearAll_line (l : List InstId) (s : State) : (clearAll l s).1.line = s.line :=
  (congrArg State.line (each_clearOne_cleared l s).frame :)

/-- An expiry touches nothing of the host line, in its account or in its report (R19 to R33, R45). -/
theorem interval_line (cfg : Configuration) (a : ArmNo) (s : State) : (interval cfg a s).line = s.line := calc
  (interval cfg a s).line = (account cfg a s).line := (congrArg State.line (reported_interval a s cfg).frame :)
  _ = s.line := (congrArg State.line (account_frame cfg a s) :)

/-! ### The commit (R165) -/

theorem retakeTemp_line (wasUsed : Bool) (a : ArmNo) (s : State) : (retakeTemp wasUsed a s).line = s.line := by
  simp [retakeTemp, setProbeFault]

theorem retakeArm_line (wasUsed : Bool) (a : ArmNo) (s : State) : (retakeArm wasUsed a s).line = s.line := by
  have conditions (t : State) : (setValveCond a false (setNoFlowCond a false t)).line = t.line :=
    line_of_inputs (by rw [setValveCond_inputs, setNoFlowCond_inputs])
  have restart (t : State) : (restartTravel a t).line = t.line := line_of_inputs (restartTravel_inputs a t)
  simp [retakeArm, conditions, restart]

theorem retakeArmRecord_line (wasUsed : Bool) (a : ArmNo) (s : State) : (retakeArmRecord wasUsed a s).line = s.line := by
  simp [retakeArmRecord, retakeArm_line, retakeTemp_line]

theorem retakeInjRecord_line (wasUsed : Bool) (i : InjNo) (s : State) : (retakeInjRecord wasUsed i s).line = s.line := by
  simp [retakeInjRecord]

/-- The commit tells the blocks, and none of them is the host line. -/
theorem commit_line (c : Configuration) (digest : BitVec 16) (s : State) : (commit c digest s).line = s.line := by
  simp [commit, interval_line, retakeArmRecord_line, retakeInjRecord_line]

/-! ### The owners of the messages -/

/-- The owner of a message leaves the host line as it was. -/
def LeavesLine (owner : State → State × Answer) : Prop := ∀ s, (owner s).1.line = s.line

@[simp] theorem answer_line (s : State) (r : ResultCode) : (s.answer r).1.line = s.line := rfl
@[simp] theorem okBytes_line (s : State) (l : List Byte) : (s.okBytes l).1.line = s.line := rfl

@[simp] theorem ite_owner_line (c : Prop) [Decidable c] (x y : State × Answer) :
    (if c then x else y).1.line = if c then x.1.line else y.1.line :=
  apply_ite (fun r : State × Answer => r.1.line) c x y

theorem noBody_leavesLine {owner : State → State × Answer} (body : List Byte) (leaves : LeavesLine owner) :
    LeavesLine (noBody body owner) := fun s => by
  simp [noBody, leaves s]

theorem unitStatus_leavesLine {n : Nat} (body : List Byte) (report : Fin n → State → ReplyBody) :
    LeavesLine (unitStatus n body report) := fun s => by
  unfold unitStatus
  split
  · simp
  · rfl

theorem setupOpenOwner_leavesLine : LeavesLine setupOpenOwner := fun s => by
  unfold setupOpenOwner
  split <;> rfl

theorem configPutOwner_leavesLine (body : List Byte) : LeavesLine (configPutOwner body) := fun s => by
  unfold configPutOwner
  split
  · rfl
  · split
    · split <;> rfl
    · rfl

theorem configReadOwner_leavesLine (body : List Byte) : LeavesLine (configReadOwner body) := fun s => by
  unfold configReadOwner
  simp only [ite_owner_line, answer_line, okBytes_line, ite_self]
  split
  · rfl
  · split
    · rfl
    · split
      · rfl
      · split
        · rfl
        · split <;> rfl

theorem setupCloseOwner_leavesLine (body : List Byte) : LeavesLine (setupCloseOwner body) := fun s => by
  unfold setupCloseOwner
  split
  · rfl
  · split
    · split
      · rfl
      · simp [commit_line]
    · rfl

theorem setupAbandonOwner_leavesLine : LeavesLine setupAbandonOwner := fun s => by
  unfold setupAbandonOwner
  split
  · simp
  · rfl

theorem permitPutOwner_leavesLine (body : List Byte) : LeavesLine (permitPutOwner body) := fun s => by
  unfold permitPutOwner
  split
  · rfl
  · split
    · rfl
    · split <;> rfl

theorem permitReadOwner_leavesLine (body : List Byte) : LeavesLine (permitReadOwner body) := fun s => by
  unfold permitReadOwner
  split
  · split <;> rfl
  · rfl

theorem namedPermit_leavesLine (body : List Byte) {owner : Nat → State → State × Answer}
    (leaves : ∀ n, LeavesLine (owner n)) : LeavesLine (namedPermit body owner) := fun s => by
  unfold namedPermit
  split
  · exact leaves _ s
  · rfl

theorem setPermitState_leavesLine (next : PermitState) (n : Nat) : LeavesLine (setPermitState next n) := fun s => by
  unfold setPermitState
  split
  · rfl
  · split <;> rfl

theorem permitRemoveOwner_leavesLine (n : Nat) : LeavesLine (permitRemoveOwner n) := fun s => by
  unfold permitRemoveOwner
  split
  · rfl
  · split <;> rfl

theorem quotaSetOwner_leavesLine (body : List Byte) : LeavesLine (quotaSetOwner body) := fun s => by
  unfold quotaSetOwner
  split
  · split
    · rfl
    · split <;> rfl
  · rfl

theorem orderPutOwner_leavesLine (body : List Byte) : LeavesLine (orderPutOwner body) := fun s => by
  unfold orderPutOwner
  split
  · rfl
  · split <;> rfl

theorem orderReply_line (s : State) (o : Option Order) : (orderReply s o).1.line = s.line := by
  cases o <;> rfl

theorem orderReadOwner_leavesLine (body : List Byte) : LeavesLine (orderReadOwner body) := fun s => by
  simp only [orderReadOwner, ite_owner_line, answer_line, okBytes_line, orderReply_line, ite_self]
  split
  · rfl
  · split
    · split
      · exact orderReply_line ..
      · rfl
    · rfl

theorem orderCancelOwner_leavesLine (body : List Byte) : LeavesLine (orderCancelOwner body) := fun s => by
  unfold orderCancelOwner
  split
  · split
    · rfl
    · split
      · rfl
      · split <;> rfl
  · rfl

theorem noteReadOwner_leavesLine (body : List Byte) : LeavesLine (noteReadOwner body) := fun s => by
  unfold noteReadOwner
  split
  · rfl
  · split <;> rfl

theorem noteReleaseOwner_leavesLine (body : List Byte) : LeavesLine (noteReleaseOwner body) := fun s => by
  unfold noteReleaseOwner
  split
  · rfl
  · split <;> rfl

theorem sessionEndOwner_leavesLine (body : List Byte) : LeavesLine (sessionEndOwner body) := fun s => by
  unfold sessionEndOwner
  split
  · simp [line_of_inputs (endSession_inputs ..)]
  · rfl

theorem clearOwner_leavesLine (body : List Byte) : LeavesLine (clearOwner body) := fun s => by
  unfold clearOwner
  split
  · rfl
  · simp

theorem tripRequestOwner_leavesLine : LeavesLine tripRequestOwner := fun s => by
  unfold tripRequestOwner
  split
  · exact line_of_inputs (startTrip_inputs .host s)
  all_goals rfl

theorem tripClearOwner_leavesLine : LeavesLine tripClearOwner := fun s => by
  unfold tripClearOwner
  split <;> simp

/-! ### What is kept -/

/-- The receiver, the link and its timer are in `t` as they are in `s`. -/
structure LinkKept (s t : State) : Prop where
  receiver : t.line.receiver = s.line.receiver
  link : t.line.link = s.line.link
  linkTimer : t.line.linkTimer = s.line.linkTimer

theorem LinkKept.of_line {s t : State} (same : t.line = s.line) : LinkKept s t := by
  constructor <;> rw [same]

theorem LinkKept.trans {s t u : State} (first : LinkKept s t) (second : LinkKept t u) : LinkKept s u :=
  ⟨second.receiver.trans first.receiver, second.link.trans first.link, second.linkTimer.trans first.linkTimer⟩

theorem linkKept_sendReply (kind : Byte) (x : Answer) (s : State) : LinkKept s (sendReply kind x s) := ⟨rfl, rfl, rfl⟩

theorem linkKept_setupQuery (s : State) : LinkKept s (setupQuery s) := ⟨rfl, rfl, rfl⟩

/-- CLOCK SET changes the clock's part of the host line (R176). -/
theorem linkKept_setClock (t : Stamp) (s : State) : LinkKept s (setClock t s) := by
  have set : LinkKept s (s.modLine fun l => { l with clock := some t, subSecond := 0 }) := ⟨rfl, rfl, rfl⟩
  unfold setClock
  simp only
  split
  · split
    · exact set
    · exact set.trans (.of_line (dayRollover_line _))
  · exact set

/-! ### Frames and their handling -/

/-- The handling of a frame keeps the receiver, the link and its timer. -/
def KeepsLink (handle : State → State) : Prop := ∀ s, LinkKept s (handle s)

/-- The owner of a message keeps them. -/
def OwnerKeepsLink (owner : State → State × Answer) : Prop := KeepsLink fun s => (owner s).1

theorem LeavesLine.keepsLink {owner : State → State × Answer} (leaves : LeavesLine owner) : OwnerKeepsLink owner :=
  fun s => .of_line (leaves s)

theorem clockSetOwner_keepsLink (body : List Byte) : OwnerKeepsLink (clockSetOwner body) := by
  intro s
  unfold clockSetOwner
  simp only
  split
  · exact linkKept_setClock _ s
  · exact .of_line rfl

theorem addressed_keepsLink {owner : State → State × Answer} (kind : Byte) (keeps : OwnerKeepsLink owner) :
    KeepsLink (addressed kind owner) := by
  intro s
  unfold addressed
  simp only
  split
  · exact (keeps s).trans (linkKept_sendReply kind _ _)
  · exact linkKept_sendReply kind _ s

theorem allCall_keepsLink {owner : State → State × Answer} (kind : Byte) (keeps : OwnerKeepsLink owner) :
    KeepsLink (allCall kind owner) := by
  intro s
  unfold allCall
  split
  · split
    · next t _ answered =>
      have kept := keeps s
      simp only [answered] at kept
      exact kept
    · exact .of_line rfl
  · exact .of_line rfl

theorem setupOpenFrame_keepsLink (body : List Byte) : KeepsLink fun s =>
    if s.mode = .run ∧ body = [] then setupQuery s else addressed 0x20 (noBody body setupOpenOwner) s := by
  intro s
  simp only
  split
  · exact linkKept_setupQuery s
  · exact addressed_keepsLink 0x20 (noBody_leavesLine body setupOpenOwner_leavesLine).keepsLink s

/-- What a command does is the receiving of a frame, with a handling that keeps the link. -/
def ReceivesFrame (run : State → Host.Outcome State Fault Refusal) : Prop :=
  ∃ handle, KeepsLink handle ∧ ∀ s, run s = .next (receiveFrame handle s)

theorem request_receives {owner : State → State × Answer} (kind : Byte) (keeps : OwnerKeepsLink owner) :
    ReceivesFrame (request kind owner) := ⟨_, addressed_keepsLink kind keeps, fun _ => rfl⟩

theorem requestTo_receives {owner : State → State × Answer} (dest : Dest) (kind : Byte) (keeps : OwnerKeepsLink owner) :
    ReceivesFrame (requestTo dest kind owner) := by
  cases dest
  · exact request_receives kind keeps
  · exact ⟨_, allCall_keepsLink kind keeps, fun _ => rfl⟩

/-- A message whose owner leaves the host line. -/
theorem LeavesLine.receives {owner : State → State × Answer} (leaves : LeavesLine owner) (kind : Byte) :
    ReceivesFrame (request kind owner) := request_receives kind leaves.keepsLink

/-- A frame of a kind that names no message is no reply, so it is received and answered UNKNOWN (R172, R173). -/
theorem unknownKind_receives {kind : Byte} {body : List Byte} (wf : (Instr.unknownKind kind body).WF) :
    ReceivesFrame (exec (.unknownKind kind body)) := by
  have below : ¬0x80 ≤ kind.toNat := by
    simp only [Instr.WF, Instr.wf, Bool.and_eq_true, decide_eq_true_eq] at wf
    omega
  exact ⟨_, linkKept_sendReply kind _, fun s => if_neg below⟩

/-- Every message, whatever its body, is a frame received. -/
theorem exec_receives {c : Instr} (frame : isFrame c = true) (wf : c.WF) : ReceivesFrame (exec c) := by
  cases c with
  | unknownKind kind body => exact unknownKind_receives wf
  | rackStatus body => exact (noBody_leavesLine body fun _ => rfl).receives 0x01
  | bayStatus body => exact (unitStatus_leavesLine body _).receives 0x02
  | armStatus body => exact (unitStatus_leavesLine body _).receives 0x03
  | injectorStatus body => exact (unitStatus_leavesLine body _).receives 0x04
  | supervisionList body => exact (noBody_leavesLine body fun _ => rfl).receives 0x05
  | totaliserRead body => exact (noBody_leavesLine body fun _ => rfl).receives 0x06
  | clockSet dest body => exact requestTo_receives dest 0x10 (clockSetOwner_keepsLink body)
  | setupOpen body => exact ⟨_, setupOpenFrame_keepsLink body, fun _ => rfl⟩
  | configPut body => exact (configPutOwner_leavesLine body).receives 0x21
  | configRead body => exact (configReadOwner_leavesLine body).receives 0x22
  | setupClose body => exact (setupCloseOwner_leavesLine body).receives 0x23
  | setupAbandon body => exact (noBody_leavesLine body setupAbandonOwner_leavesLine).receives 0x24
  | permitPut body => exact (permitPutOwner_leavesLine body).receives 0x30
  | permitRead body => exact (permitReadOwner_leavesLine body).receives 0x31
  | permitSuspend body => exact (namedPermit_leavesLine body (setPermitState_leavesLine .suspended)).receives 0x32
  | permitReinstate body => exact (namedPermit_leavesLine body (setPermitState_leavesLine .active)).receives 0x33
  | permitRemove body => exact (namedPermit_leavesLine body permitRemoveOwner_leavesLine).receives 0x34
  | quotaSet body => exact (quotaSetOwner_leavesLine body).receives 0x35
  | orderPut body => exact (orderPutOwner_leavesLine body).receives 0x40
  | orderRead body => exact (orderReadOwner_leavesLine body).receives 0x41
  | orderCancel body => exact (orderCancelOwner_leavesLine body).receives 0x42
  | sessionEnd body => exact (sessionEndOwner_leavesLine body).receives 0x50
  | noteIndex body => exact (noBody_leavesLine body fun _ => rfl).receives 0x60
  | noteRead body => exact (noteReadOwner_leavesLine body).receives 0x61
  | noteRelease body => exact (noteReleaseOwner_leavesLine body).receives 0x62
  | supervisionClear body => exact (clearOwner_leavesLine body).receives 0x70
  | tripRequest dest body =>
    exact requestTo_receives dest 0x71 (noBody_leavesLine body tripRequestOwner_leavesLine).keepsLink
  | tripClear body => exact (noBody_leavesLine body tripClearOwner_leavesLine).receives 0x72
  | restart body => exact (noBody_leavesLine body fun _ => rfl).receives 0x7F
  | _ => exact nomatch frame

/-! ### The frame by the supply, the receiver and the reply (R172, R173, R179) -/

section Receive

variable (handle : State → State) {s : State}

theorem receiveFrame_off (off : s.phase = .off) : receiveFrame handle s = s := by
  simp only [receiveFrame, off]

/-- Bytes skipped are ignored. -/
theorem receiveFrame_skipping (supplied : s.phase ≠ .off) (skipping : s.line.receiver = .skipping) :
    receiveFrame handle s = s.fresh := by
  unfold receiveFrame
  split
  · next off => exact absurd off supplied
  · exact if_pos skipping
  · exact if_pos skipping

/-- A frame that completes while a reply is pending is discarded. -/
theorem receiveFrame_pending (supplied : s.phase ≠ .off) (awake : s.line.receiver ≠ .skipping)
    (pending : s.line.reply.isSome = true) : receiveFrame handle s = setReceiver .hunt s.fresh := by
  unfold receiveFrame
  split
  · next off => exact absurd off supplied
  · rw [if_neg awake, if_pos pending]
  · rw [if_neg awake, if_pos pending]

end Receive

/-- A frame taken in service sets the link ONLINE and restarts its timer (R175). -/
theorem receiveFrame_ready_kept {handle : State → State} {s : State} (keeps : KeepsLink handle) (ready : Ready s)
    (free : LineFree s) : LinkKept (heard s) (receiveFrame handle s) := by
  rw [receiveFrame_ready handle s ready free]
  exact (keeps (heard s)).trans (.of_line (settleCommand_line _))

/-- Settles O53: each frame is received, and what its handling keeps is what the taking of the frame has set. -/
theorem everyFrameIsTakenOrLost : Obligations.EveryFrameIsTakenOrLost := by
  intro c s frame wf
  obtain ⟨handle, keeps, received⟩ := exec_receives frame wf
  rw [received s]
  refine ⟨fun off => ?_, fun supplied skipping => ?_, fun supplied awake pending => ?_, fun ready free => ?_,
    fun cause starting free => ?_⟩
  · rw [receiveFrame_off handle off]
  · rw [receiveFrame_skipping handle supplied skipping]
  · rw [receiveFrame_pending handle supplied awake pending]
    rfl
  · have kept := receiveFrame_ready_kept keeps ready free
    exact ⟨_, rfl, kept.receiver, kept.link, kept.linkTimer⟩
  · rw [receiveFrame_starting handle s cause starting free]
    have kept := keeps (setReceiver .hunt s.fresh)
    exact ⟨_, rfl, kept.receiver, kept.link, kept.linkTimer⟩

end Sys2Proof.Machine
end

section
/-! The step (O1, O2), and the end of a command (O4): the command at the front of the queue, an idle step by the phase, and
what the notices in flight leave. -/

namespace Sys2Proof.Machine

theorem step_queued {s : State} {c : Instr} {rest : List Instr} (waiting : s.pending = c :: rest) :
    step s = exec c { s with pending := rest } := by
  simp only [step, waiting]

theorem step_idle {s : State} (idle : s.pending = []) : step s = tick exec s := by
  simp only [step, idle]

theorem tick_off {s : State} (off : s.phase = .off) : tick exec s = .next s := by
  simp only [tick, off]

theorem tick_starting {s : State} {cause : StartCause} (starting : s.phase = .starting cause) :
    tick exec s = exec (.startUp []) s := by
  simp only [tick, starting]

theorem tick_service {s : State} (service : s.phase = .service) :
    tick exec s = performDue exec (due s) (advance s.fresh) := by
  simp only [tick, service]

/-- Settles O1. -/
theorem stepPerformsTheFrontCommand : Obligations.StepPerformsTheFrontCommand := fun _ _ _ waiting => step_queued waiting

/-- Settles O2: an idle step is a tick, and a tick in which nothing falls due performs nothing. -/
theorem idleStepLetsTimePass : Obligations.IdleStepLetsTimePass := by
  intro s idle
  rw [step_idle idle]
  refine ⟨tick_off, fun _ => tick_starting, fun service quiet => ?_⟩
  rw [tick_service service, quiet]
  rfl

/-- Settles O4: each notice leaves the inputs, and with none in flight the end of a command is its retained write. -/
theorem settlingKeepsTheInputs : Obligations.SettlingKeepsTheInputs :=
  fun s => ⟨settleCommand_inputs s, settleCommand_nil s⟩

end Sys2Proof.Machine
end

section
/-! The queue of waiting commands under the operations that a command performs beside those of `State.inputs`: the pins, the
metering, the bays, setup control, start-up and the host line (O3). None of them touches it. -/

namespace Sys2Proof.Machine

/-! ### What leaves the queue -/

/-- An operation that leaves the queue of waiting commands. -/
def LeavesPending (f : State → State) : Prop := ∀ s, (f s).pending = s.pending

theorem pending_of_inputs {s t : State} (same : t.inputs = s.inputs) : t.pending = s.pending :=
  congrArg Inputs.pending same

theorem leavesPending_of_inputs {f : State → State} (same : ∀ s, (f s).inputs = s.inputs) : LeavesPending f :=
  fun s => pending_of_inputs (same s)

theorem LeavesPending.comp {f g : State → State} (second : LeavesPending f) (first : LeavesPending g) :
    LeavesPending fun s => f (g s) := fun s => (second (g s)).trans (first s)

@[simp] theorem ite_pending (c : Prop) [Decidable c] (s t : State) :
    (if c then s else t).pending = if c then s.pending else t.pending := apply_ite State.pending c s t

@[simp] theorem each_pending {α : Type} (f : State → α → State) (l : List α) (s : State)
    (same : ∀ s x, (f s x).pending = s.pending) : (s.each l f).pending = s.pending :=
  each_keeps State.pending f same l s

@[simp] theorem activity_pending (b : BayNo) (k : Activity) (s : State) : (activity b k s).pending = s.pending :=
  pending_of_inputs (activity_inputs b k s)

@[simp] theorem setMode_pending (m : Mode) (s : State) : (setMode m s).pending = s.pending :=
  pending_of_inputs (setMode_inputs m s)

@[simp] theorem examineTrips_pending (s : State) : (examineTrips s).pending = s.pending :=
  pending_of_inputs (examineTrips_inputs s)

@[simp] theorem drain_pending (fuel : Nat) (s : State) : (drain fuel s).pending = s.pending :=
  pending_of_inputs (drain_inputs fuel s)

@[simp] theorem settleCommand_pending (s : State) : (settleCommand s).pending = s.pending :=
  pending_of_inputs (settleCommand_inputs s)

@[simp] theorem setNoFlowCond_pending (a : ArmNo) (p : Bool) (s : State) : (setNoFlowCond a p s).pending = s.pending :=
  pending_of_inputs (setNoFlowCond_inputs a p s)

@[simp] theorem setValveCond_pending (a : ArmNo) (p : Bool) (s : State) : (setValveCond a p s).pending = s.pending :=
  pending_of_inputs (setValveCond_inputs a p s)

@[simp] theorem restartTravel_pending (a : ArmNo) (s : State) : (restartTravel a s).pending = s.pending :=
  pending_of_inputs (restartTravel_inputs a s)

@[simp] theorem closeRequest_pending (n : Nat) (b : BayNo) (s : State) : (closeRequest n b s).1.pending = s.pending :=
  pending_of_inputs (closeRequest_inputs n b s)

@[simp] theorem setReceiver_pending (r : Receiver) (s : State) : (setReceiver r s).pending = s.pending := rfl

@[simp] theorem sendReply_pending (kind : Byte) (x : Answer) (s : State) : (sendReply kind x s).pending = s.pending := rfl

/-! ### Pins, edges and readings (R3 to R14, R69) -/

theorem setPulsePin_leavesPending (p : PulsePin) (level : Bool) : LeavesPending (setPulsePin p level) := fun s => by
  unfold setPulsePin
  split <;> rfl

theorem setSwitch_leavesPending (a : ArmNo) (w : ValveSwitch) (level : Bool) : LeavesPending (setSwitch a w level) := by
  cases w <;> exact fun _ => rfl

theorem setPermitPin_leavesPending (b : BayNo) (k : PermitInput) (level : Bool) :
    LeavesPending (setPermitPin b k level) := by
  cases k <;> exact fun _ => rfl

theorem setDeadmanPin_leavesPending (b : BayNo) (level : Bool) : LeavesPending (setDeadmanPin b level) := fun _ => rfl

theorem setEstopPin_leavesPending (level : Bool) : LeavesPending (setEstopPin level) := fun _ => rfl

theorem setResetPin_leavesPending (level : Bool) : LeavesPending (setResetPin level) := fun _ => rfl

theorem followPin_leavesPending (p : PulsePin) (level : Bool) : LeavesPending (followPin p level) := fun s => by
  cases p <;> simp [followPin]

theorem fallingEdge_leavesPending (p : PulsePin) : LeavesPending (fallingEdge p) := fun s => by
  cases p <;> simp [fallingEdge]

theorem pulseArrival_pending (a : ArmNo) (s : State) : (pulseArrival a s).pending = s.pending := by
  unfold pulseArrival
  simp only
  split
  · exact setNoFlowCond_pending ..
  · rfl

theorem risingEdge_leavesPending (a : ArmNo) (ch : Channel) : LeavesPending (risingEdge a ch) := fun s => by
  cases inUse : channelInUse (s.armCfg a) ch
  · rw [risingEdge_notInUse a ch s inUse]
  · rw [risingEdge_inUse a ch s inUse]
    cases ch
    · exact pulseArrival_pending a _
    · rfl

@[simp] theorem setProbeFault_pending (a : ArmNo) (p : Bool) (s : State) : (setProbeFault a p s).pending = s.pending := by
  simp [setProbeFault]

theorem recordArrival_leavesPending (a : ArmNo) (r : ReadingRecord) : LeavesPending (recordArrival a r) := fun s => by
  simp [recordArrival]

theorem recordTimerAt_leavesPending (a : ArmNo) : LeavesPending (recordTimerAt a) := fun s => by
  simp [recordTimerAt]

theorem additivePulse_leavesPending (i : InjNo) : LeavesPending (additivePulse i) := fun s => by
  simp [additivePulse, pending_of_inputs (additivePulseAt_inputs ..)]

/-- An expiry, in its account and in its report (R19 to R33, R45). -/
@[simp] theorem interval_pending (cfg : Configuration) (a : ArmNo) (s : State) :
    (interval cfg a s).pending = s.pending := calc
  (interval cfg a s).pending = (account cfg a s).pending := (congrArg State.pending (reported_interval a s cfg).frame :)
  _ = s.pending := (congrArg State.pending (account_frame cfg a s) :)

/-! ### The bays: deadman, card and keys (R108 to R123) -/

theorem windowOpensAt_leavesPending (b : BayNo) : LeavesPending (windowOpensAt b) := fun _ => rfl

theorem openRequest_pending (n : Nat) (b : BayNo) (s : State) : (openRequest n b s).1.pending = s.pending := by
  unfold openRequest
  repeat' split
  all_goals rfl

theorem takeOrder_pending (n : Nat) (b : BayNo) (mask : BitVec 12) (s : State) :
    (takeOrder n b mask s).1.pending = s.pending := by
  unfold takeOrder
  split <;> rfl

theorem reserve_pending (n preset : Nat) (s : State) : (reserve n preset s).1.pending = s.pending := by
  unfold reserve
  repeat' split
  all_goals rfl

theorem cardRequests_pending (b : BayNo) (p : Permit) (s : State) : (cardRequests b p s).pending = s.pending := by
  have opened := openRequest_pending p.number b s
  unfold cardRequests
  split
  · next s1 granted =>
    have taken := takeOrder_pending p.number b p.productMask s1
    rw [granted] at opened
    split
    · next s2 o found =>
      rw [found] at taken
      split
      · exact taken.trans opened
      · exact (closeRequest_pending ..).trans (taken.trans opened)
    · next s2 none_ =>
      rw [none_] at taken
      exact (closeRequest_pending ..).trans (taken.trans opened)
  · next s1 answer _ refused =>
    rw [refused] at opened
    exact opened

theorem cardAt_leavesPending (b : BayNo) (token : BitVec 64) : LeavesPending (cardAt b token) := fun s => by
  have counted : (activity b .card s).pending = s.pending := activity_pending b .card s
  unfold cardAt
  simp only
  split
  · exact counted
  · split
    · exact counted
    · split
      · exact counted
      · exact (cardRequests_pending ..).trans counted

theorem selectKey_leavesPending (b : BayNo) (c : CompNo) (a : ArmNo) : LeavesPending (selectKey b c a) := fun s => by
  unfold selectKey
  split
  · rfl
  · exact (congrArg State.pending (assign_frame ..) :)
  · rfl

theorem enterLowStart_pending (a : ArmNo) (s : State) : (enterLowStart a s).pending = s.pending :=
  (congrArg State.pending (enterLowStart_frame a s) :)

theorem startKey_leavesPending (b : BayNo) (a : ArmNo) : LeavesPending (startKey b a) := fun s => by
  unfold startKey
  split
  · rfl
  · rfl
  · next oc _ _ =>
    have asked := reserve_pending (sessionPermit s b) oc.preset s
    split
    · next s1 granted =>
      rw [granted] at asked
      exact (enterLowStart_pending a _).trans asked
    · next s1 exceeded =>
      rw [exceeded] at asked
      exact asked
    · next s1 answer _ _ refused =>
      rw [refused] at asked
      exact asked

theorem resumeKey_leavesPending (b : BayNo) (a : ArmNo) : LeavesPending (resumeKey b a) := fun s => by
  unfold resumeKey
  split
  · rfl
  · rfl
  · split
    · exact enterLowStart_pending a _
    · rfl

@[simp] theorem clearAll_pending (l : List InstId) (s : State) : (clearAll l s).1.pending = s.pending :=
  (congrArg State.pending (each_clearOne_cleared l s).frame :)

theorem resetKeyAt_leavesPending (b : BayNo) : LeavesPending (resetKeyAt b) := fun s =>
  clearAll_pending (resetScope s b) s

theorem rackResetAt_leavesPending : LeavesPending rackResetAt := fun s => by
  simp [rackResetAt, tripClearInTripped]

/-! ### Setup control (R158 to R166) -/

theorem decideSetupOpen_leavesPending : LeavesPending decideSetupOpen := fun s => by
  unfold decideSetupOpen
  split
  · rfl
  · simp [enterSetup]

theorem setupTimerAt_leavesPending : LeavesPending setupTimerAt := fun s => by
  simp [setupTimerAt]

theorem retakeTemp_pending (wasUsed : Bool) (a : ArmNo) (s : State) : (retakeTemp wasUsed a s).pending = s.pending := by
  simp [retakeTemp]

theorem retakeArm_pending (wasUsed : Bool) (a : ArmNo) (s : State) : (retakeArm wasUsed a s).pending = s.pending := by
  simp [retakeArm]

theorem retakeArmRecord_pending (wasUsed : Bool) (a : ArmNo) (s : State) :
    (retakeArmRecord wasUsed a s).pending = s.pending := by
  simp [retakeArmRecord, retakeArm_pending, retakeTemp_pending]

theorem retakeInjRecord_pending (wasUsed : Bool) (i : InjNo) (s : State) :
    (retakeInjRecord wasUsed i s).pending = s.pending := by
  simp [retakeInjRecord]

theorem commit_pending (c : Configuration) (digest : BitVec 16) (s : State) : (commit c digest s).pending = s.pending := by
  simp [commit, retakeArmRecord_pending, retakeInjRecord_pending]

/-! ### Start-up (R168, R169) -/

theorem putIntoService_pending (s : State) : (putIntoService s).pending = s.pending :=
  (congrArg State.pending (putIntoService_puts s).frame :)

theorem startWorking_pending (s : State) : (startWorking s).pending = s.pending :=
  (congrArg State.pending (startWorking_frame s) :)

theorem closeAllRetained_pending (cause : StartCause) (s : State) :
    (allBays.foldl (closeRetained cause) s).pending = s.pending :=
  (congrArg State.pending (closeAll_filed cause (l := allBays) (by decide) s).closing.frame :)

theorem runStartUp_leavesPending (cause : StartCause) (damaged : List RetainedCopy) :
    LeavesPending (runStartUp cause damaged) := fun s => by
  have read (t : State) : (readRetained t).pending = t.pending := rfl
  have cleaned (t : State) : (cleanPermits t).pending = t.pending := rfl
  simp only [runStartUp, settleCommand_pending, setMode_pending, startWorking_pending, putIntoService_pending, cleaned,
    closeAllRetained_pending, read]

/-! ### The host line (R172 to R176, R179) -/

theorem discardFrame_leavesPending (bytes : List Byte) : LeavesPending (discardFrame bytes) := fun s => by
  simp [discardFrame]

/-- Start-up begun by RESTART keeps the waiting commands (R168 step 1). -/
theorem replyGone_leavesPending : LeavesPending replyGone := fun s => by
  unfold replyGone
  split
  · split <;> rfl
  · rfl

theorem linkTimeoutAt_leavesPending : LeavesPending linkTimeoutAt := fun s => by
  simp [linkTimeoutAt]

theorem dayRollover_pending (s : State) : (dayRollover s).pending = s.pending := by
  unfold dayRollover
  split <;> rfl

theorem secondPasses_leavesPending : LeavesPending secondPasses := fun s => by
  unfold secondPasses
  split
  · rfl
  · simp [dayRollover_pending]

theorem setClock_pending (t : Stamp) (s : State) : (setClock t s).pending = s.pending := by
  unfold setClock
  simp only
  split
  · simp [dayRollover_pending]
  · rfl

end Sys2Proof.Machine
end

section
/-! The frames that commands run in and the owners of the messages leave the queue of waiting commands, and so every command
answers a next state with the queue as it was (O3). -/

namespace Sys2Proof.Machine

/-! ### The owners of the messages -/

/-- The owner of a message leaves the queue of waiting commands. -/
def OwnerLeavesPending (owner : State → State × Answer) : Prop := ∀ s, (owner s).1.pending = s.pending

@[simp] theorem answer_pending (s : State) (r : ResultCode) : (s.answer r).1.pending = s.pending := rfl
@[simp] theorem okBytes_pending (s : State) (l : List Byte) : (s.okBytes l).1.pending = s.pending := rfl

@[simp] theorem ite_owner_pending (c : Prop) [Decidable c] (x y : State × Answer) :
    (if c then x else y).1.pending = if c then x.1.pending else y.1.pending :=
  apply_ite (fun r : State × Answer => r.1.pending) c x y

theorem noBody_leavesPending {owner : State → State × Answer} (body : List Byte) (leaves : OwnerLeavesPending owner) :
    OwnerLeavesPending (noBody body owner) := fun s => by
  simp [noBody, leaves s]

theorem unitStatus_leavesPending {n : Nat} (body : List Byte) (report : Fin n → State → ReplyBody) :
    OwnerLeavesPending (unitStatus n body report) := fun s => by
  unfold unitStatus
  repeat' split
  all_goals rfl

theorem clockSetOwner_leavesPending (body : List Byte) : OwnerLeavesPending (clockSetOwner body) := fun s => by
  simp [clockSetOwner, setClock_pending]

theorem setupOpenOwner_leavesPending : OwnerLeavesPending setupOpenOwner := fun s => by
  unfold setupOpenOwner
  split <;> rfl

theorem configPutOwner_leavesPending (body : List Byte) : OwnerLeavesPending (configPutOwner body) := fun s => by
  unfold configPutOwner
  repeat' split
  all_goals rfl

theorem configReadOwner_leavesPending (body : List Byte) : OwnerLeavesPending (configReadOwner body) := fun s => by
  unfold configReadOwner
  simp only
  repeat' split
  all_goals rfl

theorem setupCloseOwner_leavesPending (body : List Byte) : OwnerLeavesPending (setupCloseOwner body) := fun s => by
  unfold setupCloseOwner
  split
  · rfl
  · split
    · split
      · rfl
      · simp [commit_pending]
    · rfl

theorem setupAbandonOwner_leavesPending : OwnerLeavesPending setupAbandonOwner := fun s => by
  unfold setupAbandonOwner
  split
  · simp
  · rfl

theorem permitPutOwner_leavesPending (body : List Byte) : OwnerLeavesPending (permitPutOwner body) := fun s => by
  unfold permitPutOwner
  repeat' split
  all_goals rfl

theorem permitReadOwner_leavesPending (body : List Byte) : OwnerLeavesPending (permitReadOwner body) := fun s => by
  unfold permitReadOwner
  repeat' split
  all_goals rfl

theorem namedPermit_leavesPending (body : List Byte) {owner : Nat → State → State × Answer}
    (leaves : ∀ n, OwnerLeavesPending (owner n)) : OwnerLeavesPending (namedPermit body owner) := fun s => by
  unfold namedPermit
  split
  · exact leaves _ s
  · rfl

theorem setPermitState_leavesPending (next : PermitState) (n : Nat) :
    OwnerLeavesPending (setPermitState next n) := fun s => by
  unfold setPermitState
  repeat' split
  all_goals rfl

theorem permitRemoveOwner_leavesPending (n : Nat) : OwnerLeavesPending (permitRemoveOwner n) := fun s => by
  unfold permitRemoveOwner
  repeat' split
  all_goals rfl

theorem quotaSetOwner_leavesPending (body : List Byte) : OwnerLeavesPending (quotaSetOwner body) := fun s => by
  unfold quotaSetOwner
  repeat' split
  all_goals rfl

theorem orderPutOwner_leavesPending (body : List Byte) : OwnerLeavesPending (orderPutOwner body) := fun s => by
  unfold orderPutOwner
  repeat' split
  all_goals rfl

theorem orderReadOwner_leavesPending (body : List Byte) : OwnerLeavesPending (orderReadOwner body) := fun s => by
  unfold orderReadOwner orderReply
  simp only
  repeat' split
  all_goals rfl

theorem orderCancelOwner_leavesPending (body : List Byte) : OwnerLeavesPending (orderCancelOwner body) := fun s => by
  unfold orderCancelOwner
  repeat' split
  all_goals rfl

theorem sessionEndOwner_leavesPending (body : List Byte) : OwnerLeavesPending (sessionEndOwner body) := fun s => by
  unfold sessionEndOwner
  split
  · simp [pending_of_inputs (endSession_inputs ..)]
  · rfl

theorem noteReadOwner_leavesPending (body : List Byte) : OwnerLeavesPending (noteReadOwner body) := fun s => by
  unfold noteReadOwner
  repeat' split
  all_goals rfl

theorem noteReleaseOwner_leavesPending (body : List Byte) : OwnerLeavesPending (noteReleaseOwner body) := fun s => by
  unfold noteReleaseOwner
  repeat' split
  all_goals rfl

theorem clearOwner_leavesPending (body : List Byte) : OwnerLeavesPending (clearOwner body) := fun s => by
  unfold clearOwner
  split
  · rfl
  · simp

theorem tripRequestOwner_leavesPending : OwnerLeavesPending tripRequestOwner := fun s => by
  unfold tripRequestOwner
  split
  · exact pending_of_inputs (startTrip_inputs .host s)
  all_goals rfl

theorem tripClearOwner_leavesPending : OwnerLeavesPending tripClearOwner := fun s => by
  unfold tripClearOwner
  split <;> simp

/-! ### The handling of a frame (R173) -/

theorem addressed_leavesPending {owner : State → State × Answer} (kind : Byte) (leaves : OwnerLeavesPending owner) :
    LeavesPending (addressed kind owner) := fun s => by
  unfold addressed
  simp only
  split
  · exact leaves s
  · rfl

theorem allCall_leavesPending {owner : State → State × Answer} (kind : Byte) (leaves : OwnerLeavesPending owner) :
    LeavesPending (allCall kind owner) := fun s => by
  have same := leaves s
  unfold allCall
  split
  · split
    · next t _ answered =>
      rw [answered] at same
      exact same
    · rfl
  · rfl

theorem setupOpenFrame_leavesPending (body : List Byte) : LeavesPending fun s =>
    if s.mode = .run ∧ body = [] then setupQuery s else addressed 0x20 (noBody body setupOpenOwner) s := by
  intro s
  simp only
  split
  · rfl
  · exact addressed_leavesPending 0x20 (noBody_leavesPending body setupOpenOwner_leavesPending) s

/-! ### The frames that commands run in -/

/-- The outcome is a next state, with the queue of waiting commands as it is in `s`. -/
def AnswersNext (s : State) (x : Host.Outcome State Fault Refusal) : Prop := ∃ t, x = .next t ∧ t.pending = s.pending

theorem answersNext {s t : State} (same : t.pending = s.pending) : AnswersNext s (.next t) := ⟨t, rfl, same⟩

section Frames

variable {f : State → State} (leaves : LeavesPending f) (s : State)
include leaves

theorem inService_answers : AnswersNext s (inService f s) := by
  refine answersNext ?_
  split
  · exact (settleCommand_pending _).trans (leaves s.fresh)
  · rfl

theorem onPin_answers {level : State → State} (pins : LeavesPending level) : AnswersNext s (onPin level f s) := by
  refine answersNext ?_
  split
  · exact (settleCommand_pending _).trans ((leaves.comp pins) s.fresh)
  · exact pins s.fresh

theorem onReceiver_answers : AnswersNext s (.next (onReceiver f s)) := by
  refine answersNext ?_
  unfold onReceiver
  split
  · rfl
  · exact leaves s.fresh

theorem receiveFrame_answers : AnswersNext s (.next (receiveFrame f s)) := by
  refine answersNext ?_
  unfold receiveFrame
  split
  · rfl
  · split
    · rfl
    · split
      · rfl
      · exact leaves (setReceiver .hunt s.fresh)
  · split
    · rfl
    · split
      · rfl
      · exact (settleCommand_pending _).trans (leaves (linkUp (setReceiver .hunt s.fresh)))

/-- A key record is an activity event before it is judged (R122). -/
theorem withKey_answers (b : BayNo) : AnswersNext s (inService (withKey b f) s) :=
  inService_answers (leaves.comp (activity_pending b .key)) s

end Frames

/-- A command in service whose operation leaves the input side of the state. -/
theorem inService_answers_of_inputs {f : State → State} (same : ∀ s, (f s).inputs = s.inputs) (s : State) :
    AnswersNext s (inService f s) := inService_answers (leavesPending_of_inputs same) s

theorem request_answers {owner : State → State × Answer} (kind : Byte) (leaves : OwnerLeavesPending owner) (s : State) :
    AnswersNext s (request kind owner s) := receiveFrame_answers (addressed_leavesPending kind leaves) s

/-- A message without arguments (R173, R184). -/
theorem request_noBody_answers {owner : State → State × Answer} (kind : Byte) (body : List Byte)
    (leaves : OwnerLeavesPending owner) (s : State) : AnswersNext s (request kind (noBody body owner) s) :=
  request_answers kind (noBody_leavesPending body leaves) s

theorem requestTo_answers {owner : State → State × Answer} (dest : Dest) (kind : Byte)
    (leaves : OwnerLeavesPending owner) (s : State) : AnswersNext s (requestTo dest kind owner s) := by
  cases dest
  · exact request_answers kind leaves s
  · exact receiveFrame_answers (allCall_leavesPending kind leaves) s

/-- A pause or a byte on the line moves the receiver, in the states where it counts, and nothing else (R172). -/
theorem onReceiver_moves_answers (c : State → Prop) [DecidablePred c] (r : Receiver) (s : State) :
    AnswersNext s (.next (onReceiver (fun s => if c s then setReceiver r s else s) s)) :=
  onReceiver_answers (fun t => by simp) s

/-! ### Commands -/

theorem startUp_answers (damaged : List RetainedCopy) (s : State) : AnswersNext s (exec (.startUp damaged) s) := by
  refine answersNext ?_
  split
  · exact runStartUp_leavesPending _ damaged s.fresh
  · rfl

theorem clockSecond_answers (s : State) : AnswersNext s (exec .clockSecond s) := by
  refine answersNext ?_
  split
  · rfl
  · exact secondPasses_leavesPending s.fresh
  · exact (settleCommand_pending _).trans (secondPasses_leavesPending s.fresh)

theorem permitChange_answers (b : BayNo) (k : PermitInput) (level : Bool) (s : State) :
    AnswersNext s (exec (.bayPermitChange b k level) s) := by
  refine onPin_answers ?_ s (setPermitPin_leavesPending b k level)
  split
  · exact fun _ => rfl
  · exact leavesPending_of_inputs (permitChanged_inputs b k)

/-- An unknown kind is a reply, which is discarded, or a request, which is answered UNKNOWN (R172, R173). -/
theorem unknownKind_answers (kind : Byte) (body : List Byte) (s : State) :
    AnswersNext s (exec (.unknownKind kind body) s) := by
  simp only [exec, execUnknownKind]
  split
  · exact onReceiver_answers (fun t => by simp) s
  · exact receiveFrame_answers (sendReply_pending kind _) s

theorem exec_answersNext (c : Instr) (s : State) : AnswersNext s (exec c s) := by
  cases c with
  | powerUp => exact answersNext rfl
  | startUp damaged => exact startUp_answers damaged s
  | acceptedRisingEdge arm channel =>
    exact inService_answers ((risingEdge_leavesPending arm channel).comp (setPulsePin_leavesPending _ _)) s
  | acceptedFallingEdge pin =>
    exact inService_answers ((fallingEdge_leavesPending pin).comp (setPulsePin_leavesPending _ _)) s
  | pulsePinChange pin level =>
    exact onPin_answers (followPin_leavesPending pin level) s (setPulsePin_leavesPending pin level)
  | readingRecord arm record =>
    cases record with
    | none => exact inService_answers (fun _ => rfl) s
    | some r => exact inService_answers (recordArrival_leavesPending arm r) s
  | recordTimerExpiry arm => exact inService_answers (recordTimerAt_leavesPending arm) s
  | intervalExpiry arm => exact inService_answers (fun t => interval_pending t.cfg arm t) s
  | valveSwitchChange arm switch level =>
    exact onPin_answers (leavesPending_of_inputs (switchChanged_inputs arm)) s (setSwitch_leavesPending arm switch level)
  | travelAllowanceExpiry arm => exact inService_answers_of_inputs (fun t => by simp [travelAt]) s
  | quietTimerExpiry arm => exact inService_answers_of_inputs (fun t => by simp [quietAt]) s
  | closingLimitExpiry arm => exact inService_answers_of_inputs (closingLimitAt_inputs arm) s
  | noFlowTimerExpiry arm => exact inService_answers_of_inputs (fun t => by simp [noFlowAt]) s
  | compartmentCompletion arm => exact inService_answers_of_inputs (completionDue_inputs arm) s
  | pumpStartDelayReached arm => exact inService_answers_of_inputs (startDelayReached_inputs arm) s
  | stopDelayExpiry pump => exact inService_answers_of_inputs (fun t => by simp [stopDelayAt]) s
  | additivePulse inj =>
    exact inService_answers ((additivePulse_leavesPending inj).comp (setPulsePin_leavesPending (.additive inj) true)) s
  | shotTimeLimit inj => exact inService_answers_of_inputs (shotLimitAt_inputs inj) s
  | settleTimeExpiry inj => exact inService_answers_of_inputs (finishShot_inputs inj) s
  | bayPermitChange bay permit level => exact permitChange_answers bay permit level s
  | deadmanPress bay held =>
    exact onPin_answers ((leavesPending_of_inputs (judgePress_inputs bay)).comp (activity_pending bay .deadman)) s
      (setDeadmanPin_leavesPending bay held)
  | deadmanWindowOpens bay => exact inService_answers (windowOpensAt_leavesPending bay) s
  | deadmanLate bay => exact inService_answers_of_inputs (deadmanLateAt_inputs bay) s
  | attentionTimerExpiry bay => exact inService_answers_of_inputs (fun t => by simp [attentionAt]) s
  | abandonTimerExpiry bay => exact inService_answers_of_inputs (fun t => by simp [abandonAt]) s
  | noteFiling bay => exact inService_answers_of_inputs (filingTest_inputs bay) s
  | card bay token => exact inService_answers (cardAt_leavesPending bay token) s
  | select bay comp arm => exact withKey_answers (selectKey_leavesPending bay comp arm) s bay
  | start bay arm => exact withKey_answers (startKey_leavesPending bay arm) s bay
  | resume bay arm => exact withKey_answers (resumeKey_leavesPending bay arm) s bay
  | stop bay arm => exact withKey_answers (leavesPending_of_inputs (stopKey_inputs bay arm)) s bay
  | finish bay arm => exact withKey_answers (leavesPending_of_inputs (finishKey_inputs bay arm)) s bay
  | endKey bay => exact withKey_answers (leavesPending_of_inputs (endKeyAt_inputs bay)) s bay
  | resetKey bay => exact withKey_answers (resetKeyAt_leavesPending bay) s bay
  | malformedRecord bay bytes => exact answersNext rfl
  | estopInputChange level =>
    exact onPin_answers (fun t => push_pending t (.condition .estop (!level))) s (setEstopPin_leavesPending level)
  | rackReset held => exact onPin_answers rackResetAt_leavesPending s (setResetPin_leavesPending held)
  | filterTimerExpiry inst => exact inService_answers_of_inputs (filterExpiry_inputs inst) s
  | tripDelayExpiry => exact inService_answers_of_inputs secondStage_inputs s
  | setupTimerExpiry => exact inService_answers setupTimerAt_leavesPending s
  | setupOpenDecision => exact inService_answers decideSetupOpen_leavesPending s
  | linkTimeout => exact inService_answers linkTimeoutAt_leavesPending s
  | clockSecond => exact clockSecond_answers s
  | interByteGap => exact onReceiver_moves_answers _ .hunt s
  | lineIdle => exact onReceiver_moves_answers _ .hunt s
  | frameDiscarded bytes => exact onReceiver_answers (discardFrame_leavesPending bytes) s
  | replyComplete => exact onReceiver_answers replyGone_leavesPending s
  | unknownKind kind body => exact unknownKind_answers kind body s
  | rackStatus body => exact request_noBody_answers 0x01 body (fun _ => rfl) s
  | bayStatus body => exact request_answers 0x02 (unitStatus_leavesPending body _) s
  | armStatus body => exact request_answers 0x03 (unitStatus_leavesPending body _) s
  | injectorStatus body => exact request_answers 0x04 (unitStatus_leavesPending body _) s
  | supervisionList body => exact request_noBody_answers 0x05 body (fun _ => rfl) s
  | totaliserRead body => exact request_noBody_answers 0x06 body (fun _ => rfl) s
  | clockSet dest body => exact requestTo_answers dest 0x10 (clockSetOwner_leavesPending body) s
  | setupOpen body => exact receiveFrame_answers (setupOpenFrame_leavesPending body) s
  | configPut body => exact request_answers 0x21 (configPutOwner_leavesPending body) s
  | configRead body => exact request_answers 0x22 (configReadOwner_leavesPending body) s
  | setupClose body => exact request_answers 0x23 (setupCloseOwner_leavesPending body) s
  | setupAbandon body => exact request_noBody_answers 0x24 body setupAbandonOwner_leavesPending s
  | permitPut body => exact request_answers 0x30 (permitPutOwner_leavesPending body) s
  | permitRead body => exact request_answers 0x31 (permitReadOwner_leavesPending body) s
  | permitSuspend body =>
    exact request_answers 0x32 (namedPermit_leavesPending body (setPermitState_leavesPending .suspended)) s
  | permitReinstate body =>
    exact request_answers 0x33 (namedPermit_leavesPending body (setPermitState_leavesPending .active)) s
  | permitRemove body => exact request_answers 0x34 (namedPermit_leavesPending body permitRemoveOwner_leavesPending) s
  | quotaSet body => exact request_answers 0x35 (quotaSetOwner_leavesPending body) s
  | orderPut body => exact request_answers 0x40 (orderPutOwner_leavesPending body) s
  | orderRead body => exact request_answers 0x41 (orderReadOwner_leavesPending body) s
  | orderCancel body => exact request_answers 0x42 (orderCancelOwner_leavesPending body) s
  | sessionEnd body => exact request_answers 0x50 (sessionEndOwner_leavesPending body) s
  | noteIndex body => exact request_noBody_answers 0x60 body (fun _ => rfl) s
  | noteRead body => exact request_answers 0x61 (noteReadOwner_leavesPending body) s
  | noteRelease body => exact request_answers 0x62 (noteReleaseOwner_leavesPending body) s
  | supervisionClear body => exact request_answers 0x70 (clearOwner_leavesPending body) s
  | tripRequest dest body =>
    exact requestTo_answers dest 0x71 (noBody_leavesPending body tripRequestOwner_leavesPending) s
  | tripClear body => exact request_noBody_answers 0x72 body tripClearOwner_leavesPending s
  | restart body => exact request_noBody_answers 0x7F body (fun _ => rfl) s
  | powerLoss lost => exact answersNext rfl
  | startByte => exact onReceiver_moves_answers _ .receiving s
  | lengthAbove1024 => exact onReceiver_answers (fun t => by simp) s

/-- Settles O3: each command runs in a frame that answers a next state, and its operation leaves the queue. -/
theorem everyCommandAnswersNext : Obligations.EveryCommandAnswersNext := exec_answersNext

end Sys2Proof.Machine
end

section
/-! The beginning of start-up (O11), and RESTART with the end of its reply (O14). -/

namespace Sys2Proof.Machine

/-! ### The safe state (R168, R179) -/

/-- Start-up begins with every valve closed, every pump off and the relay de-energised (R158, R168). -/
theorem beginStartUp_outputsOff (cause : StartCause) (s : State) : OutputsOff (beginStartUp cause s) := reset_outputsOff

/-- Start-up begins with every injector at rest (R69, R168). -/
theorem beginStartUp_atRest (cause : StartCause) (s : State) : InjectorsAtRest (beginStartUp cause s) := reset_atRest

/-! ### The end of a reply (R173, R178) -/

/-- REPLY_COMPLETE is, with supply, the end of the reply in the fresh state. -/
theorem exec_replyComplete {s t : State} (supplied : s.phase ≠ .off) (gone : replyGone s.fresh = t) :
    exec .replyComplete s = .next t := receiver_moves supplied gone

/-- A RESTART answered OK begins start-up when its reply has gone (R170). -/
theorem replyGone_restart {s : State} {body : ReplyBody} (sending : s.line.reply = some (.sending ⟨0x7F, .ok, body⟩)) :
    replyGone s = beginStartUp .restart s := by
  unfold replyGone
  rw [sending]
  exact if_pos ⟨rfl, rfl⟩

/-- The end of any other reply frees the line. -/
theorem replyGone_other {s : State} {r : Reply} (sending : s.line.reply = some (.sending r)) (other : r.kind ≠ 0x7F) :
    replyGone s = { s with line := { s.line with reply := none } } := by
  unfold replyGone
  rw [sending]
  exact if_neg fun restart => other restart.1

/-- Settles O11: both commands leave the state that start-up begins in, whose outputs are those of reset. -/
theorem startUpBeginsInTheSafeState : Obligations.StartUpBeginsInTheSafeState := by
  intro s
  refine ⟨⟨beginStartUp .power s, rfl, rfl, rfl, beginStartUp_outputsOff .power s,
    fun i => (beginStartUp_atRest .power s i).1, rfl, rfl, rfl, rfl, rfl, rfl, rfl, rfl⟩, fun body supplied sending => ?_⟩
  exact ⟨beginStartUp .restart s.fresh, exec_replyComplete supplied (replyGone_restart (s := s.fresh) sending), rfl, rfl,
    beginStartUp_outputsOff .restart s.fresh, fun i => (beginStartUp_atRest .restart s.fresh i).1,
    rfl, rfl, rfl, rfl, rfl, rfl, rfl, rfl, rfl⟩

/-! ### RESTART (R170, R174, R178) -/

/-- Every mode takes RESTART (R174). -/
theorem modeTakes_restart (m : Mode) : modeTakes m (0x7F : Byte).toNat = true := by
  cases m <;> rfl

/-- A request in START_UP that the mode takes is its owner's answer, with no notice taken and nothing retained. -/
theorem request_starting {kind : Byte} {owner : State → State × Answer} {s : State} {cause : StartCause}
    (starting : s.phase = .starting cause) (free : LineFree s) (takes : modeTakes s.mode kind.toNat = true) :
    request kind owner s = .next (sendReply kind (owner (setReceiver .hunt s.fresh)).2
      (owner (setReceiver .hunt s.fresh)).1) := by
  have takes : modeTakes (setReceiver .hunt s.fresh).mode kind.toNat = true := takes
  simp only [request, receiveFrame_starting _ s cause starting free, addressed, takes, if_true]

/-- Settles O14: the mode takes the request, its owner only answers, and a reply that ends is looked at by its kind. -/
theorem restartIsTakenInEveryMode : Obligations.RestartIsTakenInEveryMode := by
  intro s free
  refine ⟨fun ready => ?_, fun cause starting => ?_, fun r supplied other => ?_⟩
  · exact request_answered ⟨ready, free, modeTakes_restart s.mode⟩ rfl
  · exact request_starting starting free (modeTakes_restart s.mode)
  · exact exec_replyComplete supplied (replyGone_other rfl other)

end Sys2Proof.Machine
end

section
/-! Setup control: SETUP OPEN and its decision (O48), CONFIG PUT and the setup timer (O49), SETUP ABANDON (O51). -/

namespace Sys2Proof.Machine

/-! ### A rack that goes out of service (R41, R64, R158) -/

/-- A change to a mode out of service: the relay de-energised, every pump off and every valve commanded CLOSE. -/
theorem setMode_out {m : Mode} (out : m.mayFlow = false) (s : State) :
    (setMode m s).mode = m ∧ (setMode m s).relay = false ∧ (∀ p : PumpNo, pumpRun (setMode m s) p = false)
      ∧ ∀ a : ArmNo, (setMode m s).arms[a].command = .close := by
  have mode := setMode_mode m s
  have out' : (setMode m s).mode.mayFlow = false := by rw [mode]; exact out
  obtain ⟨-, pumps, relay⟩ := setMode_safe m s out'
  refine ⟨mode, relay, pumps, fun a => ?_⟩
  exact ((stagesFollow_iff _).1 (setMode_follow m s) a).trans (commandFor_safe _ _ _ out')

theorem setMode_setup (m : Mode) (s : State) : (setMode m s).setup = s.setup := (congrArg State.setup (setMode_frame m s) :)

/-! ### SETUP OPEN (R160) -/

/-- Two handlings that agree on the states a frame is handled in. -/
theorem receiveFrame_congr {f g : State → State} {s : State}
    (starting : f (setReceiver .hunt s.fresh) = g (setReceiver .hunt s.fresh)) (service : f (heard s) = g (heard s)) :
    receiveFrame f s = receiveFrame g s := by
  have service : f (linkUp (setReceiver .hunt s.fresh)) = g (linkUp (setReceiver .hunt s.fresh)) := service
  simp only [receiveFrame, starting, service]

/-- A SETUP OPEN that is not one to ask the bays about is a request of its owner. -/
theorem exec_setupOpen_asksNone {s : State} {body : List Byte} (none_ : ¬(s.mode = .run ∧ body = [])) :
    exec (.setupOpen body) s = request 0x20 (noBody body setupOpenOwner) s :=
  congrArg Host.Outcome.next (receiveFrame_congr (if_neg none_) (if_neg none_))

/-- In RUN the bays are asked. -/
theorem exec_setupOpen_asks {s : State} (ready : Ready s) (free : LineFree s) (run : s.mode = .run) :
    exec (.setupOpen []) s = .next (setupQuery (heard s)).write := by
  have asked : exec (.setupOpen []) s = .next (receiveFrame (fun s =>
      if s.mode = .run ∧ ([] : List Byte) = [] then setupQuery s else addressed 0x20 (noBody [] setupOpenOwner) s) s) := rfl
  have run' : (heard s).mode = .run ∧ ([] : List Byte) = [] := ⟨run, rfl⟩
  rw [asked, receiveFrame_ready _ s ready free, if_pos run',
    settleCommand_nil (setupQuery (heard s)) ready.2]

/-- What the bays are asked is whether they have a session. -/
theorem sessionsAsked (s : State) :
    vmap (fun b : Bay => b.session.isSome) s.fresh.bays = vmap (fun b : Bay => b.session.isSome) s.bays := by
  refine vec_ext _ _ fun i => ?_
  simp [State.fresh]

/-! ### The decision (R160) -/

/-- The query that a decision ends. -/
def queryOver (s : State) : State := { s with setup := { s.setup with query := none } }

section Decision

variable {s : State} {answers : Vector Bool 4} (query : s.setup.query = some answers)
include query

theorem decideSetupOpen_busy (busy : answers.toList.any id = true) :
    decideSetupOpen s = sendReply 0x20 (.busy, .bytes []) (queryOver s) := by
  simp only [decideSetupOpen, query, busy, if_true, queryOver]

theorem decideSetupOpen_tripped (idle : answers.toList.any id = false) (out : s.mode ≠ .run) :
    decideSetupOpen s = sendReply 0x20 (.tripActive, .bytes []) (queryOver s) := by
  simp only [decideSetupOpen, query, idle, Bool.false_eq_true, if_false, if_pos out, queryOver]

theorem decideSetupOpen_opens (idle : answers.toList.any id = false) (run : s.mode = .run) :
    decideSetupOpen s = sendReply 0x20 (.ok, .bytes []) (enterSetup (queryOver s)) := by
  have stays : ¬s.mode ≠ .run := not_not_intro run
  simp only [decideSetupOpen, query, idle, Bool.false_eq_true, if_false, if_neg stays, queryOver]

end Decision

/-- The change to SETUP reaches the rack mode, the valves, the pumps and the working copy. -/
theorem enterSetup_frame (s : State) : enterSetup s = { s with
    mode := (enterSetup s).mode, relay := (enterSetup s).relay, trip := (enterSetup s).trip
    arms := (enterSetup s).arms, pumps := (enterSetup s).pumps
    setup := { s.setup with working := s.setup.active, timer := none }, inbox := (enterSetup s).inbox } :=
  setMode_frame .setup { s with setup := { s.setup with working := s.setup.active, timer := none } }

theorem enterSetup_setup (s : State) :
    (enterSetup s).setup = { s.setup with working := s.setup.active, timer := none } := setMode_setup .setup _

theorem enterSetup_rack (s : State) :
    (enterSetup s).mode = .setup ∧ (enterSetup s).relay = false ∧ (∀ p : PumpNo, pumpRun (enterSetup s) p = false)
      ∧ ∀ a : ArmNo, (enterSetup s).arms[a].command = .close := setMode_out rfl _

/-- Settles O48: the bays asked, the request refused, and the decision by the answers and the mode. -/
theorem setupOpensOnAnIdleRack : Obligations.SetupOpensOnAnIdleRack := by
  intro s
  have refused {r : ResultCode} (taken : Taken 0x20 s) (mode : s.mode ≠ .run)
      (owner : setupOpenOwner (heard s) = (heard s).answer r) :
      exec (.setupOpen []) s = .next (sendReply 0x20 (r, .bytes []) (heard s)).write := by
    rw [exec_setupOpen_asksNone fun ask => mode ask.1]
    exact request_answered taken owner
  refine ⟨fun taken run => ?_, fun taken mode => ?_, fun taken mode => ?_, fun answers ready query => ?_⟩
  · refine ⟨_, exec_setupOpen_asks taken.1 taken.2.1 run, ?_, rfl, rfl⟩
    exact congrArg (fun v => { s.setup with query := some v }) (sessionsAsked s)
  · exact refused taken (by simp [mode]) (by simp only [setupOpenOwner, heard_mode, mode])
  · exact refused taken (by simp [mode]) (by simp only [setupOpenOwner, heard_mode, mode])
  · refine ⟨decideSetupOpen s.fresh, inService_ready decideSetupOpen s ready, ?_⟩
    have query : s.fresh.setup.query = some answers := query
    cases any : answers.toList.any id with
    | true =>
      rw [decideSetupOpen_busy query any]
      exact ⟨rfl, rfl, fun _ => ⟨rfl, rfl, rfl⟩, nofun, nofun⟩
    | false =>
      by_cases run : s.mode = .run
      · rw [decideSetupOpen_opens query any run]
        obtain ⟨mode, relay, pumps, arms⟩ := enterSetup_rack (queryOver s.fresh)
        have setup := enterSetup_setup (queryOver s.fresh)
        have frame := enterSetup_frame (queryOver s.fresh)
        generalize enterSetup (queryOver s.fresh) = t at *
        refine ⟨congrArg SetupControl.query setup, ?_, nofun, fun _ out => absurd run out, fun _ _ =>
          ⟨rfl, mode, relay, congrArg SetupControl.working setup, congrArg SetupControl.timer setup, pumps, arms⟩⟩
        rw [frame]
        rfl
      · rw [decideSetupOpen_tripped query any run]
        exact ⟨rfl, rfl, nofun, fun _ _ => ⟨rfl, rfl, rfl⟩, fun _ run' => absurd run' run⟩

/-! ### CONFIG PUT (R161) -/

section Put

variable {s : State} {body : List Byte} (length : recordLengthWrong body = false)
include length

/-- A good record joins the working copy. -/
theorem configPutOwner_puts {w : Configuration} {r : CfgRecord} (setup : s.mode = .setup)
    (working : s.setup.working = some w) (record : parseRecord body = some r) :
    configPutOwner body s = (({ s with setup := { s.setup with
      working := some (w.put r)
      timer := match s.setup.timer with
        | some t => some t
        | none => some (Timer.start Config.setupTicks) } } : State), .ok, .bytes []) := by
  simp only [configPutOwner, length, Bool.false_eq_true, if_false, setup, working, record]
  rfl

theorem configPutOwner_format {w : Configuration} (setup : s.mode = .setup) (working : s.setup.working = some w)
    (record : parseRecord body = none) : configPutOwner body s = (s, .format, .bytes []) := by
  simp only [configPutOwner, length, Bool.false_eq_true, if_false, setup, working, record]
  rfl

theorem configPutOwner_mode (setup : s.mode ≠ .setup) : configPutOwner body s = (s, .mode, .bytes []) := by
  unfold configPutOwner
  rw [length, if_neg Bool.false_ne_true]
  split
  · next mode _ => exact absurd mode setup
  · rfl

end Put

/-! ### The setup timer (R163) -/

/-- The working copy discarded and its timer stopped (R163, R166). -/
def copyDiscarded (s : State) : State := { s with setup := { s.setup with working := none, timer := none } }

theorem setupTimerAt_locks {s : State} (setup : s.mode = .setup) (running : isRunning s.setup.timer = true) :
    setupTimerAt s = setMode .setupLocked (copyDiscarded s) := if_pos ⟨setup, running⟩

/-- Settles O49: the owner by its mode, its length test and the record, and the setup timer. -/
theorem configPutEditsWithinTheSetupTime : Obligations.ConfigPutEditsWithinTheSetupTime := by
  refine ⟨fun s body taken length => ⟨fun w r setup working record => ?_, fun w setup working record => ?_,
    fun setup => ?_⟩, fun s ready setup running => ?_⟩
  · exact request_quiet 0x21 _ s _ _ taken (configPutOwner_puts (s := heard s) length setup working record) taken.1.2
  · exact request_answered taken (configPutOwner_format (s := heard s) length setup working record)
  · exact request_answered taken (configPutOwner_mode (s := heard s) length setup)
  · refine ⟨_, inService_ready setupTimerAt s ready, ?_⟩
    rw [setupTimerAt_locks (s := s.fresh) setup running]
    obtain ⟨mode, relay, -, -⟩ := setMode_out (m := .setupLocked) rfl (copyDiscarded s.fresh)
    have setup := setMode_setup .setupLocked (copyDiscarded s.fresh)
    have frame := setMode_frame .setupLocked (copyDiscarded s.fresh)
    generalize setMode .setupLocked (copyDiscarded s.fresh) = t at *
    refine ⟨mode, relay, congrArg (·.working) setup, congrArg (·.timer) setup, congrArg (·.active) setup,
      congrArg (·.digest) setup, ?_⟩
    rw [frame]
    rfl

/-! ### The examination of the instances (R139, R158) -/

/-- What starts a trip when RUN is entered (R139): an `Instance` ACTIVE or LATCHED whose kind has the trip flag. -/
def HoldsTrip (s : State) (i : InstId) : Prop :=
  (s.supCfg i).trip = true ∧ ((s.inst i).state = .active ∨ (s.inst i).state = .latched)

/-- The examination finds one that holds a trip and starts it, or none. -/
theorem examineTrips_cases {s : State} (run : s.mode = .run) :
    ((∀ i, ¬HoldsTrip s i) ∧ examineTrips s = s) ∨ ∃ i, HoldsTrip s i ∧ examineTrips s = startTrip (.fault i) s := by
  unfold examineTrips
  split
  · next i found =>
    have holds := List.find?_some found
    exact .inr ⟨i, by simpa [HoldsTrip] using holds, if_pos run⟩
  · next none_ =>
    refine .inl ⟨fun i holds => ?_, rfl⟩
    have clear := List.find?_eq_none.1 none_ i (mem_allInsts i)
    exact clear (by simpa [HoldsTrip] using holds)

theorem examineTrips_clear {s : State} (run : s.mode = .run) (clear : ∀ i, ¬HoldsTrip s i) : examineTrips s = s :=
  (examineTrips_cases run).elim And.right fun ⟨i, holds, _⟩ => absurd holds (clear i)

theorem examineTrips_held {s : State} {i : InstId} (run : s.mode = .run) (holds : HoldsTrip s i) :
    (examineTrips s).mode = .tripping := by
  rcases examineTrips_cases run with ⟨clear, -⟩ | ⟨j, -, trips⟩
  · exact absurd holds (clear i)
  · rw [trips]
    exact (startTrip_rackState _ s).1

/-- The examination leaves RUN or begins a trip, and the relay as it was. -/
theorem examineTrips_run {s : State} (run : s.mode = .run) :
    (examineTrips s).relay = s.relay ∧ ((examineTrips s).mode = .run ∨ (examineTrips s).mode = .tripping) := by
  rcases examineTrips_cases run with ⟨-, same⟩ | ⟨i, -, trips⟩
  · rw [same]
    exact ⟨rfl, .inl run⟩
  · obtain ⟨mode, relay, -⟩ := startTrip_rackState (.fault i) s
    rw [trips]
    exact ⟨relay, .inr mode⟩

theorem examineTrips_frame {s : State} (run : s.mode = .run) : examineTrips s = { s with
    mode := (examineTrips s).mode, trip := (examineTrips s).trip, arms := (examineTrips s).arms
    pumps := (examineTrips s).pumps, inbox := (examineTrips s).inbox } := by
  rcases examineTrips_cases run with ⟨-, same⟩ | ⟨i, -, trips⟩
  · rw [same]
  · rw [trips]
    exact startTrip_frame run (.fault i)

/-! ### SETUP brought to RUN (R158, R165, R166) -/

theorem setup_of_inputs {s t : State} (same : t.inputs = s.inputs) : t.setup = s.setup := congrArg Inputs.setup same

/-- The change from SETUP to RUN, with its examination. -/
def enterRun (s : State) : State := examineTrips (setMode .run s)

theorem enterRun_setup (s : State) : (enterRun s).setup = s.setup :=
  setup_of_inputs ((examineTrips_inputs _).trans (setMode_inputs .run s))

theorem enterRun_frame (s : State) : enterRun s = { s with
    mode := (enterRun s).mode, relay := (enterRun s).relay, trip := (enterRun s).trip, arms := (enterRun s).arms
    pumps := (enterRun s).pumps, inbox := (enterRun s).inbox } := by
  have first := setMode_frame .run s
  have second := examineTrips_frame (setMode_mode .run s)
  unfold enterRun
  generalize examineTrips (setMode .run s) = u at second ⊢
  generalize setMode .run s = t at first second
  rw [second, first]

/-- RUN is brought back with the relay energised, or a trip begins at once. -/
theorem enterRun_rack (s : State) :
    (enterRun s).relay = true ∧ ((enterRun s).mode = .run ∨ (enterRun s).mode = .tripping) := by
  obtain ⟨run, relay, -⟩ := setMode_run s
  obtain ⟨kept, mode⟩ := examineTrips_run run
  exact ⟨kept.trans relay, mode⟩

/-- A change of mode leaves what holds a trip. -/
theorem holdsTrip_setMode (m : Mode) (s : State) (i : InstId) : HoldsTrip (setMode m s) i ↔ HoldsTrip s i := by
  have frame := setMode_frame m s
  generalize setMode m s = t at frame ⊢
  rw [frame]
  rfl

theorem enterRun_clear {s : State} (clear : ∀ i, ¬HoldsTrip s i) : (enterRun s).mode = .run := by
  have run := setMode_mode .run s
  rw [enterRun, examineTrips_clear run fun i holds => clear i ((holdsTrip_setMode .run s i).1 holds)]
  exact run

theorem enterRun_held {s : State} {i : InstId} (holds : HoldsTrip s i) : (enterRun s).mode = .tripping :=
  examineTrips_held (setMode_mode .run s) ((holdsTrip_setMode .run s i).2 holds)

/-! ### SETUP ABANDON (R166) -/

theorem setupAbandonOwner_returns {s : State} {c : Configuration} (setup : s.mode = .setup)
    (active : s.setup.active = some c) : setupAbandonOwner s = (enterRun (copyDiscarded s), .ok, .bytes []) := by
  simp only [setupAbandonOwner, setup, active, State.answer, enterRun, copyDiscarded]

theorem setupAbandonOwner_refuses {s : State} (refuses : s.mode ≠ .setup ∨ s.setup.active = none) :
    setupAbandonOwner s = (s, .mode, .bytes []) := by
  unfold setupAbandonOwner
  split
  · next setup active =>
    rcases refuses with other | invalid
    · exact absurd setup other
    · rw [invalid] at active
      exact nomatch active
  · rfl

/-- A request that its mode does not take is answered MODE (R174). -/
theorem request_refused {kind : Byte} {owner : State → State × Answer} {s : State} (ready : Ready s) (free : LineFree s)
    (refuses : modeTakes s.mode kind.toNat = false) :
    request kind owner s = .next (sendReply kind (.mode, .bytes []) (heard s)).write := by
  have refuses : ¬modeTakes (heard s).mode kind.toNat = true := Bool.eq_false_iff.1 refuses
  simp only [request, receiveFrame_ready _ s ready free, addressed, if_neg refuses]
  exact congrArg Host.Outcome.next (settleCommand_nil _ ready.2)

/-- SETUP ABANDON out of place, whether or not the mode takes the message. -/
theorem exec_setupAbandon_refused {s : State} (ready : Ready s) (free : LineFree s)
    (refuses : s.mode ≠ .setup ∨ s.setup.active = none) :
    exec (.setupAbandon []) s = .next (sendReply 0x24 (.mode, .bytes []) (heard s)).write := by
  cases takes : modeTakes s.mode (0x24 : Byte).toNat with
  | true => exact request_answered ⟨ready, free, takes⟩ (setupAbandonOwner_refuses (s := heard s) refuses)
  | false => exact request_refused ready free takes

/-- Settles O51: the copy discarded and RUN entered with its examination, and the refusals. -/
theorem setupAbandonKeepsTheConfiguration : Obligations.SetupAbandonKeepsTheConfiguration := by
  intro s ready free
  refine ⟨fun setup valid => ?_, fun _ invalid => exec_setupAbandon_refused ready free (.inr invalid),
    fun other => exec_setupAbandon_refused ready free (.inl other)⟩
  obtain ⟨c, active⟩ := Option.isSome_iff_exists.1 valid
  have taken : Taken 0x24 s := ⟨ready, free, by rw [setup]; rfl⟩
  have owner : noBody [] setupAbandonOwner (heard s) = _ := setupAbandonOwner_returns (s := heard s) setup active
  have run := request_taken 0x24 (noBody [] setupAbandonOwner) s taken
  rw [owner] at run
  obtain ⟨relay, mode⟩ := enterRun_rack (copyDiscarded (heard s))
  have frame := enterRun_frame (copyDiscarded (heard s))
  have setup := enterRun_setup (copyDiscarded (heard s))
  have clears := enterRun_clear (s := copyDiscarded (heard s))
  have trips (i : InstId) := enterRun_held (s := copyDiscarded (heard s)) (i := i)
  generalize enterRun (copyDiscarded (heard s)) = t at *
  refine ⟨_, run, setup, rfl, relay, ?_, mode, fun clear => clears fun i ⟨trip, state⟩ => ?_,
    fun ⟨i, _, trip, state⟩ => trips i ⟨trip, state⟩⟩
  · rw [frame]
    rfl
  · obtain ⟨notActive, notLatched⟩ := clear i (mem_allInsts i) trip
    exact state.elim notActive notLatched

end Sys2Proof.Machine
end

section
/-! Messages that are only answered with a code (O54): the table of modes and messages, the length test of every message's
owner, and the frames that the two tests answer. -/

namespace Sys2Proof.Machine

/-! ### The table of modes and messages (R163, R174) -/

/-- The mode test of the interface is the table of R174. -/
theorem modeTakes_iff (m : Mode) (kind : Byte) : modeTakes m kind.toNat = true ↔ ModeAdmits m kind := by
  cases m with
  | startUp => simp [modeTakes, ModeAdmits, ← BitVec.toNat_inj]
  | setupLocked =>
    simp only [modeTakes, takenLocked, ModeAdmits, List.mem_cons, List.not_mem_nil, ← BitVec.toNat_inj, BitVec.reduceToNat,
      Bool.or_eq_true, Bool.and_eq_true, decide_eq_true_eq, or_false]
    omega
  | setup => exact iff_of_true rfl trivial
  | run => exact iff_of_true rfl trivial
  | tripping => exact iff_of_true rfl trivial
  | tripped => exact iff_of_true rfl trivial

theorem modeTakes_refuses {m : Mode} {kind : Byte} (refuses : ¬ModeAdmits m kind) : modeTakes m kind.toNat = false :=
  Bool.eq_false_iff.2 fun takes => refuses ((modeTakes_iff m kind).1 takes)

/-! ### Bytes of a body -/

theorem fld_byte {body : List Byte} {i : Nat} {x : Byte} (byte : body[i]? = some x) : fld body i 1 = x.toNat := by
  obtain ⟨within, rfl⟩ := List.getElem?_eq_some_iff.1 byte
  rw [fld, List.drop_eq_getElem_cons within, List.take_succ_cons, List.take_zero]
  simp [beNat]

/-! ### The length tests (R173, R182, R183, R184) -/

/-- The owner answers FORMAT and changes nothing. -/
def AnswersFormat (owner : State → State × Answer) : Prop := ∀ s, owner s = s.answer .format

section Length

variable {body : List Byte}

theorem noBody_length (owner : State → State × Answer) (wrong : ¬body = []) : AnswersFormat (noBody body owner) :=
  fun _ => if_neg wrong

theorem unitStatus_length {n : Nat} (report : Fin n → State → ReplyBody) (wrong : ¬body.length = 1) :
    AnswersFormat (unitStatus n body report) := fun s => by
  unfold unitStatus
  split
  · exact if_neg wrong
  · rfl

theorem clockSetOwner_length (wrong : ¬body.length = 6) : AnswersFormat (clockSetOwner body) :=
  fun _ => if_neg fun within => wrong within.1

/-- The lengths of R182 by the record's kind. -/
theorem recordLengthWrong_of (wrong : ¬LengthRight (.configPut body)) : recordLengthWrong body = true := by
  refine Bool.not_eq_false _ ▸ fun right => wrong ?_
  unfold recordLengthWrong at right
  cases body with
  | nil => simp [fld, beNat, recordLength] at right
  | cons kind rest =>
    rw [fld_cons_head] at right
    unfold recordLength at right
    simp only [LengthRight, List.forall_mem_cons, List.getElem?_cons_zero, Option.some.injEq, ← BitVec.toNat_inj,
      BitVec.reduceToNat, List.not_mem_nil, false_imp_iff, implies_true, and_true]
    generalize kind.toNat = k, (kind :: rest).length = n at right ⊢
    split at right
    · next m named =>
      have right : n = m := by simpa using right
      split at named <;> cases named <;> omega
    · next unnamed =>
      have right : 1 < n := by simpa using right
      have other : k = 0 ∨ 6 < k := by
        by_contra within
        have low : 1 ≤ k := by omega
        have high : k ≤ 6 := by omega
        interval_cases k <;> exact nomatch unnamed
      omega

theorem configPutOwner_length (wrong : ¬LengthRight (.configPut body)) : AnswersFormat (configPutOwner body) :=
  fun _ => if_pos (recordLengthWrong_of wrong)

theorem configReadOwner_length (wrong : ¬body.length = 2) : AnswersFormat (configReadOwner body) := fun _ => if_pos wrong

theorem setupCloseOwner_length (wrong : ¬body.length = 2) : AnswersFormat (setupCloseOwner body) := fun _ => if_pos wrong

theorem parsePermit_length {p : Permit} (parsed : parsePermit body = some p) : body.length = 22 := by
  simp only [parsePermit, Option.bind_eq_bind, Option.bind_eq_some_iff] at parsed
  obtain ⟨_, _, _, _, _, _, _, _, _, _, _, _, made⟩ := parsed
  split at made
  · next within => exact within.1
  · exact nomatch made

theorem permitPutOwner_length (wrong : ¬body.length = 22) : AnswersFormat (permitPutOwner body) := fun s => by
  cases parsed : parsePermit body with
  | none => exact permitPutOwner_format parsed
  | some p => exact absurd (parsePermit_length parsed) wrong

theorem permitReadOwner_length (wrong : ¬body.length = 3) : AnswersFormat (permitReadOwner body) :=
  fun _ => if_neg fun within => wrong within.1

theorem namedPermit_length (owner : Nat → State → State × Answer) (wrong : ¬body.length = 2) :
    AnswersFormat (namedPermit body owner) := fun s => by
  simp only [namedPermit, parsePermitNumber, if_neg wrong]

theorem quotaSetOwner_length (wrong : ¬body.length = 7) : AnswersFormat (quotaSetOwner body) := fun s => by
  unfold quotaSetOwner
  split
  · exact if_pos wrong
  · rfl

theorem parseOrder_length {o : Order} (parsed : parseOrder body = some o) :
    ∃ n, body[8]? = some n ∧ body.length = 9 + 6 * n.toNat := by
  simp only [parseOrder, Option.bind_eq_bind, Option.bind_eq_some_iff] at parsed
  obtain ⟨_, _, _, _, n, count, _, _, made⟩ := parsed
  split at made
  · next within =>
    have count : fld body 8 1 = n := by
      unfold rangeOf at count
      split at count
      · exact Option.some.inj count
      · exact nomatch count
    have byte : body[8]? = some body[8] := List.getElem?_eq_getElem (by omega)
    refine ⟨_, byte, ?_⟩
    rw [← fld_byte byte, count]
    exact within.1
  · exact nomatch made

theorem orderPutOwner_length (wrong : ¬LengthRight (.orderPut body)) : AnswersFormat (orderPutOwner body) := fun s => by
  unfold orderPutOwner
  split
  · rfl
  · next parsed => exact absurd (parseOrder_length parsed) wrong

theorem orderReadOwner_length (wrong : ¬body.length = 5) : AnswersFormat (orderReadOwner body) := fun _ => if_pos wrong

theorem orderCancelOwner_length (wrong : ¬body.length = 4) : AnswersFormat (orderCancelOwner body) := fun s => by
  unfold orderCancelOwner
  split
  · exact if_pos wrong
  · rfl

theorem sessionEndOwner_length (wrong : ¬body.length = 1) : AnswersFormat (sessionEndOwner body) := fun s => by
  unfold sessionEndOwner
  split
  · exact if_pos wrong
  · rfl

theorem parseNoteNumber_length (wrong : ¬body.length = 4) : parseNoteNumber body = none := if_neg wrong

theorem noteReadOwner_length (wrong : ¬body.length = 4) : AnswersFormat (noteReadOwner body) := fun s => by
  simp only [noteReadOwner, parseNoteNumber_length wrong]

theorem noteReleaseOwner_length (wrong : ¬body.length = 4) : AnswersFormat (noteReleaseOwner body) := fun s => by
  simp only [noteReleaseOwner, parseNoteNumber_length wrong]

theorem clearOwner_length (wrong : ¬body.length = 3) : AnswersFormat (clearOwner body) := fun s => by
  have unread : parseClear body = none := if_pos wrong
  simp only [clearOwner, unread]

end Length

/-! ### Every message and its owner -/

/-- The command is a request to an owner that answers FORMAT to a body of the wrong length; SETUP OPEN, which asks the bays
first, is one wherever it is not a whole request in RUN (R160). -/
def RequestOf (c : Instr) (kind : Byte) (dest : Dest) : Prop :=
  ∃ owner, (∀ s, (s.mode = .run → ¬LengthRight c) → exec c s = requestTo dest kind owner s)
    ∧ (¬LengthRight c → AnswersFormat owner)

/-- A message is a request of the kind and the address of the catalogue. -/
theorem RequestOf.of_catalogue {c : Instr} {kind kind' : Byte} {dest dest' : Dest} {owner : State → State × Answer}
    (message : some (kind', dest') = some (kind, dest)) (format : ¬LengthRight c → AnswersFormat owner)
    (runs : ∀ s, (s.mode = .run → ¬LengthRight c) → exec c s = requestTo dest' kind' owner s) : RequestOf c kind dest := by
  cases message
  exact ⟨owner, runs, format⟩

theorem requestOf_message {c : Instr} {kind : Byte} {dest : Dest} (message : messageOf c = some (kind, dest)) :
    RequestOf c kind dest := by
  cases c with
  | rackStatus body => exact .of_catalogue message (noBody_length _) fun _ _ => rfl
  | bayStatus body => exact .of_catalogue message (unitStatus_length _) fun _ _ => rfl
  | armStatus body => exact .of_catalogue message (unitStatus_length _) fun _ _ => rfl
  | injectorStatus body => exact .of_catalogue message (unitStatus_length _) fun _ _ => rfl
  | supervisionList body => exact .of_catalogue message (noBody_length _) fun _ _ => rfl
  | totaliserRead body => exact .of_catalogue message (noBody_length _) fun _ _ => rfl
  | clockSet towards body => exact .of_catalogue message clockSetOwner_length fun _ _ => rfl
  | setupOpen body =>
    exact .of_catalogue message (noBody_length setupOpenOwner) fun _ whole =>
      exec_setupOpen_asksNone fun ask => whole ask.1 ask.2
  | configPut body => exact .of_catalogue message configPutOwner_length fun _ _ => rfl
  | configRead body => exact .of_catalogue message configReadOwner_length fun _ _ => rfl
  | setupClose body => exact .of_catalogue message setupCloseOwner_length fun _ _ => rfl
  | setupAbandon body => exact .of_catalogue message (noBody_length _) fun _ _ => rfl
  | permitPut body => exact .of_catalogue message permitPutOwner_length fun _ _ => rfl
  | permitRead body => exact .of_catalogue message permitReadOwner_length fun _ _ => rfl
  | permitSuspend body => exact .of_catalogue message (namedPermit_length _) fun _ _ => rfl
  | permitReinstate body => exact .of_catalogue message (namedPermit_length _) fun _ _ => rfl
  | permitRemove body => exact .of_catalogue message (namedPermit_length _) fun _ _ => rfl
  | quotaSet body => exact .of_catalogue message quotaSetOwner_length fun _ _ => rfl
  | orderPut body => exact .of_catalogue message orderPutOwner_length fun _ _ => rfl
  | orderRead body => exact .of_catalogue message orderReadOwner_length fun _ _ => rfl
  | orderCancel body => exact .of_catalogue message orderCancelOwner_length fun _ _ => rfl
  | sessionEnd body => exact .of_catalogue message sessionEndOwner_length fun _ _ => rfl
  | noteIndex body => exact .of_catalogue message (noBody_length _) fun _ _ => rfl
  | noteRead body => exact .of_catalogue message noteReadOwner_length fun _ _ => rfl
  | noteRelease body => exact .of_catalogue message noteReleaseOwner_length fun _ _ => rfl
  | supervisionClear body => exact .of_catalogue message clearOwner_length fun _ _ => rfl
  | tripRequest towards body => exact .of_catalogue message (noBody_length _) fun _ _ => rfl
  | tripClear body => exact .of_catalogue message (noBody_length _) fun _ _ => rfl
  | restart body => exact .of_catalogue message (noBody_length _) fun _ _ => rfl
  | _ => exact nomatch message

/-! ### Frames that are only answered -/

/-- START_UP takes no kind but RESTART (R174). -/
theorem modeTakes_startUp {kind : Byte} (other : kind ≠ 0x7F) : modeTakes .startUp kind.toNat = false :=
  modeTakes_refuses (m := .startUp) other

section Refused

variable {kind : Byte} {owner : State → State × Answer} {s : State} {cause : StartCause}

/-- A request in START_UP that the mode does not take is answered MODE, and the link stands (R174, R175). -/
theorem request_starting_refused (starting : s.phase = .starting cause) (free : LineFree s)
    (refuses : modeTakes s.mode kind.toNat = false) :
    request kind owner s = .next (sendReply kind (.mode, .bytes []) (setReceiver .hunt s.fresh)) := by
  have refuses : ¬modeTakes (setReceiver .hunt s.fresh).mode kind.toNat = true := Bool.eq_false_iff.1 refuses
  simp only [request, receiveFrame_starting _ s cause starting free, addressed, if_neg refuses]
  rfl

theorem allCall_refused (refuses : modeTakes s.mode kind.toNat = false) : allCall kind owner s = s :=
  if_neg (Bool.eq_false_iff.1 refuses)

/-- An all-call frame that the mode does not take has no effect (R173). -/
theorem requestTo_allCall_refused (ready : Ready s) (free : LineFree s) (refuses : modeTakes s.mode kind.toNat = false) :
    requestTo .allCall kind owner s = .next (heard s).write := by
  have still : allCall kind owner (heard s) = heard s := allCall_refused refuses
  rw [requestTo, receiveFrame_ready _ s ready free, still, settleCommand_nil (heard s) ready.2]

theorem requestTo_allCall_starting (starting : s.phase = .starting cause) (free : LineFree s)
    (refuses : modeTakes s.mode kind.toNat = false) :
    requestTo .allCall kind owner s = .next (setReceiver .hunt s.fresh) := by
  have still : allCall kind owner (setReceiver .hunt s.fresh) = setReceiver .hunt s.fresh := allCall_refused refuses
  rw [requestTo, receiveFrame_starting _ s cause starting free, still]

end Refused

/-- A kind that names no message is answered UNKNOWN in service, whatever the mode (R173). -/
theorem exec_unknownKind {kind : Byte} {body : List Byte} {s : State} (wf : (Instr.unknownKind kind body).WF)
    (ready : Ready s) (free : LineFree s) :
    exec (.unknownKind kind body) s = .next (sendReply kind (.unknown, .bytes []) (heard s)).write := by
  have below : ¬0x80 ≤ kind.toNat := by
    simp only [Instr.WF, Instr.wf, Bool.and_eq_true, decide_eq_true_eq] at wf
    omega
  have run : exec (.unknownKind kind body) s = .next (receiveFrame (sendReply kind (.unknown, .bytes [])) s) := if_neg below
  rw [run, receiveFrame_ready _ s ready free, settleCommand_nil (sendReply kind (.unknown, .bytes []) (heard s)) ready.2]

/-- RESTART is no all-call message (R172). -/
theorem messageOf_allCall {c : Instr} {kind : Byte} (message : messageOf c = some (kind, .allCall)) : kind ≠ 0x7F := by
  cases c with
  | clockSet towards body => cases message; decide
  | tripRequest towards body => cases message; decide
  | _ => exact nomatch message

/-- Settles O54: the mode test, then the length test of the message's owner, for a request and for an all-call frame. -/
theorem unsuitedRequestsOnlyGetTheirCode : Obligations.UnsuitedRequestsOnlyGetTheirCode := by
  refine ⟨modeTakes_iff, fun s free => ⟨fun kind body wf ready => exec_unknownKind wf ready free,
    fun c kind message => ?_, fun c kind message => ?_⟩⟩
  · obtain ⟨owner, runs, format⟩ := requestOf_message message
    have run_admits (mode : s.mode = .run) : ModeAdmits s.mode kind := by rw [mode]; trivial
    refine ⟨fun ready refuses => ?_, fun cause starting mode other => ?_, fun ready admits wrong => ?_⟩
    · rw [runs s fun mode => absurd (run_admits mode) refuses]
      exact request_refused ready free (modeTakes_refuses refuses)
    · rw [runs s fun run => nomatch mode.symm.trans run]
      exact request_starting_refused starting free (by rw [mode]; exact modeTakes_startUp other)
    · rw [runs s fun _ => wrong]
      exact request_answered ⟨ready, free, (modeTakes_iff s.mode kind).2 admits⟩ (format wrong (heard s))
  · obtain ⟨owner, runs, format⟩ := requestOf_message message
    have run_admits (mode : s.mode = .run) : ModeAdmits s.mode kind := by rw [mode]; trivial
    refine ⟨fun ready unsuited => ?_, fun cause starting mode => ?_⟩
    · by_cases admits : ModeAdmits s.mode kind
      · have wrong := unsuited.resolve_left (not_not_intro admits)
        rw [runs s fun _ => wrong]
        exact allCall_notOk ⟨ready, free, (modeTakes_iff s.mode kind).2 admits⟩ (format wrong (heard s)) nofun
      · rw [runs s fun mode => absurd (run_admits mode) admits]
        exact requestTo_allCall_refused ready free (modeTakes_refuses admits)
    · rw [runs s fun run => nomatch mode.symm.trans run]
      exact requestTo_allCall_starting starting free (by rw [mode]; exact modeTakes_startUp (messageOf_allCall message))

end Sys2Proof.Machine
end

section
/-! The validation of SETUP CLOSE (R164): what each record's check answers, and that the first failure it finds is the first
in serialisation order (O50). -/

namespace Sys2Proof.Machine

/-! ### The checks of one record -/

/-- A record's answer is the least number of a check that it fails, and none where it fails none. -/
def LeastFailed (fails : Nat → Prop) : Option Nat → Prop
  | some n => fails n ∧ ∀ m, fails m → n ≤ m
  | none => ∀ m, ¬fails m

/-- A chain of three tests answers the first that fails, the checks standing in ascending order. -/
theorem leastFailed_chain {fails : Nat → Prop} {first second third : Prop} [Decidable first] [Decidable second]
    [Decidable third] {n₁ n₂ n₃ : Nat} (ascend : n₁ < n₂ ∧ n₂ < n₃)
    (checks : ∀ m, fails m ↔ (m = n₁ ∧ first) ∨ (m = n₂ ∧ second) ∨ (m = n₃ ∧ third)) :
    LeastFailed fails (if first then some n₁ else if second then some n₂ else if third then some n₃ else none) := by
  split
  · next failed =>
    refine ⟨(checks n₁).2 (.inl ⟨rfl, failed⟩), fun m fails => ?_⟩
    have := (checks m).1 fails
    omega
  · next passed =>
    split
    · next failed =>
      refine ⟨(checks n₂).2 (.inr (.inl ⟨rfl, failed⟩)), fun m fails => ?_⟩
      have := ((checks m).1 fails).resolve_left fun h => passed h.2
      omega
    · next passed' =>
      have third_ (m : Nat) (h : fails m) : m = n₃ ∧ third :=
        (((checks m).1 h).resolve_left fun h => passed h.2).resolve_left fun h => passed' h.2
      split
      · next failed =>
        exact ⟨(checks n₃).2 (.inr (.inr ⟨rfl, failed⟩)), fun m h => (third_ m h).1.ge⟩
      · next passed'' => exact fun m h => passed'' (third_ m h).2

theorem unitNo_inj {n : Nat} {i j : Fin n} : unitNo i = unitNo j ↔ i = j := by
  simp [unitNo, Fin.ext_iff]

theorem used_iff (x : ArmCfg) : x.used = true ↔ x.bay ≠ none := by
  rw [ArmCfg.used, Option.isSome_iff_ne_none]

/-- The flows rise from each point to the next, so from each to every later one. -/
theorem strictlyRising_iff (l : List MfPoint) :
    strictlyRising l = true ↔ l.Pairwise fun p q => p.flow < q.flow := by
  rw [← List.isChain_iff_pairwise]
  induction l with
  | nil => simp [strictlyRising]
  | cons p rest ih =>
    cases rest with
    | nil => simp [strictlyRising]
    | cons q rest => rw [strictlyRising, Bool.and_eq_true, decide_eq_true_eq, ih, List.isChain_cons_cons]

theorem armsNaming_eq_zero (c : Configuration) (b : BayNo) :
    armsNaming c b = 0 ↔ ∀ a : ArmNo, c.arms[a].bay ≠ some b := by
  simp [armsNaming, List.countP_eq_zero, mem_allArms]

theorem mem_allProducts (p : ProductNo) : p ∈ allProducts := by revert p; decide

/-- An entry that a used arm with the product is not served by (R164 check 7). -/
theorem entryServed_eq_false (c : Configuration) (p : ProductNo) (e : AdditiveEntry) :
    entryServed c p e = false ↔ ∃ (i : InjNo) (a : ArmNo), e.inj = some i ∧ c.arms[a].bay ≠ none
      ∧ maskHas c.arms[a].productMask p = true ∧ maskHas c.injectors[i].armMask a = false := by
  unfold entryServed
  split
  · next none_ => simp [none_]
  · next i named =>
    simp [named, List.all_eq_false, mem_allArms, ← used_iff, and_assoc]

theorem checkFails_bay (c : Configuration) (b : BayNo) (n : Nat) : CheckFails c 2 (unitNo b) n ↔
    (n = 1 ∧ c.bays[b].abandon ≤ c.bays[b].attention) ∨ (n = 2 ∧ 4 < armsNaming c b)
      ∨ (n = 3 ∧ c.bays[b].enabled = true ∧ armsNaming c b = 0) := by
  simp [CheckFails, unitNo_inj, armsNaming_eq_zero]
  simp [armsNaming, List.countP_eq_length_filter]

theorem checkFails_arm (c : Configuration) (a : ArmNo) (n : Nat) : CheckFails c 3 (unitNo a) n ↔
    (n = 4 ∧ c.arms[a].used = true ∧ strictlyRising c.arms[a].table = false)
      ∨ (n = 5 ∧ c.arms[a].closeAheadMax < c.arms[a].closeAheadInitial)
      ∨ (n = 6 ∧ c.arms[a].used = true
          ∧ allProducts.any (fun p => maskHas c.arms[a].productMask p && !c.products[p].enabled) = true) := by
  simp [CheckFails, unitNo_inj, used_iff, mem_allProducts, ← Bool.not_eq_true, strictlyRising_iff, ArmCfg.table]

/-- The entries of a product, either of them unserved. -/
theorem entriesServed_eq_false (c : Configuration) (p : ProductNo) (e e' : AdditiveEntry) :
    (entryServed c p e && entryServed c p e') = false ↔
      ∃ (i : InjNo) (a : ArmNo), (e.inj = some i ∨ e'.inj = some i) ∧ c.arms[a].bay ≠ none
        ∧ maskHas c.arms[a].productMask p = true ∧ maskHas c.injectors[i].armMask a = false := by
  simp only [Bool.and_eq_false_iff, entryServed_eq_false, ← exists_or, ← or_and_right]

theorem checkFails_product (c : Configuration) (p : ProductNo) (n : Nat) : CheckFails c 4 (unitNo p) n ↔
    n = 7 ∧ c.products[p].enabled = true
      ∧ (entryServed c p c.products[p].entry1 && entryServed c p c.products[p].entry2) = false := by
  rw [entriesServed_eq_false]
  simp [CheckFails, unitNo_inj]

/-! ### The records in their order (R167) -/

/-- What a record answers is the first of its own checks that fails. -/
theorem failedCheck_least {c : Configuration} {r : CfgRecord} (held : r ∈ c.records) :
    LeastFailed (CheckFails c r.place.1 r.place.2) (failedCheck c r) := by
  cases r with
  | rack x => simp [LeastFailed, failedCheck, CheckFails, CfgRecord.place]
  | injector i x => simp [LeastFailed, failedCheck, CheckFails, CfgRecord.place]
  | sup k x => simp [LeastFailed, failedCheck, CheckFails, CfgRecord.place]
  | bay b x =>
    obtain ⟨-, rfl⟩ : b ∈ allBays ∧ c.bays[b] = x := by simpa [Configuration.records] using held
    exact leastFailed_chain (by decide) (checkFails_bay c b)
  | arm a x =>
    obtain ⟨-, rfl⟩ : a ∈ allArms ∧ c.arms[a] = x := by simpa [Configuration.records] using held
    exact leastFailed_chain (by decide) (checkFails_arm c a)
  | product p x =>
    obtain ⟨-, rfl⟩ : p ∈ allProducts ∧ c.products[p] = x := by simpa [Configuration.records] using held
    have check := checkFails_product c p
    simp only [CfgRecord.place, failedCheck]
    split
    · next failed => exact ⟨(check 7).2 ⟨rfl, failed⟩, fun m fails => ((check m).1 fails).1.ge⟩
    · next passed => exact fun m fails => passed ((check m).1 fails).2

/-- The places of the 45 records ascend, kind first (R167). -/
theorem records_ascend (c : Configuration) : c.records.Pairwise fun r q =>
    r.place.1 < q.place.1 ∨ (r.place.1 = q.place.1 ∧ r.place.2 < q.place.2) := by
  have places : c.records.map CfgRecord.place = Configuration.factory.records.map CfgRecord.place := rfl
  have ascend : (Configuration.factory.records.map CfgRecord.place).Pairwise fun x y =>
      x.1 < y.1 ∨ (x.1 = y.1 ∧ x.2 < y.2) := by decide
  rw [← places] at ascend
  exact List.pairwise_map.1 ascend

/-- A failed check is one of a record that the configuration holds. -/
theorem checkFails_record {c : Configuration} {kind index check : Nat} (fails : CheckFails c kind index check) :
    ∃ r ∈ c.records, r.place = (kind, index) := by
  rcases fails with ⟨rfl, b, rfl, -⟩ | ⟨rfl, a, rfl, -⟩ | ⟨rfl, p, rfl, -⟩
  · exact ⟨.bay b c.bays[b], by simp [Configuration.records, mem_allBays], rfl⟩
  · exact ⟨.arm a c.arms[a], by simp [Configuration.records, mem_allArms], rfl⟩
  · exact ⟨.product p c.products[p], by simp [Configuration.records, mem_allProducts], rfl⟩

/-! ### The first failure (R164) -/

/-- A validation that answers finds the first failure. -/
theorem validation_first {c : Configuration} {kind index check : Nat}
    (found : validation c = some (kind, index, check)) : FirstFailure c kind index check := by
  obtain ⟨before, r, after, records, answer, passed⟩ := List.findSome?_eq_some_iff.1 found
  have held (q : CfgRecord) : q ∈ c.records ↔ q ∈ before ∨ q = r ∨ q ∈ after := by simp [records]
  obtain ⟨n, failed, place⟩ := Option.map_eq_some_iff.1 answer
  have least := failedCheck_least ((held r).2 (.inr (.inl rfl)))
  rw [failed] at least
  obtain ⟨fails, first⟩ := least
  obtain ⟨rfl, rfl, rfl⟩ : r.place.1 = kind ∧ r.place.2 = index ∧ n = check := by simpa using place
  refine ⟨fails, fun k i m other => ?_⟩
  obtain ⟨q, mem, at_⟩ := checkFails_record other
  obtain ⟨rfl, rfl⟩ : q.place.1 = k ∧ q.place.2 = i := by simp [at_]
  rcases (held q).1 mem with mem' | rfl | mem'
  · have least := failedCheck_least mem
    rw [Option.map_eq_none_iff.1 (passed q mem')] at least
    exact absurd other (least m)
  · exact .inr ⟨rfl, .inr ⟨rfl, first m other⟩⟩
  · have ascend := records_ascend c
    rw [records] at ascend
    have later := List.rel_of_pairwise_cons (List.pairwise_append.1 ascend).2.1 mem'
    exact later.imp_right fun ⟨same, less⟩ => ⟨same, .inl less⟩

/-- A validation that finds nothing leaves no check failed. -/
theorem validation_none {c : Configuration} (found : validation c = none) (kind index check : Nat) :
    ¬CheckFails c kind index check := by
  intro fails
  obtain ⟨r, mem, place⟩ := checkFails_record fails
  have least := failedCheck_least mem
  rw [Option.map_eq_none_iff.1 (List.findSome?_eq_none_iff.1 found r mem), place] at least
  exact least check fails

/-- There is one first failure. -/
theorem FirstFailure.unique {c : Configuration} {k i n k' i' n' : Nat} (one : FirstFailure c k i n)
    (other : FirstFailure c k' i' n') : (k, i, n) = (k', i', n') := by
  have le := one.2 _ _ _ other.1
  have ge := other.2 _ _ _ one.1
  simp only [Prod.mk.injEq]
  omega

theorem validation_eq_some {c : Configuration} {kind index check : Nat} (first : FirstFailure c kind index check) :
    validation c = some (kind, index, check) := by
  cases found : validation c with
  | none => exact absurd first.1 (validation_none found _ _ _)
  | some x => exact congrArg some ((validation_first found).unique first)

theorem validation_eq_none {c : Configuration} (passes : ∀ k i n, ¬CheckFails c k i n) : validation c = none := by
  cases found : validation c with
  | none => rfl
  | some x => exact absurd (validation_first found).1 (passes _ _ _)

end Sys2Proof.Machine
end

section
/-! The commit of SETUP CLOSE (R165): what the early expiries and the new records make of each arm's inputs, the mode that the
notices in flight may move, and the message (O50). -/

namespace Sys2Proof.Machine

/-! ### What the inputs carry -/

theorem counted_of_inputs {s t : State} (same : t.inputs = s.inputs) (a : ArmNo) :
    t.meters[a].counted = s.meters[a].counted := by
  have meters : vmap MeterEngine.counted t.meters = vmap MeterEngine.counted s.meters := congrArg Inputs.meters same
  have here := congrArg (fun v : Vector Counted 8 => v[a.val]) meters
  simpa only [vmap_get, Fin.getElem_fin] using here

theorem retakeInjRecord_inputs (wasUsed : Bool) (i : InjNo) (s : State) :
    (retakeInjRecord wasUsed i s).inputs = s.inputs := by
  simp [retakeInjRecord]

/-- Once the arms' blocks have taken their records, the rest of a commit leaves the inputs (R84, R139, R158). -/
theorem commit_inputs (c : Configuration) (digest : BitVec 16) (s : State) :
    (commit c digest s).inputs = (armsCommitted c digest s).inputs := by
  have injectors := each_inputs (armsCommitted c digest s) (fun t i => retakeInjRecord s.cfg.injectors[i].used i t)
    (allInjs.filter (injRecordChanged s.setup.active c)) fun t i => retakeInjRecord_inputs _ i t
  unfold commit
  simp only [examineTrips_inputs, setMode_inputs, drain_inputs]
  exact injectors

/-! ### The early expiries (R39) -/

theorem interval_setup (cfg : Configuration) (a : ArmNo) (s : State) : (interval cfg a s).setup = s.setup := calc
  (interval cfg a s).setup = (account cfg a s).setup := (congrArg State.setup (reported_interval a s cfg).frame :)
  _ = s.setup := (congrArg State.setup (account_frame cfg a s) :)

/-- The pulse input and the meter of an arm are in `t` as they are in `s`. -/
def ArmInputsKept (a : ArmNo) (s t : State) : Prop := t.pulses[a] = s.pulses[a] ∧ t.meters[a] = s.meters[a]

theorem ArmInputsKept.trans {a : ArmNo} {s t u : State} (first : ArmInputsKept a s t) (second : ArmInputsKept a t u) :
    ArmInputsKept a s u := ⟨second.1.trans first.1, second.2.trans first.2⟩

/-- A change of one arm's pulse input and meter keeps those of the others. -/
theorem ArmInputsKept.of_vmod {a x : ArmNo} {s t : State} {f : PulseInput → PulseInput} {g : MeterEngine → MeterEngine}
    (pulses : t.pulses = vmod s.pulses x f) (meters : t.meters = vmod s.meters x g) (other : a ≠ x) :
    ArmInputsKept a s t := by
  refine ⟨?_, ?_⟩
  · rw [pulses]
    exact vmod_other _ _ _ _ other
  · rw [meters]
    exact vmod_other _ _ _ _ other

/-- A list of arms' operations, each on its own pulse input and meter, keeps those of an arm not on the list. -/
theorem ArmInputsKept.each {f : State → ArmNo → State} {a : ArmNo}
    (one : ∀ s x, a ≠ x → ArmInputsKept a s (f s x)) (l : List ArmNo) (s : State) (off : a ∉ l) :
    ArmInputsKept a s (s.each l f) := by
  induction l generalizing s with
  | nil => exact ⟨rfl, rfl⟩
  | cons x l ih =>
    obtain ⟨other, off⟩ := not_or.1 (mt List.mem_cons.2 off)
    exact (one s x other).trans (ih (f s x) off)

theorem interval_keepsArm (cfg : Configuration) {a : ArmNo} (s : State) (x : ArmNo) (other : a ≠ x) :
    ArmInputsKept a s (interval cfg x s) :=
  .of_vmod (interval_pulses cfg x s) ((interval_meters cfg x s).trans (account_meters cfg x s)) other

/-! ### The new records (R12, R39) -/

section Retake

variable (wasUsed : Bool) (a : ArmNo) (s : State)

theorem retakeTemp_meters : (retakeTemp wasUsed a s).meters = s.meters := by
  simp [retakeTemp, setProbeFault, apply_ite State.meters]

theorem retakeTemp_setup : (retakeTemp wasUsed a s).setup = s.setup := by
  simp [retakeTemp, setProbeFault, apply_ite State.setup]

theorem retakeArmRecord_pulses : (retakeArmRecord wasUsed a s).pulses
    = vmod s.pulses a fun _ => initialPulse (s.armCfg a) s.pins.pulseA[a] s.pins.pulseB[a] := by
  simp only [retakeArmRecord, retakeArm_pulses, retakeTemp_pulses, modMeter_pulses, modPulse_pulses]

theorem retakeArmRecord_meters : (retakeArmRecord wasUsed a s).meters
    = vmod s.meters a fun m => { m with interval := 0, rG := 0, rS := 0 } := by
  have arm (t : State) : (retakeArm wasUsed a t).meters = t.meters :=
    (congrArg State.meters (armOnly_retakeArm wasUsed a t).1 :)
  simp only [retakeArmRecord, arm, retakeTemp_meters, modMeter_meters, modPulse_meters]

theorem retakeArmRecord_setup : (retakeArmRecord wasUsed a s).setup = s.setup := by
  have arm (t : State) : (retakeArm wasUsed a t).setup = t.setup :=
    (congrArg State.setup (armOnly_retakeArm wasUsed a t).1 :)
  simp only [retakeArmRecord, arm, retakeTemp_setup, modMeter_setup, modPulse_setup]

end Retake

/-- What a changed ARM record makes of its arm's meter and pulse input (R12, R39). -/
def ArmRetaken (c : Configuration) (a : ArmNo) (t : State) : Prop :=
  t.meters[a].rG = 0 ∧ t.meters[a].rS = 0 ∧ t.pulses[a].count = 0
    ∧ t.pulses[a].locked = !(c.arms[a].used && c.arms[a].dual)

theorem ArmRetaken.of_kept {c : Configuration} {a : ArmNo} {s t : State} (retaken : ArmRetaken c a s)
    (kept : ArmInputsKept a s t) : ArmRetaken c a t := by
  unfold ArmRetaken
  rwa [kept.1, kept.2]

theorem retakeArmRecord_retaken {c : Configuration} {s : State} (active : s.setup.active = some c) (wasUsed : Bool)
    (a : ArmNo) : ArmRetaken c a (retakeArmRecord wasUsed a s) := by
  have cfg : s.armCfg a = c.arms[a] := by simp only [State.armCfg, State.cfg, active]
  simp [ArmRetaken, retakeArmRecord_pulses, retakeArmRecord_meters, initialPulse, cfg]

theorem retakeArmRecord_keepsArm (wasUsed : Bool) {a : ArmNo} (s : State) (x : ArmNo) (other : a ≠ x) :
    ArmInputsKept a s (retakeArmRecord wasUsed x s) :=
  .of_vmod (retakeArmRecord_pulses wasUsed x s) (retakeArmRecord_meters wasUsed x s) other

theorem each_retakeArmRecord_setup (wasUsed : ArmNo → Bool) (l : List ArmNo) (s : State) :
    (s.each l fun t x => retakeArmRecord (wasUsed x) x t).setup = s.setup :=
  each_keeps State.setup _ (fun t x => retakeArmRecord_setup (wasUsed x) x t) l s

/-- Every arm of a list takes its record, and keeps what it has taken while the others take theirs. -/
theorem each_retakeArmRecord {c : Configuration} (wasUsed : ArmNo → Bool) (l : List ArmNo) {s : State}
    (active : s.setup.active = some c) {a : ArmNo} (mem : a ∈ l) :
    ArmRetaken c a (s.each l fun t x => retakeArmRecord (wasUsed x) x t) := by
  induction l generalizing s with
  | nil => exact absurd mem List.not_mem_nil
  | cons x l ih =>
    have active' : (retakeArmRecord (wasUsed x) x s).setup.active = some c := by rw [retakeArmRecord_setup, active]
    by_cases later : a ∈ l
    · exact ih active' later
    · obtain rfl := (List.mem_cons.1 mem).resolve_right later
      exact (retakeArmRecord_retaken active (wasUsed a) a).of_kept
        (.each (fun t y => retakeArmRecord_keepsArm (wasUsed y) t y) l _ later)

/-! ### The arms committed (R165) -/

section Committed

variable (c : Configuration) (digest : BitVec 16) (s : State)

/-- Setup control once the new records are in force. -/
def setupCommitted : SetupControl :=
  { active := some c, digest := digest, working := none, timer := none, query := none }

/-- The new records in force after the early expiries, the arms' blocks still to be told. -/
def recordsInForce : State :=
  { s.each (allArms.filter (armRecordChanged s.setup.active c)) fun t a => interval s.cfg a t with
    setup := setupCommitted c digest }

theorem armsCommitted_eq : armsCommitted c digest s = (recordsInForce c digest s).each
    (allArms.filter (armRecordChanged s.setup.active c)) fun t a => retakeArmRecord s.cfg.arms[a].used a t := rfl

theorem armsCommitted_setup : (armsCommitted c digest s).setup = setupCommitted c digest :=
  each_retakeArmRecord_setup (fun a => s.cfg.arms[a].used) _ (recordsInForce c digest s)

variable {c digest s} {a : ArmNo}

theorem armsCommitted_changed (changed : armRecordChanged s.setup.active c a = true) :
    ArmRetaken c a (armsCommitted c digest s) :=
  each_retakeArmRecord (fun x => s.cfg.arms[x].used) _ (s := recordsInForce c digest s) rfl
    (List.mem_filter.2 ⟨mem_allArms a, changed⟩)

theorem armsCommitted_unchanged (same : armRecordChanged s.setup.active c a = false) :
    ArmInputsKept a s (armsCommitted c digest s) := by
  have off : a ∉ allArms.filter (armRecordChanged s.setup.active c) := fun mem =>
    Bool.false_ne_true (same.symm.trans (List.mem_filter.1 mem).2)
  obtain ⟨pulse, meter⟩ := ArmInputsKept.each (fun t x => interval_keepsArm s.cfg t x) _ s off
  have expired : ArmInputsKept a s (recordsInForce c digest s) := ⟨pulse, meter⟩
  exact expired.trans (.each (fun t x => retakeArmRecord_keepsArm s.cfg.arms[x].used t x) _ (recordsInForce c digest s) off)

end Committed

/-! ### The mode along the trip (R139, R142) -/

/-- From `s` to `t` the rack keeps its mode or is in the trip. -/
def AlongTrip (s t : State) : Prop := t.mode = s.mode ∨ t.mode = .tripping ∨ t.mode = .tripped

theorem AlongTrip.of_rackState {s t : State} (same : t.rackState = s.rackState) : AlongTrip s t :=
  .inl (congrArg RackState.mode same)

theorem AlongTrip.trans {s t u : State} (first : AlongTrip s t) (second : AlongTrip t u) : AlongTrip s u := by
  rcases second with same | trips
  · unfold AlongTrip
    rwa [same]
  · exact .inr trips

theorem tripOn_along (i : InstId) (s : State) : AlongTrip s (tripOn i s) := by
  unfold tripOn
  split
  · exact .inr (.inl (startTrip_rackState _ s).1)
  · exact .inl rfl

theorem enterActive_along (i : InstId) (fromRecovering : Bool) (s : State) :
    AlongTrip s (enterActive i fromRecovering s) := by
  unfold enterActive
  refine .trans (.of_rackState ?_) (tripOn_along i _)
  simp

theorem condition_along (i : InstId) (present : Bool) (s : State) : AlongTrip s (condition i present s) := by
  have told : AlongTrip s (s.modInst i fun x => { x with cond := present }) := .inl rfl
  unfold condition
  simp only
  split
  · exact .inl rfl
  · split
    · split
      · split
        · exact told.trans (enterActive_along i false _)
        · exact .inl rfl
      · exact told.trans (enterActive_along i true _)
      · exact told
    · split
      · exact .inl rfl
      · split
        · exact .inl rfl
        · split <;> exact .inl rfl
      · exact told

theorem eventAt_along (i : InstId) (s : State) : AlongTrip s (eventAt i s) := by
  unfold eventAt
  simp only
  split
  · refine .trans (.of_rackState ?_) (tripOn_along i _)
    simp
  · split
    · refine .trans (.of_rackState ?_) (tripOn_along i _)
      simp
    · exact .of_rackState (by simp)

theorem secondStage_along (s : State) : AlongTrip s (secondStage s) := by
  unfold secondStage
  split <;> exact .inl rfl

theorem bayReport_along (b : BayNo) (s : State) : AlongTrip s (bayReport b s) := by
  unfold bayReport
  split
  · simp only
    split
    · exact .inr (.inr (setMode_mode .tripped _))
    · exact .inl rfl
  · exact .inl rfl

/-- A notice leaves the mode or moves it along the trip. -/
theorem take_along (n : Notice) (s : State) : AlongTrip s (take n s) := by
  cases n with
  | armChanged a => exact .of_rackState (armChanged_rackState a s)
  | testArm a => exact .of_rackState (testArm_rackState a s)
  | stopArm a cause => exact .of_rackState (stopArm_rackState a cause s)
  | forceArm a => exact .of_rackState (forceArm_rackState a s)
  | finishArm a => exact .of_rackState (finishArm_rackState a s)
  | releaseArm a => exact .of_rackState (releaseArm_rackState a s)
  | redeliver a => exact .of_rackState (redeliver_rackState a s)
  | completed b c => exact .of_rackState (completed_rackState b c s)
  | condition i present => exact condition_along i present s
  | event i => exact eventAt_along i s
  | tripNotice b => exact .of_rackState (endSession_rackState b .trip s)
  | stageTwoNotice b => exact .of_rackState (stageTwoNotice_rackState b s)
  | tripInjector i => exact .of_rackState (tripInjector_rackState i s)
  | stageTwoInjector i => exact .of_rackState (stageTwoInjector_rackState i s)
  | bayReport b => exact bayReport_along b s
  | secondStage => exact secondStage_along s
  | filingTest b => exact .of_rackState (filingTest_rackState b s)
  | shotWritten b i => exact .of_rackState (shotWritten_rackState b i s)

theorem drain_along (fuel : Nat) (s : State) : AlongTrip s (drain fuel s) := by
  induction fuel generalizing s with
  | zero => exact .inl rfl
  | succ fuel ih =>
    unfold drain
    split
    · exact .inl rfl
    · next n rest _ => exact (take_along n { s with inbox := rest }).trans (ih _)

theorem settleCommand_along (s : State) : AlongTrip s (settleCommand s) := drain_along Config.requestFuel s

/-! ### The message (R164, R165) -/

theorem settleCommand_setup (s : State) : (settleCommand s).setup = s.setup := setup_of_inputs (settleCommand_inputs s)

/-- The configuration in force is retained at the end of the command. -/
theorem settleCommand_config {s : State} {c : Configuration} (active : s.setup.active = some c) :
    (settleCommand s).nv.config = some (c, s.setup.digest) := by
  have setup : (drain Config.requestFuel s).setup = s.setup := setup_of_inputs (drain_inputs _ s)
  show (drain Config.requestFuel s).image.config = _
  simp only [State.image, setup, active]

/-- The end of a SETUP CLOSE whose commit has left `u`: the answer OK, the notices and the retained write. -/
def setupClosed (u : State) : State := settleCommand (sendReply 0x23 (.ok, .bytes []) u)

section Closed

variable (u : State)

theorem setupClosed_setup : (setupClosed u).setup = u.setup := settleCommand_setup _

theorem setupClosed_reply : (setupClosed u).line.reply = bytesReply 0x23 .ok [] :=
  congrArg HostLine.reply (settleCommand_line _)

theorem setupClosed_pulses : (setupClosed u).pulses = u.pulses := settleCommand_pulses _

theorem setupClosed_counted (a : ArmNo) : (setupClosed u).meters[a].counted = u.meters[a].counted :=
  settleCommand_counted _ a

variable {u}

theorem setupClosed_config {c : Configuration} {digest : BitVec 16} (committed : u.setup = setupCommitted c digest) :
    (setupClosed u).nv.config = some (c, digest) := by
  have setup : (sendReply 0x23 (.ok, .bytes []) u).setup = setupCommitted c digest := committed
  rw [setupClosed, settleCommand_config (congrArg SetupControl.active setup), setup]
  rfl

/-- A trip that begins at once or on a notice may bring the rack on from RUN (R139, R142). -/
theorem setupClosed_mode (entered : u.mode = .run ∨ u.mode = .tripping) :
    (setupClosed u).mode = .run ∨ (setupClosed u).mode = .tripping ∨ (setupClosed u).mode = .tripped := by
  rcases settleCommand_along (sendReply 0x23 (.ok, .bytes []) u) with kept | trips
  · rw [setupClosed, kept]
    exact entered.imp_right .inl
  · exact .inr trips

end Closed

/-- The commit brings the rack out of SETUP into RUN, with its examination (R139, R158, R165). -/
theorem commit_mode (c : Configuration) (digest : BitVec 16) (s : State) :
    (commit c digest s).mode = .run ∨ (commit c digest s).mode = .tripping := (enterRun_rack _).2

theorem commit_setup (c : Configuration) (digest : BitVec 16) (s : State) :
    (commit c digest s).setup = setupCommitted c digest :=
  (setup_of_inputs (commit_inputs c digest s)).trans (armsCommitted_setup c digest s)

section Close

variable {s : State} {c : Configuration} {body : List Byte} (length : body.length = 2) (setup : s.mode = .setup)
  (working : s.setup.working = some c)
include length setup working

theorem setupCloseOwner_invalid {kind index check : Nat} (found : validation c = some (kind, index, check)) :
    setupCloseOwner body s = (s, .invalid, .bytes (be 1 kind ++ be 1 index ++ be 1 check)) := by
  simp only [setupCloseOwner, length, ne_eq, not_true, if_false, setup, working, found]

variable (found : validation c = none)
include found

theorem setupCloseOwner_digest (differs : c.digestOf.toNat ≠ fld body 0 2) :
    setupCloseOwner body s = (s, .digest, .bytes []) := by
  simp only [setupCloseOwner, length, ne_eq, not_true, if_false, setup, working, found, if_neg differs, State.answer]

theorem setupCloseOwner_commits (equal : c.digestOf.toNat = fld body 0 2) :
    setupCloseOwner body s = (commit c c.digestOf s, .ok, .bytes []) := by
  simp only [setupCloseOwner, length, ne_eq, not_true, if_false, setup, working, found, if_pos equal, State.answer]

end Close

/-- Settles O50: the validation's first failure, the digest, and the commit part by part. -/
theorem setupCloseCommitsOnTheDigest : Obligations.SetupCloseCommitsOnTheDigest := by
  intro s c body taken setup working length
  refine ⟨fun kind index check first => ?_, fun passes differs => ?_, fun passes equal => ?_⟩
  · exact request_answered taken
      (setupCloseOwner_invalid (s := heard s) length setup working (validation_eq_some first))
  · exact request_answered taken
      (setupCloseOwner_digest (s := heard s) length setup working (validation_eq_none passes) differs)
  · have owner := setupCloseOwner_commits (s := heard s) length setup working (validation_eq_none passes) equal
    have run := request_taken 0x23 (setupCloseOwner body) s taken
    rw [owner] at run
    have setup := commit_setup c c.digestOf (heard s)
    have mode := commit_mode c c.digestOf (heard s)
    have pulses := commit_pulses c c.digestOf (heard s)
    have counted := counted_of_inputs (commit_inputs c c.digestOf (heard s))
    generalize commit c c.digestOf (heard s) = u at *
    refine ⟨setupClosed u, run, (setupClosed_setup u).trans setup, setupClosed_reply u, setupClosed_config setup,
      setupClosed_mode mode, fun a changed => ?_, fun a same => ?_⟩
    · have counted := (setupClosed_counted u a).trans (counted a)
      obtain ⟨gross, standard, count, locked⟩ := armsCommitted_changed (s := heard s) (digest := c.digestOf) changed
      rw [setupClosed_pulses, pulses]
      exact ⟨(congrArg Counted.rG counted).trans gross, (congrArg Counted.rS counted).trans standard, count, locked⟩
    · have counted := (setupClosed_counted u a).trans (counted a)
      obtain ⟨pulse, meter⟩ := armsCommitted_unchanged (s := heard s) (digest := c.digestOf) same
      rw [setupClosed_pulses, pulses]
      exact ⟨pulse, (congrArg Counted.totaliser counted).trans (congrArg MeterEngine.totaliser meter)⟩

end Sys2Proof.Machine
end
